-- ==== Sys2Proof/Word.lean ====
section
/-! DEFINITION. The word types of the hub's frames and packets, and the numbers of its ports and presets. -/

namespace Sys2Proof

/-- One byte of a frame or a packet (R190). -/
abbrev Byte := BitVec 8

/-- A two-byte field. -/
abbrev Half := BitVec 16

/-- A four-byte field. -/
abbrev Word := BitVec 32

/-- A tether port, 0 to 7 (Numbering, 00). -/
abbrev PortId := Fin 8

/-- A lens preset, 0 to 15 (Numbering, 00). -/
abbrev PresetId := Fin 16

end Sys2Proof
end

