-- ==== Sys2Proof/Syntax.lean ====
section
/-! DEFINITION. The commands of the hub: one constructor for each row of spec/opcode_table.json, with its operands.
A host request carries the host tag and the port field of its frame (R191) and the payload fields of R194, at their
widths on the wire; an event carries what the outside world brings with it. -/

namespace Sys2Proof

/-- What every request frame carries beside its kind: the host tag and the port field (R180, R191). -/
structure ReqHeader where
  tag : Half
  port : Byte
  deriving DecidableEq, Repr

/-- The payload of SET_POOL (R194): bit i of the mask names the i-th field. -/
structure SetPoolFields where
  mask : Byte
  budget : Word
  vPool : Half
  derate : Half
  kill : Half
  trip : Half
  deriving DecidableEq, Repr

/-- The payload of SET_CABLE_KIND (R194). -/
structure SetCableKindFields where
  index : Byte
  mask : Byte
  velocity : Half
  loop : Half
  connector : Half
  deriving DecidableEq, Repr

/-- The payload of SET_PORT (R194). -/
structure SetPortFields where
  mask : Half
  priority : Byte
  cableKind : Byte
  declaredLength : Half
  vMin : Half
  lensPower : Half
  retryLimit : Byte
  damagedPolicy : Byte
  autoHome : Byte
  flexThreshold : Byte
  drift : Byte
  defaultExposure : Word
  holdLimit : Half
  outputGroup : Byte
  deriving DecidableEq, Repr

/-- The payload of SET_SOURCE (R194). -/
structure SetSourceFields where
  source : Byte
  mask : Byte
  edge : Byte
  holdoff : Word
  period : Word
  portMask : Byte
  deriving DecidableEq, Repr

/-- One step as SET_PROGRAM carries it: a preset byte (0xFF is NONE) and an exposure (R194). -/
structure WireStep where
  preset : Byte
  exposure : Word
  deriving DecidableEq, Repr

/-- The payload of SET_PRESET (R194). -/
structure SetPresetFields where
  index : Byte
  mask : Byte
  focus : Half
  iris : Half
  zoom : Half
  settle : Byte
  tolerance : Byte
  valid : Byte
  deriving DecidableEq, Repr

/-- The payload of CAM_ACCESS (R194). -/
structure CamAccessFields where
  kind : Byte
  param : Half
  value : Word
  deriving DecidableEq, Repr

/-- How an upstream packet ended (R4). -/
inductive PacketEnding
  | delimiter
  | abortSymbol
  | framingLoss
  deriving DecidableEq, Repr

/-- The samples of one shot: the deviation in per mille of the step at ticks 1, 2, ... (R146). A tick beyond the end of
the list deviates by 0. -/
abbrev Samples := List Int

/-- The commands. Constructors stand in the order of the table. -/
inductive Instr
  /-- IDENTIFY -/
  | identify (h : ReqHeader)
  /-- RESTART -/
  | restart (h : ReqHeader)
  /-- ENTER_RUN -/
  | enterRun (h : ReqHeader)
  /-- ENTER_CONFIG -/
  | enterConfig (h : ReqHeader)
  /-- READ_HUB -/
  | readHub (h : ReqHeader)
  /-- SET_NOTICE_MASK -/
  | setNoticeMask (h : ReqHeader) (mask : Half)
  /-- SET_POOL -/
  | setPool (h : ReqHeader) (f : SetPoolFields)
  /-- READ_POOL -/
  | readPool (h : ReqHeader)
  /-- FEED_RESTORE -/
  | feedRestore (h : ReqHeader)
  /-- SET_CABLE_KIND -/
  | setCableKind (h : ReqHeader) (f : SetCableKindFields)
  /-- CALIBRATE -/
  | calibrate (h : ReqHeader)
  /-- CABLE_LEARN -/
  | cableLearn (h : ReqHeader)
  /-- DIAGNOSE; bit 0 of the options is FORCE -/
  | diagnose (h : ReqHeader) (options : Byte)
  /-- READ_CABLE -/
  | readCable (h : ReqHeader)
  /-- READ_FINDINGS -/
  | readFindings (h : ReqHeader) (offset count : Byte)
  /-- CLEAR_FINDINGS -/
  | clearFindings (h : ReqHeader)
  /-- SET_PORT -/
  | setPort (h : ReqHeader) (f : SetPortFields)
  /-- SET_REACTION -/
  | setReaction (h : ReqHeader) (kind reaction : Byte)
  /-- PORT_ENABLE -/
  | portEnable (h : ReqHeader)
  /-- PORT_DISABLE -/
  | portDisable (h : ReqHeader)
  /-- PORT_RELEASE -/
  | portRelease (h : ReqHeader)
  /-- READ_PORT -/
  | readPort (h : ReqHeader)
  /-- READ_COUNTERS -/
  | readCounters (h : ReqHeader) (clear : Byte)
  /-- SET_SOURCE -/
  | setSource (h : ReqHeader) (f : SetSourceFields)
  /-- TRIGGER -/
  | trigger (h : ReqHeader) (mask : Byte)
  /-- SET_PROGRAM; the step count is the length of the list -/
  | setProgram (h : ReqHeader) (mode : Byte) (steps : List WireStep)
  /-- SET_PRESET -/
  | setPreset (h : ReqHeader) (f : SetPresetFields)
  /-- LENS_GOTO -/
  | lensGoto (h : ReqHeader) (preset : Byte)
  /-- LENS_HOME -/
  | lensHome (h : ReqHeader)
  /-- CAM_ACCESS -/
  | camAccess (h : ReqHeader) (f : CamAccessFields)
  /-- TRANSACTION_START: nCS falls -/
  | transactionStart
  /-- TRANSACTION_END: nCS rises after these whole bytes were clocked in on SDI (and as many out on SDO) -/
  | transactionEnd (sdi : List Byte)
  /-- HARD_RESET: power-on or assertion of nRESET -/
  | hardReset
  /-- NRESET_RELEASE -/
  | nresetRelease
  /-- SELF_CHECK_PASS -/
  | selfCheckPass
  /-- SELF_CHECK_FAILURE -/
  | selfCheckFailure
  /-- TRIGGER_PIN_EDGE: a rising or falling edge of a trigger pin -/
  | triggerPinEdge (pin : Fin 4) (rising : Bool)
  /-- HOLDOFF_TIMER_EXPIRY -/
  | holdoffTimerExpiry (pin : Fin 4)
  /-- PERIOD_TIMER_EXPIRY -/
  | periodTimerExpiry
  /-- STALE_TIMER_EXPIRY -/
  | staleTimerExpiry (p : PortId)
  /-- TRIGGER_DISPATCH -/
  | triggerDispatch (p : PortId)
  /-- EXPOSURE_DEADLINE_EXPIRY -/
  | exposureDeadlineExpiry (p : PortId)
  /-- UPSTREAM_PACKET_END: the bytes received between the delimiters, CRC included -/
  | upstreamPacketEnd (p : PortId) (ending : PacketEnding) (bytes : List Byte)
  /-- BEACON -/
  | beacon (p : PortId)
  /-- LOCK_CHECK_EXPIRY -/
  | lockCheckExpiry (p : PortId)
  /-- WAKE_TIMER_EXPIRY -/
  | wakeTimerExpiry (p : PortId)
  /-- RELOCK_TIMER_EXPIRY -/
  | relockTimerExpiry (p : PortId)
  /-- HELLO_TIMER_EXPIRY -/
  | helloTimerExpiry (p : PortId)
  /-- WAKE_SEND -/
  | wakeSend (p : PortId)
  /-- CREDIT_SEND -/
  | creditSend (p : PortId)
  /-- DOWN_QUEUE_START -/
  | downQueueStart (p : PortId)
  /-- DOWN_PACKET_SENT -/
  | downPacketSent (p : PortId)
  /-- ANSWER_DEADLINE_EXPIRY: the deadline of the entry that bears the tag -/
  | answerDeadlineExpiry (p : PortId) (tag : Byte)
  /-- PROBE_TIMER_EXPIRY: the currents in microampere measured at 4000 mV and at 8000 mV -/
  | probeTimerExpiry (p : PortId) (at4V at8V : Nat)
  /-- REPROBE_TIMER_EXPIRY -/
  | reprobeTimerExpiry (p : PortId)
  /-- INRUSH_TIMER_EXPIRY -/
  | inrushTimerExpiry (p : PortId)
  /-- SAMPLE_TIMER_EXPIRY: the port current in mA -/
  | sampleTimerExpiry (p : PortId) (current : Half)
  /-- FULL_SESSION_TIMER_EXPIRY -/
  | fullSessionTimerExpiry (p : PortId)
  /-- BACKOFF_TIMER_EXPIRY -/
  | backoffTimerExpiry (p : PortId)
  /-- POOL_SAMPLE: the voltage at the pool supply input in mV, at most 65535 (DESIGN CHOICE, log entry 48) -/
  | poolSample (voltage : Half)
  /-- ADMISSION -/
  | admission
  /-- LENS_PACKET_HAND_IN -/
  | lensPacketHandIn (p : PortId)
  /-- SETTLE_TIMER_EXPIRY -/
  | settleTimerExpiry (p : PortId)
  /-- HOLD_ASSERTED -/
  | holdAsserted
  /-- HOLD_DEASSERTED -/
  | holdDeasserted
  /-- TRANSMISSION_START -/
  | transmissionStart
  /-- TRANSMISSION_COMPLETE -/
  | transmissionComplete
  /-- WATERMARK_REACHED -/
  | watermarkReached (p : PortId)
  /-- METER_GRANT -/
  | meterGrant
  /-- CALIBRATION_COMPLETE: the tick count n and the loop count -/
  | calibrationComplete (ticks loop : Nat)
  /-- LIVE_SHOT_COMPLETE -/
  | liveShotComplete (shot : Samples)
  /-- FULL_MEASUREMENT_COMPLETE: the samples of the shots that have ended and not yet been told, at least one, in the
  order taken; the measurement completes with the fourth. A sender may bring the four together, or earlier ones by earlier
  commands of this row (log entry 15) -/
  | fullMeasurementComplete (shot1 : Samples) (shot2 shot3 shot4 : Option Samples)
  /-- CALIBRATION_AGE_EXPIRY -/
  | calibrationAgeExpiry
  /-- FLEX_WINDOW_EXPIRY -/
  | flexWindowExpiry (p : PortId)
  /-- DISCHARGE_TIMER_EXPIRY -/
  | dischargeTimerExpiry
  deriving DecidableEq, Repr

end Sys2Proof
end

