-- ==== Sys2Proof/Decode.lean ====
section
/-! DEFINITION. spec/opcode_table.json gives none of its rows bits (no row has a fixed pattern or fields), so no word
spells a command by the table. The request frames of R191 and R194, which do have bytes, are read by
Machine/ControlLink.lean, where TRANSACTION_END judges them. -/

namespace Sys2Proof

/-- The command a word spells by the table's bits: none, since no row of the table has bits. -/
def decodeTableWord (_nbits _w : Nat) : Option Instr := none

end Sys2Proof
end

