-- ==== Sys2Proof/Config.lean ====
section
/-! DEFINITION. What the spec fixes once for every hub (durations, capacities, the product code), and the free
values: constants without a body, where the spec leaves a value open. -/

namespace Sys2Proof.Config

/-! ## Durations, in microseconds -/

/-- The lock-check window, the feed sample and the pool sample: 1 ms (R8, R38, R64). -/
def millisecond : Nat := 1000

/-- The self-check after a hard reset: 5 ms (R186). -/
def selfCheckTime : Nat := 5000

/-- The wake timer: 500 ms (R12). -/
def wakeTime : Nat := 500000

/-- The relock timer: 200 ms (R12). -/
def relockTime : Nat := 200000

/-- The HELLO timer: 200 ms (R13). -/
def helloTime : Nat := 200000

/-- The probe: 20 ms (R31). -/
def probeTime : Nat := 20000

/-- The re-probe timer of a VACANT port: 1000 ms (R32). -/
def reprobeTime : Nat := 1000000

/-- The inrush timer: 50 ms (R34). -/
def inrushTime : Nat := 50000

/-- The first backoff: 1000 ms, doubled at each retry (R41). -/
def backoffUnit : Nat := 1000000

/-- The full-session timer: 60 s (R37). -/
def fullSessionTime : Nat := 60000000

/-- The flex window: 1000 ms (R162). -/
def flexTime : Nat := 1000000

/-- The discharge of a cable before it is measured: 10 ms (R171). -/
def dischargeTime : Nat := 10000

/-- The age at which a calibration is old: 60 s (R151). -/
def calibrationAge : Nat := 60000000

/-- A calibration or a LIVE shot holds the meter for 1 ms (R145). -/
def shotTime : Nat := 1000

/-- A FULL measurement holds the meter for four shots (R145). -/
def fullMeasurementTime : Nat := 4000

/-- The deadline of a LENS_MOVE: 2000 ms (R24). -/
def lensMoveDeadline : Nat := 2000000

/-- The deadline of a LENS_HOME: 5000 ms (R24). -/
def lensHomeDeadline : Nat := 5000000

/-- The deadline of a camera access: 100 ms (R24). -/
def accessDeadline : Nat := 100000

/-- What the exposure deadline adds to the exposure: 50 000 microseconds (R88). -/
def exposureMargin : Nat := 50000

/-! ## Capacities and fixed figures -/

/-- A counter stops at its maximum of 32 bits (Counters and tags, 00). -/
def counterMax : Nat := 4294967295

/-- The three line counts of a frame stop at 65 535 (R113). -/
def lineCountMax : Nat := 65535

/-- Credited slots of a port (R109). -/
def creditedSlots : Nat := 16

/-- Marks that make a lock-check window good (R8). -/
def goodMarks : Nat := 6

/-- Pending triggers of a port (R80). -/
def pendingTriggers : Nat := 4

/-- Reply entries (R182). -/
def replyEntries : Nat := 8

/-- Notices that can wait (R184). -/
def noticeEntries : Nat := 32

/-- Entries of the findings history (R176). -/
def findingEntries : Nat := 32

/-- The boot allowance in mW (R34). -/
def bootAllowance : Nat := 3000

/-- The current limit while the inrush timer runs, in mA (R35). -/
def inrushLimit : Nat := 1500

/-- The nominal tick of the cable meter in ps (R150). -/
def nominalTick : Nat := 125

/-- The product code of IDENTIFY (R191). -/
def productCode : Nat := 0x5C08

/-! ## Free values -/

/-- The hardware step byte of the IDENTIFY reply: R191 names the field and gives no value (DESIGN CHOICE, log entry 12). -/
opaque hardwareStep : Byte

/-- Whether the amplitude of an echo is the negative deviation when the window holds +m and -m of the same greatest
magnitude m: R146 does not say which of the two it is (DESIGN CHOICE, log entry 11). -/
opaque tieTakesNegative : List Int → Bool

/-- The number a slot bears in the packet-in-transmission record: R127 records the slot, and no rule numbers the
slots (DESIGN CHOICE, log entry 10). It is applied to the port and to the slot: none for the reserve slot, the port's
egress count at the start of the transmission for a credited one. -/
opaque slotNumber : Nat → Option Nat → Byte

/-- The byte of an iris position above 255 in a LENS_CHANGE notice: R93 gives the range 0 to 255, which fits one byte,
and the two-byte field of an ANSWER can carry more (DESIGN CHOICE, log entry 52). -/
opaque wideIris : Nat → Byte

/-- The length byte of a frame whose header and payload count more than 250 bytes: R191 gives the length 2 to 250, and
the fields R26, R49, R81, R108, R125, R142 and R178 list for READ_COUNTERS need more (DESIGN CHOICE, log entry 8). -/
opaque oversizeLength : Nat → Byte

end Sys2Proof.Config
end

