-- ==== Sys2Proof/Machine/State.lean ====
section
/-! DEFINITION. The state of the hub as plain data, block by block as the chapters of the spec give it, the reasons a
step can stop, and the state after reset. A timer is an Option: none is stopped, some d runs and expires when the time
base reaches d (microseconds). -/

namespace Sys2Proof.Machine

/-- Why a step stops with a fault. The hub has no event that stops it (its port faults are effects on State, R168), so
there is no constructor: no meaning ends in a fault. -/
inductive Fault : Type
  deriving DecidableEq, Repr

/-- Why a step is refused. -/
inductive Refusal
  /-- Raised by an arm of exec whose command has no meaning yet; none is left. Safe. -/
  | notModelled (mnemonic : String)
  deriving DecidableEq, Repr

/-! ## Control link and operating state (10) -/

/-- The operating states (10.3), in the order of the status byte's codes (R191). -/
inductive OpState
  | init | config | run | halted
  deriving DecidableEq, Repr

/-- The reply statuses (R181), in the order of their codes (R191). -/
inductive Status
  | done | adjusted | refusedState | refusedBusy | refusedFull | badRequest | badArgument | badConfig | timeout
  | cameraError | aborted
  deriving DecidableEq, Repr

/-- A reply: the request kind code, host tag and port field of its request, the status and the payload (R183, R191). -/
structure Reply where
  code : Byte
  tag : Half
  port : Byte
  status : Status
  payload : List Byte
  deriving DecidableEq, Repr

/-! ## Names shared by several blocks -/

/-- The link states (R7), in the order of their codes (R193). -/
inductive LinkState
  | down | quiet | waking | locking | up
  deriving DecidableEq, Repr

/-- The power states (02, 2.1), in the order of their codes (R193). -/
inductive PowerState
  | disabled | probing | vacant | bootWait | boot | fullWait | full | backoff | shed | poolHalt | diagnosing
  | lockedOut
  deriving DecidableEq, Repr

/-- The causes of a POWER_CHANGE notice, in the order R30 lists them. -/
inductive PowerCause
  | enable | disable | release | probe | admission | hello | fault | backoff | shed | derateEnd | kill | restore
  | diagnosisEnd | config | diagnose
  deriving DecidableEq, Repr

/-- The lens kinds (R92), in the order of their codes (R193). -/
inductive LensKind
  | noLens | fixed | focus | focusIris | focusIrisZoom
  deriving DecidableEq, Repr

/-- The lens states (5.3), in the order of their codes (R193). -/
inductive LensState
  | absent | unreferenced | moveWait | homing | moving | settling | idle | stalled
  deriving DecidableEq, Repr

/-- The fourteen fault kinds in the order of the reaction table (R167). -/
inductive FaultKind
  | probeShort | probeInvalid | bootOverload | portOvercurrent | noLoad | linkNoWake | linkLost | helloMissing
  | cameraUndervolt | highResistance | intermittent | lensStall | lensTimeout | feedInfeasible
  deriving DecidableEq, Repr

/-- The reactions in the order of their codes (R194). -/
inductive Reaction
  | cut | retry | diagnose | hold | report
  deriving DecidableEq, Repr

/-- The trigger sources (R73), in the order of their codes (R193). -/
inductive Source
  | trig0 | trig1 | trig2 | trig3 | period
  deriving DecidableEq, Repr

/-- The reasons of a TRIGGER_LOSS (R81), in the order of its table. -/
inductive LossReason
  | unavailable | overrun | stale | lensFault | disabled | missed
  deriving DecidableEq, Repr

/-- The step a trigger resolved to: NONE, the default step, or the index of a program step (R79, R81). -/
inductive StepRef
  | absent
  | default
  | index (n : Nat)
  deriving DecidableEq, Repr

/-- The sign of an echo (R146). -/
inductive Polarity
  | positive | negative
  deriving DecidableEq, Repr

/-- Lens positions for the axes present: a motorized lens has a focus, and may have an iris and a zoom (R93). -/
structure Positions where
  focus : Half
  iris : Option Half
  zoom : Option Half
  deriving DecidableEq, Repr

/-- What a port fault, a host request or a learn put in the diagnosis queue (R169). -/
inductive Purpose
  | reaction (kind : FaultKind)
  | host
  | forced
  | learn
  deriving DecidableEq, Repr

/-- The diagnosis states (R160). -/
inductive DiagState
  | clear | queued | discharging | calibrating | measuring
  deriving DecidableEq, Repr

/-! ## Tether port (01) -/

/-- A packet of the downstream queue with its fields (R3, R22). -/
inductive DownPacket
  | trigger (tag : Half) (exposure : Nat)
  | lensMove (tag : Byte) (target : Positions)
  | lensHome (tag : Byte)
  | camRead (tag : Byte) (param : Half)
  | camWrite (tag : Byte) (param : Half) (value : Word)
  deriving DecidableEq, Repr

/-- What the downstream channel has in transmission (R21). -/
inductive DownItem
  | wake
  | credit (count : Nat)
  | packet (p : DownPacket)
  deriving DecidableEq, Repr

/-- The kind of an outstanding-answer entry (R24); its origin is the lens sequencer for the lens kinds and the camera
access relay for the others. -/
inductive AnswerKind
  | lensMove | lensHome | camRead | camWrite
  deriving DecidableEq, Repr

/-- An entry of the outstanding-answer table (R24). -/
structure Outstanding where
  tag : Byte
  kind : AnswerKind
  deadline : Nat
  deriving DecidableEq, Repr

/-- The feed-session record (R7). -/
structure Session where
  helloTaken : Bool
  upReached : Bool
  deriving DecidableEq, Repr

/-- The port counters of R26. -/
structure TetherCounters where
  good : Nat := 0
  aborted : Nat := 0
  mutilated : Nat := 0
  tooLong : Nat := 0
  crcBad : Nat := 0
  overrun : Nat := 0
  unknownKind : Nat := 0
  repeatedHello : Nat := 0
  lockLosses : Nat := 0
  unmatched : Nat := 0
  timeouts : Nat := 0
  wakeSent : Nat := 0
  creditSent : Nat := 0
  deriving DecidableEq, Repr

/-- The tether port: link, lock check, credits, downstream channel, answers (01). The initial values are those of R27.
DESIGN CHOICE: log entry 32. -/
structure Tether where
  link : LinkState := .down
  lockCheck : Option Nat := none
  wakeTimer : Option Nat := none
  relockTimer : Option Nat := none
  helloTimer : Option Nat := none
  marks : Nat := 0
  goodWindows : Nat := 0
  session : Option Session := none
  cameraId : Option Word := none
  occupied : Nat := 0
  cameraHeld : Nat := 0
  unreturned : Nat := 0
  wakeDue : Bool := false
  creditDue : Bool := false
  channel : Option DownItem := none
  queue : List DownPacket := []
  outstanding : List Outstanding := []
  downTag : Byte := 0
  counters : TetherCounters := {}
  deriving DecidableEq, Repr

/-! ## Feed controller (02) -/

/-- What happens to a CRC_BAD packet of an open frame (R48, R112). -/
inductive DamagedPolicy
  | drop | forward
  deriving DecidableEq, Repr

/-- The output group of a port (R48, R130). -/
inductive OutputGroup
  | high | low
  deriving DecidableEq, Repr

/-- The port settings with their reset values (R48). Times are in the units of the table: ms for the hold limit,
microseconds for the exposure. -/
structure PortSettings where
  priority : Nat := 1
  cableKind : Fin 8 := 0
  declaredLength : Nat := 0
  vMin : Nat := 18000
  lensPower : Nat := 0
  retryLimit : Nat := 3
  damagedPolicy : DamagedPolicy := .drop
  autoHome : Bool := true
  flexThreshold : Nat := 12
  drift : Nat := 25
  defaultExposure : Nat := 1000
  holdLimit : Nat := 100
  outputGroup : OutputGroup := .low
  deriving DecidableEq, Repr

/-- A STATUS check: its count, 0 to 3, and its armed flag (R39). -/
structure StatusCheck where
  count : Nat := 0
  armed : Bool := true
  deriving DecidableEq, Repr

/-- The feed controller's counters (R49). -/
structure FeedCounters where
  probes : Nat := 0
  probeShort : Nat := 0
  probeOpen : Nat := 0
  probeInvalid : Nat := 0
  probeValid : Nat := 0
  classClamped : Nat := 0
  bootOverloads : Nat := 0
  overcurrents : Nat := 0
  noLoadFaults : Nat := 0
  undervoltFaults : Nat := 0
  feedCuts : Nat := 0
  retries : Nat := 0
  lockouts : Nat := 0
  deriving DecidableEq, Repr

/-- The feed controller (R28) with the values of R50. powerClass is the camera's class c as R36 took it, and
bootLimitEstimate the I_est_boot that the BOOT admission handed over (R61): the spec reads both again and names no
register for them (DESIGN CHOICE, log entry 25). -/
structure Feed where
  power : PowerState := .disabled
  enabled : Bool := false
  retry : Nat := 0
  invalidCount : Nat := 0
  limit : Nat := 0
  hold : Bool := false
  lastSample : Half := 0
  overCount : Nat := 0
  noLoad : StatusCheck := {}
  underVolt : StatusCheck := {}
  probeTimer : Option Nat := none
  reprobeTimer : Option Nat := none
  inrushTimer : Option Nat := none
  backoffTimer : Option Nat := none
  fullSessionTimer : Option Nat := none
  sampleTimer : Option Nat := none
  lastCut : Option Nat := none
  lastProbeEnd : Option Nat := none
  powerClass : Nat := 1
  bootLimitEstimate : Nat := 0
  settings : PortSettings := {}
  counters : FeedCounters := {}
  deriving DecidableEq, Repr

/-! ## Pool manager (03) -/

/-- The request types of the admission queue (R58). -/
inductive RequestType
  | boot | full | surcharge
  deriving DecidableEq, Repr

/-- The stages of the feed calculation (R56). -/
inductive Stage
  | current | drop | loss | budget
  deriving DecidableEq, Repr

/-- The sources of R_used (R54). -/
inductive RSource
  | baseline | learned | declared | default
  deriving DecidableEq, Repr

/-- What the pool manager holds for one port (R51). bootEstimate keeps the I_est_boot of the BOOT request until it is
handed over at the admission (R57). -/
structure PoolPort where
  base : Nat := 0
  surcharge : Nat := 0
  rUsed : Option (Nat × RSource) := none
  classFigure : Nat := 0
  surchargeAmount : Nat := 0
  estClass : Nat := 0
  estLens : Nat := 0
  bootEstimate : Nat := 0
  infeasible : Option (RequestType × Stage) := none
  deriving DecidableEq, Repr

/-- An entry of the admission queue (R58). -/
structure AdmissionEntry where
  port : PortId
  type : RequestType
  amount : Nat
  priority : Nat
  stamp : Nat
  deriving DecidableEq, Repr

/-- The pool settings with their reset values (R52). -/
structure PoolSettings where
  budget : Nat := 0
  vPool : Nat := 24000
  derate : Nat := 21500
  kill : Nat := 19000
  trip : Nat := 5000
  deriving DecidableEq, Repr

/-- The pool counters (R71). -/
structure PoolCounters where
  bootAdmissions : Nat := 0
  fullAdmissions : Nat := 0
  surchargeAdmissions : Nat := 0
  infeasible : Nat := 0
  derates : Nat := 0
  sheds : Nat := 0
  killsVoltage : Nat := 0
  killsCurrent : Nat := 0
  restoresRefused : Nat := 0
  deriving DecidableEq, Repr

/-- The pool manager (R51) with the values of R72. -/
structure Pool where
  settings : PoolSettings := {}
  derate : Bool := false
  feedEnable : Bool := true
  queue : List AdmissionEntry := []
  stamp : Nat := 0
  admitted : List PortId := []
  sampleMv : Nat := 0
  sampleMa : Nat := 0
  lowCount : Nat := 0
  recoveryCount : Nat := 0
  tripCount : Nat := 0
  sampleTimer : Option Nat := none
  counters : PoolCounters := {}
  deriving DecidableEq, Repr

/-! ## Trigger router (04) -/

/-- Edge selections in the order of their codes (R194). -/
inductive EdgeSelection
  | off | rising | falling | both
  deriving DecidableEq, Repr

/-- A pin source (R73). -/
structure PinSource where
  edge : EdgeSelection := .off
  holdoff : Nat := 0
  timer : Option Nat := none
  deriving DecidableEq, Repr

/-- The router's counters of one source (R73). -/
structure SourceCounters where
  accepted : Nat := 0
  suppressed : Nat := 0
  soft : Nat := 0
  deriving DecidableEq, Repr

/-- The trigger router (R73). The period is the period most recently written, which is the period to apply at the next
expiry (R75). -/
structure Router where
  pins : Vector PinSource 4 := Vector.replicate 4 {}
  period : Nat := 0
  periodTimer : Option Nat := none
  map : Vector Byte 5 := Vector.replicate 5 0
  tagCounter : Half := 0
  counters : Vector SourceCounters 5 := Vector.replicate 5 {}
  deriving DecidableEq, Repr

/-! ## Capture sequencer (04) -/

/-- A step of a capture program (R83). -/
structure ProgramStep where
  preset : Option PresetId
  exposure : Nat
  deriving DecidableEq, Repr

/-- A pending trigger (R79). Arrival and stale deadline stand on the time base; the hub microsecond clock is its
32-bit view. -/
structure PendingTrigger where
  tag : Half
  source : Source
  step : StepRef
  preset : Option PresetId
  invalid : Bool
  exposure : Nat
  arrival : Nat
  stale : Option Nat
  deriving DecidableEq, Repr

/-- An OPEN exposure record (R88). -/
structure Exposure where
  tag : Half
  source : Source
  step : StepRef
  preset : Option PresetId
  invalid : Bool
  unreferenced : Bool
  exposure : Nat
  dispatch : Nat
  deadline : Nat
  deriving DecidableEq, Repr

/-- The capture sequencer's counters (R81). -/
structure CaptureCounters where
  accepted : Nat := 0
  dispatched : Nat := 0
  unavailable : Nat := 0
  overrun : Nat := 0
  stale : Nat := 0
  lensFault : Nat := 0
  disabled : Nat := 0
  missed : Nat := 0
  closed : Nat := 0
  untriggered : Nat := 0
  tagMismatch : Nat := 0
  silent : Nat := 0
  deriving DecidableEq, Repr

/-- The capture sequencer (R79). An empty program is no program; exposure none is CLOSED. -/
structure Capture where
  program : List ProgramStep := []
  staged : Option (List ProgramStep) := none
  cursor : Nat := 0
  queue : List PendingTrigger := []
  want : Option PresetId := none
  exposure : Option Exposure := none
  counters : CaptureCounters := {}
  deriving DecidableEq, Repr

/-! ## Lens sequencer (05) -/

/-- A preset (R94). -/
structure Preset where
  focus : Nat := 0
  iris : Nat := 0
  zoom : Nat := 0
  settle : Nat := 0
  tolerance : Nat := 0
  valid : Bool := false
  deriving DecidableEq, Repr

/-- The kind of a lens move (R92). -/
inductive MoveKind
  | move | home
  deriving DecidableEq, Repr

/-- The origin of a lens move (R92), in the order of its codes (R193). -/
inductive MoveOrigin
  | autoHome | queue | host
  deriving DecidableEq, Repr

/-- The move record (R92). captured and downTag are set when the packet is handed in (R98); admitted tells whether the
surcharge has been admitted (5.3). -/
structure Move where
  kind : MoveKind
  origin : MoveOrigin
  target : Option PresetId
  captured : Option (Positions × Nat) := none
  attempt : Nat := 1
  downTag : Option Byte := none
  admitted : Bool := false
  deriving DecidableEq, Repr

/-- The lens counters (R108). -/
structure LensCounters where
  moves : Nat := 0
  homes : Nat := 0
  offTarget : Nat := 0
  stalls : Nat := 0
  timeouts : Nat := 0
  abandoned : Nat := 0
  hostGoto : Nat := 0
  hostHome : Nat := 0
  busyIdle : Nat := 0
  deriving DecidableEq, Repr

/-- The lens sequencer (R92). reported holds the positions and the busy flag of the latest STATUS. -/
structure Lens where
  kind : LensKind := .noLens
  state : LensState := .absent
  presets : Vector Preset 16 := Vector.replicate 16 {}
  move : Option Move := none
  want : Option PresetId := none
  held : Option Positions := none
  lastTarget : Option PresetId := none
  reported : Option (Positions × Bool) := none
  lastCode : Option Byte := none
  settleTimer : Option Nat := none
  counters : LensCounters := {}
  deriving DecidableEq, Repr

/-! ## Ingress buffer and frame assembler (06) -/

/-- The hub packet kinds (R109), in the order of their codes from 1 (R192). -/
inductive HubKind
  | frameStart | line | frameEnd | trailer
  deriving DecidableEq, Repr

/-- A hub packet: output header and payload (R109). -/
structure HubPacket where
  kind : HubKind
  frame : Half
  sequence : Byte
  damaged : Bool
  payload : List Byte
  deriving DecidableEq, Repr

/-- An occupied slot: the reserve slot or a credited one (R109). -/
structure Slot where
  reserve : Bool
  packet : HubPacket
  deriving DecidableEq, Repr

/-- The frame flags (R113, R119) in the order of trailer offset 22. -/
structure FrameFlags where
  truncated : Bool := false
  untriggered : Bool := false
  tagMismatch : Bool := false
  presetInvalid : Bool := false
  lensUnreferenced : Bool := false
  damagedForwarded : Bool := false
  deriving DecidableEq, Repr

/-- An OPEN frame record (R113). -/
structure OpenFrame where
  number : Half
  trigger : Option (Half × Source)
  step : StepRef
  preset : Option PresetId
  flags : FrameFlags
  held : Option Positions
  exposureUsed : Word
  start : Word
  received : Nat
  lost : Nat
  damaged : Nat
  deriving DecidableEq, Repr

/-- The frame record (R113). -/
inductive FrameRecord
  | empty
  | openFrame (f : OpenFrame)
  | discarding
  deriving DecidableEq, Repr

/-- The ingress counters (R125). -/
structure IngressCounters where
  opened : Nat := 0
  completed : Nat := 0
  truncated : Nat := 0
  trailersLost : Nat := 0
  discarded : Nat := 0
  discardedPackets : Nat := 0
  orphans : Nat := 0
  damagedDropped : Nat := 0
  damagedForwarded : Nat := 0
  linesLost : Nat := 0
  sequenceFaults : Nat := 0
  flushed : Nat := 0
  deriving DecidableEq, Repr

/-- The ingress buffer (R109) with the values of R126: the queue lists the occupied slots, head first. -/
structure Ingress where
  queue : List Slot := []
  ingressCount : Word := 0
  egressCount : Word := 0
  record : FrameRecord := .empty
  expected : Byte := 1
  counters : IngressCounters := {}
  deriving DecidableEq, Repr

/-! ## Frame output port and camera access relay (07) -/

/-- The packet in transmission (R127): port, slot (the reserve slot, or the credited slot that the port's egress count
at the start of the transmission names; log entry 10), the packet as it stands in the slot, and whether a flush has freed
the slot meanwhile (R133). -/
structure Transmission where
  port : PortId
  reserve : Bool
  egress : Word
  packet : HubPacket
  flushed : Bool
  deriving DecidableEq, Repr

/-- The output counters (R134). -/
structure OutputCounters where
  sent : Nat := 0
  trailers : Nat := 0
  damaged : Nat := 0
  flushed : Nat := 0
  highGrants : Nat := 0
  lowGrants : Nat := 0
  heldWithWork : Nat := 0
  deriving DecidableEq, Repr

/-- The output arbiter and frame output port (R127, R130). The HIGH pointer's position 8 is the LOW position. -/
structure Output where
  sending : Option Transmission := none
  holdPin : Bool := false
  highPtr : Fin 9 := 8
  lowPtr : Fin 8 := 7
  counters : OutputCounters := {}
  deriving DecidableEq, Repr

/-- READ or WRITE (R135), in the order of the codes of R191. -/
inductive AccessKind
  | read | write
  deriving DecidableEq, Repr

/-- The stage of a relay entry (R135). In HELD: result code, value, watermark and cut mark. -/
inductive RelayStage
  | queued
  | sent
  | held (code : Byte) (value : Word) (watermark : Word) (cut : Bool)
  deriving DecidableEq, Repr

/-- A relay entry (R135). Entries stand in hand-in order; an entry whose answer arrives moves to the end, so the HELD
entries of a port stand in arrival order. -/
structure RelayEntry where
  port : PortId
  hostTag : Half
  portField : Byte
  kind : AccessKind
  param : Half
  value : Word
  downTag : Byte
  stage : RelayStage
  deriving DecidableEq, Repr

/-- The relay counters of a port (R142). -/
structure RelayCounters where
  taken : Nat := 0
  refused : Nat := 0
  done : Nat := 0
  cameraError : Nat := 0
  timeout : Nat := 0
  aborted : Nat := 0
  held : Nat := 0
  deriving DecidableEq, Repr

/-! ## Cable meter (08) -/

/-- The causes of a timebase status (R150). -/
inductive TimebaseCause
  | noCause | noReference | overflow | outOfRange | loopOverflow
  deriving DecidableEq, Repr

/-- The timebase record (R150, R151). ageTimer runs for 60 s from each completed calibration; completedAt is the moment
of the last one. -/
structure Timebase where
  p : Nat := 125
  t0 : Nat := 0
  valid : Bool := false
  cause : TimebaseCause := .noCause
  n : Nat := 0
  loopCount : Nat := 0
  everCompleted : Bool := false
  ageTimer : Option Nat := none
  completedAt : Option Nat := none
  deriving DecidableEq, Repr

/-- An echo: its tick, polarity and amplitude (R146). -/
structure Echo where
  t1 : Nat
  polarity : Polarity
  amplitude : Int
  deriving DecidableEq, Repr

/-- The measurement that holds the meter (R143): a calibration asked for by the host, a LIVE shot, or a FULL
measurement; ledBy tells whether a calibration leads it, calibrating whether that calibration still runs, and shots are
the results of the shots taken so far, oldest first, none for NO_ECHO. A LIVE measurement has one shot, whose end ends
it. -/
inductive Measurement
  | calibration
  | live (port : PortId)
  | full (port : PortId) (ledBy : Bool) (calibrating : Bool) (shots : List (Option Echo))
  deriving DecidableEq, Repr

/-- The meter counters (R159). -/
structure MeterCounters where
  calValid : Nat := 0
  calInvalid : Nat := 0
  liveTaken : Nat := 0
  liveEcho : Nat := 0
  liveReplaced : Nat := 0
  liveSkipped : Nat := 0
  liveCut : Nat := 0
  fullCut : Nat := 0
  calCut : Nat := 0
  fullCompleted : Nat := 0
  fullNoEcho : Nat := 0
  learnsStored : Nat := 0
  learnsFailed : Nat := 0
  deriving DecidableEq, Repr

/-- The cable meter (R143); holder none is IDLE, and its second part is the end of the phase in progress. -/
structure Meter where
  holder : Option (Measurement × Nat) := none
  pendingCal : Bool := false
  livePlaces : Vector Bool 8 := Vector.replicate 8 false
  offered : Option PortId := none
  livePtr : Fin 8 := 7
  timebase : Timebase := {}
  counters : MeterCounters := {}
  deriving DecidableEq, Repr

/-- A cable kind with its reset values (R153). -/
structure CableKind where
  velocity : Nat := 660
  loop : Nat := 150
  connector : Nat := 200
  deriving DecidableEq, Repr

/-! ## Break analyser (08, 09) -/

/-- The echo part of a cable baseline (R154). -/
structure EchoBase where
  tEnd : Nat
  polarity : Polarity
  amplitude : Int
  length : Nat
  overRange : Bool
  uncalibrated : Bool
  deriving DecidableEq, Repr

/-- The nearest qualifying echo of a flex window (R164). -/
structure NearestEcho where
  t1 : Nat
  distance : Nat
  polarity : Polarity
  overRange : Bool
  uncalibrated : Bool
  deriving DecidableEq, Repr

/-- The flex window record (R160). -/
structure FlexRecord where
  lockLosses : Nat := 0
  crcBad : Nat := 0
  taken : Nat := 0
  echoing : Nat := 0
  nearest : Option NearestEcho := none
  deriving DecidableEq, Repr

/-- The kinds of a finding in the order of their codes (R193). -/
inductive FindingKind
  | noBreak | openBreak | short | intermittent | highResistance | unjudged
  deriving DecidableEq, Repr

/-- The sources of a finding in the order of their codes (R193). -/
inductive FindingSource
  | probe | diagnosis | learn | flex | drift
  deriving DecidableEq, Repr

/-- The flags of a finding in the order of offset 10 (R193). -/
structure FindingFlags where
  atEnd : Bool := false
  noEcho : Bool := false
  noBaseline : Bool := false
  mismatch : Bool := false
  overRange : Bool := false
  uncalibrated : Bool := false
  deriving DecidableEq, Repr

/-- A finding record (R175). resistance holds the measured baseline and R_f of a HIGH_RESISTANCE finding. -/
structure Finding where
  time : Word
  port : PortId
  kind : FindingKind
  distance : Option Nat
  polarity : Option Polarity
  source : FindingSource
  flags : FindingFlags
  repeats : Nat
  resistance : Option (Nat × Nat)
  deriving DecidableEq, Repr

/-- The break counters of a port (R178). -/
structure BreakCounters where
  faults : Vector Nat 14 := Vector.replicate 14 0
  judged : Nat := 0
  overThreshold : Nat := 0
  liveRequested : Nat := 0
  drifts : Nat := 0
  completed : Nat := 0
  aborted : Nat := 0
  findings : Nat := 0
  deriving DecidableEq, Repr

/-- The default reactions in the order of the fault kinds (R167). -/
def defaultReactions : Vector Reaction 14 :=
  #v[.diagnose, .retry, .retry, .diagnose, .diagnose, .retry, .diagnose, .retry, .cut, .report, .report, .hold, .hold,
    .cut]

/-- What the break analyser holds for one port (R160). -/
structure Cable where
  echoBase : Option EchoBase := none
  resistanceBase : Option Nat := none
  resistanceCount : Nat := 0
  resistanceSum : Nat := 0
  filtered : Option Nat := none
  samplesTaken : Nat := 0
  flex : FlexRecord := {}
  flexTimer : Option Nat := none
  allowance : Nat := 0
  driftArmed : Bool := false
  diag : DiagState := .clear
  reactions : Vector Reaction 14 := defaultReactions
  latest : Option Finding := none
  counters : BreakCounters := {}
  deriving DecidableEq, Repr

/-- An entry of the diagnosis queue (R169). -/
structure DiagEntry where
  port : PortId
  purpose : Purpose
  joined : Word
  deriving DecidableEq, Repr

/-- What the break analyser holds for the hub (R160, R178). -/
structure Breaks where
  queue : List DiagEntry := []
  dischargeTimer : Option Nat := none
  findings : List Finding := []
  coalesced : Nat := 0
  overwrites : Nat := 0
  deriving DecidableEq, Repr

/-! ## Notices (R184) -/

/-- The events of a LENS_CHANGE notice in the order R108 lists them. -/
inductive LensEvent
  | rest | stall | timeout | abandon | power
  deriving DecidableEq, Repr

/-- The events of a POOL_EVENT notice in the order of R70. -/
inductive PoolEvent
  | derateEntered | derateLeft | killVoltage | killCurrent | restored
  deriving DecidableEq, Repr

/-- The outcome of a diagnosis (R173). -/
inductive DiagOutcome
  | lockout | retry | none
  deriving DecidableEq, Repr

/-- What a DIAGNOSIS_END notice carries (R156, R173, R174). -/
inductive DiagnosisReport
  | aborted (purpose : Purpose)
  | learned (echoing : Nat) (base : EchoBase)
  | learnFailed (echoing : Nat)
  | judged (purpose : Purpose) (kind : FindingKind) (distance : Option Nat) (polarity : Option Polarity)
      (flags : FindingFlags) (echoing : Nat) (outcome : DiagOutcome)
  deriving DecidableEq, Repr

/-- The notices (R184): each with the fields its owning rule gives. -/
inductive Notice
  | powerChange (port : PortId) (prev new : PowerState) (hold : Bool) (retry : Nat) (cause : PowerCause)
  | linkChange (port : PortId) (prev new : LinkState) (clock : Word)
  | lensChange (port : PortId) (prev new : LensState) (event : LensEvent)
      (move : Option (MoveKind × MoveOrigin × Option PresetId)) (held : Option Positions) (code : Option Byte)
  | fault (port : PortId) (kind : FaultKind) (reaction : Reaction) (power : PowerState) (retry : Nat) (clock : Word)
  | finding (f : Finding) (isNew : Bool)
  | diagnosisEnd (port : PortId) (report : DiagnosisReport)
  | triggerLoss (port : PortId) (tag : Half) (source : Source) (step : StepRef) (preset : Option PresetId)
      (reason : LossReason) (clock : Word)
  | poolEvent (event : PoolEvent) (mv ma effective sum : Nat) (ports : List PortId)
  | cameraHello (port : PortId) (id : Word) (powerClass : Byte) (kind : LensKind)
  deriving DecidableEq, Repr

/-- The control link counters (R189). -/
structure LinkCounters where
  tooLong : Nat := 0
  mutilated : Nat := 0
  crcBad : Nat := 0
  taken : Nat := 0
  dropped : Nat := 0
  badRequest : Nat := 0
  repliesSent : Nat := 0
  noticesSent : Nat := 0
  resent : Nat := 0
  masked : Nat := 0
  lost : Nat := 0
  deriving DecidableEq, Repr

/-- Which queue the outgoing frame of a transaction was taken from (R183). -/
inductive Chosen
  | reply | notice | idle
  deriving DecidableEq, Repr

/-- A transaction in progress (R183): the status byte and frame chosen at its start, and which of the three flags the
status byte reported and no event has set since. -/
structure Transaction where
  status : Byte
  chosen : Chosen
  frame : List Byte
  clearRejected : Bool
  clearDropped : Bool
  clearLost : Bool
  deriving DecidableEq, Repr

/-- The control link (10). The reserved reply entries are the relay's entries, one each (R135, R182). sdo holds the
bytes driven on SDO in the transaction that ended last (DESIGN CHOICE, log entry 30). -/
structure Link where
  opState : OpState := .init
  failure : Bool := false
  written : List Reply := []
  notices : List Notice := []
  mask : BitVec 9 := 0x1FF
  frameRejected : Bool := false
  requestDropped : Bool := false
  noticesLost : Bool := false
  counters : LinkCounters := {}
  transaction : Option Transaction := none
  sdo : List Byte := []
  deriving DecidableEq, Repr

/-! ## The whole hub -/

/-- One port column: the blocks that exist once per port, and what the single blocks keep for a port (Block overview,
00). -/
structure Port where
  tether : Tether := {}
  feed : Feed := {}
  pool : PoolPort := {}
  capture : Capture := {}
  lens : Lens := {}
  ingress : Ingress := {}
  relay : RelayCounters := {}
  cable : Cable := {}
  deriving DecidableEq, Repr

/-- The state of the hub. time counts microseconds since the release of the last hard reset and epoch is the time at
which the hub clocks last read 0: the hub microsecond clock is the low 32 bits of their difference (DESIGN CHOICE, log entry 2).
pending is the queue of commands not yet taken. -/
structure State where
  time : Nat
  epoch : Nat
  nreset : Bool
  selfCheck : Option Nat
  ports : Vector Port 8
  pool : Pool
  router : Router
  output : Output
  relay : List RelayEntry
  meter : Meter
  kinds : Vector CableKind 8
  breaks : Breaks
  link : Link
  pending : List Instr
  deriving DecidableEq, Repr

/-- The hub while nRESET is asserted: every block at its hard-reset values (R189). The HOLD input is a pin of the
outside and keeps its level (R133). DESIGN CHOICE: log entry 34. -/
def State.hardReset (holdPin : Bool) (pending : List Instr) : State where
  time := 0
  epoch := 0
  nreset := true
  selfCheck := none
  ports := Vector.replicate 8 {}
  pool := {}
  router := {}
  output := { holdPin := holdPin }
  relay := []
  meter := {}
  kinds := Vector.replicate 8 {}
  breaks := {}
  link := {}
  pending := pending

/-- The hub right after a hard reset: nRESET released, INIT entered, the 5 ms self-check begun (R186, R189; log entries
13 and 14). DESIGN CHOICE: log entry 14. -/
def State.reset : State :=
  { State.hardReset false [] with nreset := false, selfCheck := some Config.selfCheckTime }

end Sys2Proof.Machine
end

