-- ==== Sys2Proof/Machine/Arith.lean ====
section
/-! DEFINITION. The integer arithmetic of the manual (Arithmetic and Counters and tags, 00): the two roundings, clamping
to a range, counters that stop at their maximum, timers on the time base, and the per-port update of a vector. -/

namespace Sys2Proof.Machine

/-- Round half up of a/b: floor((2a + b) / 2b) (Arithmetic, 00). -/
def roundHalfUp (a b : Nat) : Nat := (2 * a + b) / (2 * b)

/-- Ceiling of a/b: floor((a + b - 1) / b) (Arithmetic, 00). -/
def ceilDiv (a b : Nat) : Nat := (a + b - 1) / b

/-- A value brought to the nearer end of its range (Refusal and clamping, 00). -/
def clampTo (lo hi v : Nat) : Nat := if v < lo then lo else if hi < v then hi else v

/-- A 32-bit counter rises by n and stops at its maximum (Counters and tags, 00). -/
def bumpBy (n c : Nat) : Nat := min (c + n) Config.counterMax

/-- A 32-bit counter rises by 1. -/
def bump (c : Nat) : Nat := bumpBy 1 c

/-- A line count of a frame rises by n and stops at 65 535 (R113). -/
def bumpLines (n c : Nat) : Nat := min (c + n) Config.lineCountMax

/-- Milliseconds as microseconds. -/
def ms (n : Nat) : Nat := n * 1000

/-- What is left of a running timer at a moment of the time base; 0 when it is due or stopped. -/
def timeLeft (now : Nat) (t : Option Nat) : Nat :=
  match t with
  | some d => d - now
  | none => 0

/-- A distance on the ring of 32-bit counts: the egress count has reached w when their difference, modulo 2^32, is below
2^31 (R111). -/
def reached (egress w : Word) : Bool := decide ((egress - w).toNat < 2147483648)

/-- The same entry of a vector changed by f. -/
def modifyAt {α : Type} {n : Nat} (v : Vector α n) (i : Fin n) (f : α → α) : Vector α n :=
  v.set i.val (f (v.get i)) i.isLt

end Sys2Proof.Machine
end

