-- ==== Sys2Proof/Machine/Flags.lean ====
section
/-! DEFINITION. Every flag the spec computes or reports: the flag bytes of the formats (status byte, port flags, trailer
flags, finding flags, marks), the derived lines and conditions (ATTN, the feed switch), and the codes of the
enumerations (R190 to R193). -/

namespace Sys2Proof.Machine

/-- A flag as a bit of the given weight. -/
def flagBit (b : Bool) (weight : Nat) : Nat := if b then weight else 0

/-! ## Codes of enumerations -/

/-- Operating state codes of the status byte (R191). -/
def OpState.code : OpState → Nat
  | .init => 0 | .config => 1 | .run => 2 | .halted => 3

/-- Reply status codes (R191). -/
def Status.code : Status → Nat
  | .done => 0x00 | .adjusted => 0x01 | .refusedState => 0x02 | .refusedBusy => 0x03 | .refusedFull => 0x04
  | .badRequest => 0x05 | .badArgument => 0x06 | .badConfig => 0x07 | .timeout => 0x08 | .cameraError => 0x09
  | .aborted => 0x0A

/-- Link state codes (R193). -/
def LinkState.code : LinkState → Nat
  | .down => 0 | .quiet => 1 | .waking => 2 | .locking => 3 | .up => 4

/-- Power state codes (R193). -/
def PowerState.code : PowerState → Nat
  | .disabled => 0 | .probing => 1 | .vacant => 2 | .bootWait => 3 | .boot => 4 | .fullWait => 5 | .full => 6
  | .backoff => 7 | .shed => 8 | .poolHalt => 9 | .diagnosing => 10 | .lockedOut => 11

/-- Power cause codes: the place in the list of R30. -/
def PowerCause.code : PowerCause → Nat
  | .enable => 0 | .disable => 1 | .release => 2 | .probe => 3 | .admission => 4 | .hello => 5 | .fault => 6
  | .backoff => 7 | .shed => 8 | .derateEnd => 9 | .kill => 10 | .restore => 11 | .diagnosisEnd => 12 | .config => 13
  | .diagnose => 14

/-- Lens kind codes (R193). -/
def LensKind.code : LensKind → Nat
  | .noLens => 0 | .fixed => 1 | .focus => 2 | .focusIris => 3 | .focusIrisZoom => 4

/-- Lens state codes (R193). -/
def LensState.code : LensState → Nat
  | .absent => 0 | .unreferenced => 1 | .moveWait => 2 | .homing => 3 | .moving => 4 | .settling => 5 | .idle => 6
  | .stalled => 7

/-- Move kind codes (R193); 0 is none. -/
def MoveKind.code : MoveKind → Nat
  | .move => 1 | .home => 2

/-- Move origin codes (R193). -/
def MoveOrigin.code : MoveOrigin → Nat
  | .autoHome => 0 | .queue => 1 | .host => 2

/-- Fault kind codes: the place in the reaction table (R194). -/
def FaultKind.index : FaultKind → Fin 14
  | .probeShort => 0 | .probeInvalid => 1 | .bootOverload => 2 | .portOvercurrent => 3 | .noLoad => 4
  | .linkNoWake => 5 | .linkLost => 6 | .helloMissing => 7 | .cameraUndervolt => 8 | .highResistance => 9
  | .intermittent => 10 | .lensStall => 11 | .lensTimeout => 12 | .feedInfeasible => 13

/-- Reaction codes (R194). -/
def Reaction.code : Reaction → Nat
  | .cut => 0 | .retry => 1 | .diagnose => 2 | .hold => 3 | .report => 4

/-- Source codes (R193). -/
def Source.index : Source → Fin 5
  | .trig0 => 0 | .trig1 => 1 | .trig2 => 2 | .trig3 => 3 | .period => 4

/-- Loss reason codes: the place in the table of R81. -/
def LossReason.code : LossReason → Nat
  | .unavailable => 0 | .overrun => 1 | .stale => 2 | .lensFault => 3 | .disabled => 4 | .missed => 5

/-- Step codes (R192, trailer offset 4): the index, 0xFE for DEFAULT, 0xFF for NONE. -/
def StepRef.code : StepRef → Nat
  | .absent => 0xFF | .default => 0xFE | .index n => n

/-- Preset codes: the index, or 0xFF for NONE (R192). -/
def presetCode : Option PresetId → Nat
  | some p => p.val
  | none => 0xFF

/-- Polarity codes of a finding (R193): 0 absent, 1 positive, 2 negative. -/
def polarityCode : Option Polarity → Nat
  | none => 0
  | some .positive => 1
  | some .negative => 2

/-- Damaged policy codes (R193). -/
def DamagedPolicy.code : DamagedPolicy → Nat
  | .drop => 0 | .forward => 1

/-- Finding kind codes (R193). -/
def FindingKind.code : FindingKind → Nat
  | .noBreak => 0 | .openBreak => 1 | .short => 2 | .intermittent => 3 | .highResistance => 4 | .unjudged => 5

/-- Finding source codes (R193). -/
def FindingSource.code : FindingSource → Nat
  | .probe => 0 | .diagnosis => 1 | .learn => 2 | .flex => 3 | .drift => 4

/-- Hub packet kind codes (R192). -/
def HubKind.code : HubKind → Nat
  | .frameStart => 1 | .line => 2 | .frameEnd => 3 | .trailer => 4

/-- Access kind codes (R191). -/
def AccessKind.code : AccessKind → Nat
  | .read => 0 | .write => 1

/-- Lens event codes: the place in the list of R108. -/
def LensEvent.code : LensEvent → Nat
  | .rest => 0 | .stall => 1 | .timeout => 2 | .abandon => 3 | .power => 4

/-- Pool event codes: the place in the table of R70. -/
def PoolEvent.code : PoolEvent → Nat
  | .derateEntered => 0 | .derateLeft => 1 | .killVoltage => 2 | .killCurrent => 3 | .restored => 4

/-- Diagnosis outcome codes: the place in the list of R173. -/
def DiagOutcome.code : DiagOutcome → Nat
  | .lockout => 0 | .retry => 1 | .none => 2

/-- Purpose codes: the place in the list of R169. -/
def Purpose.code : Purpose → Nat
  | .reaction _ => 0 | .host => 1 | .forced => 2 | .learn => 3

/-- Diagnosis state codes: the place in the list of R160. -/
def DiagState.code : DiagState → Nat
  | .clear => 0 | .queued => 1 | .discharging => 2 | .calibrating => 3 | .measuring => 4

/-- Request type codes: the place in the list of R58. -/
def RequestType.code : RequestType → Nat
  | .boot => 0 | .full => 1 | .surcharge => 2

/-- Stage codes: the place in the table of R56. -/
def Stage.code : Stage → Nat
  | .current => 0 | .drop => 1 | .loss => 2 | .budget => 3

/-- Codes of the sources of R_used: the place in the table of R54. -/
def RSource.code : RSource → Nat
  | .baseline => 0 | .learned => 1 | .declared => 2 | .default => 3

/-- Timebase cause codes: the place in the list of R150, NONE last as the table has it. -/
def TimebaseCause.code : TimebaseCause → Nat
  | .noReference => 0 | .overflow => 1 | .outOfRange => 2 | .loopOverflow => 3 | .noCause => 4

/-- Edge selection codes (R194). -/
def EdgeSelection.code : EdgeSelection → Nat
  | .off => 0 | .rising => 1 | .falling => 2 | .both => 3

/-! ## Conditions read from the power and link states -/

/-- The feed switch is closed in BOOT, FULL_WAIT and FULL only (R28). -/
def PowerState.feedOn : PowerState → Bool
  | .boot => true | .fullWait => true | .full => true
  | .disabled => false | .probing => false | .vacant => false | .bootWait => false | .backoff => false
  | .shed => false | .poolHalt => false | .diagnosing => false | .lockedOut => false

/-- The upstream receiver is active while the link is WAKING, LOCKING or UP (01, 1.2). -/
def LinkState.receiving : LinkState → Bool
  | .waking => true | .locking => true | .up => true
  | .down => false | .quiet => false

/-- The link is LOCKING after a lock loss: it entered LOCKING from UP and has not left it since (R147). The LOCKING of
bring-up stands in a feed session in which UP has not been reached. -/
def Tether.lockLost (t : Tether) : Bool :=
  decide (t.link = .locking) && (match t.session with | some x => x.upReached | none => false)

/-- The focus, iris and zoom axes of a lens kind (R93). -/
def LensKind.hasIris : LensKind → Bool
  | .focusIris => true | .focusIrisZoom => true
  | .noLens => false | .fixed => false | .focus => false

/-- Whether the lens carries a zoom (R93). -/
def LensKind.hasZoom : LensKind → Bool
  | .focusIrisZoom => true
  | .noLens => false | .fixed => false | .focus => false | .focusIris => false

/-- The motorized kinds (R93). -/
def LensKind.motorized : LensKind → Bool
  | .focus => true | .focusIris => true | .focusIrisZoom => true
  | .noLens => false | .fixed => false

/-- The capture sequencer, pool manager and all blocks but the control link run in CONFIG and RUN only (R186): not in
INIT, not in HALTED, not while nRESET is asserted. -/
def State.blocksRun (s : State) : Bool :=
  !s.nreset && (decide (s.link.opState = .config) || decide (s.link.opState = .run))

/-- ATTN: a written reply or a notice waits (R185). DEDUCED: log entry 29. -/
def State.attn (s : State) : Bool := !s.nreset && (!s.link.written.isEmpty || !s.link.notices.isEmpty)

/-! ## Flag bytes -/

/-- The status byte (R191): operating state, the three sticky flags, more-pending. -/
def statusByte (op : OpState) (rejected dropped lost more : Bool) : Byte :=
  BitVec.ofNat 8 (op.code * 64 + flagBit rejected 32 + flagBit dropped 16 + flagBit lost 8 + flagBit more 4)

/-- Trailer flags, offset 22 (R192). -/
def FrameFlags.byte (f : FrameFlags) : Nat :=
  flagBit f.truncated 1 + flagBit f.untriggered 2 + flagBit f.tagMismatch 4 + flagBit f.presetInvalid 8
    + flagBit f.lensUnreferenced 16 + flagBit f.damagedForwarded 32

/-- Finding flags, offset 10 (R193). -/
def FindingFlags.byte (f : FindingFlags) : Nat :=
  flagBit f.atEnd 1 + flagBit f.noEcho 2 + flagBit f.noBaseline 4 + flagBit f.mismatch 8 + flagBit f.overRange 16
    + flagBit f.uncalibrated 32

/-- The bit of the notice mask that stands for a notice's kind (R184, R194). -/
def Notice.kindIndex : Notice → Fin 9
  | .powerChange .. => 0 | .linkChange .. => 1 | .lensChange .. => 2 | .fault .. => 3 | .finding .. => 4
  | .diagnosisEnd .. => 5 | .triggerLoss .. => 6 | .poolEvent .. => 7 | .cameraHello .. => 8

end Sys2Proof.Machine
end

