-- ==== Sys2Proof/Machine/Formats.lean ====
section
/-! DEFINITION. The byte layouts of chapter 11: byte order, the two check sequences, tether packets both ways, hub
packets and the trailer, the finding record, and the frames of the control link. -/

namespace Sys2Proof.Machine

/-! ## Byte order (R190): most significant byte first -/

/-- A one-byte field. -/
def be1 (n : Nat) : List Byte := [BitVec.ofNat 8 n]

/-- A two-byte field. -/
def be2 (n : Nat) : List Byte := [BitVec.ofNat 8 (n / 256), BitVec.ofNat 8 n]

/-- A four-byte field. -/
def be4 (n : Nat) : List Byte :=
  [BitVec.ofNat 8 (n / 16777216), BitVec.ofNat 8 (n / 65536), BitVec.ofNat 8 (n / 256), BitVec.ofNat 8 n]

/-- A signed two-byte field in two's complement. -/
def beInt2 (i : Int) : List Byte := be2 (BitVec.ofInt 16 i).toNat

/-- A flag is one byte, 1 when set (R190). -/
def flagByte (b : Bool) : List Byte := be1 (flagBit b 1)

/-- An absent one-byte field is 0xFF (R190). -/
def opt1 : Option Nat → List Byte
  | some n => be1 n
  | none => be1 0xFF

/-- An absent two-byte field is 0xFFFF (R190). -/
def opt2 : Option Nat → List Byte
  | some n => be2 n
  | none => be2 0xFFFF

/-- An absent four-byte field is 0xFFFFFFFF (R190). -/
def opt4 : Option Nat → List Byte
  | some n => be4 n
  | none => be4 0xFFFFFFFF

/-- A list is a one-byte count followed by its members (R190). -/
def listField {α : Type} (enc : α → List Byte) (l : List α) : List Byte := be1 l.length ++ l.flatMap enc

/-- The byte at an offset; 0 beyond the end. -/
def byteAt (bs : List Byte) (i : Nat) : Byte := bs.getD i 0

/-- The two-byte field at an offset. -/
def halfAt (bs : List Byte) (i : Nat) : Half := byteAt bs i ++ byteAt bs (i + 1)

/-- The four-byte field at an offset. -/
def wordAt (bs : List Byte) (i : Nat) : Word := halfAt bs i ++ halfAt bs (i + 2)

/-! ## Check sequences (R190) -/

/-- One bit of the CRC-16: polynomial 0x1021, not reflected. -/
def crc16Bit (c : Half) : Half := if c.msb then (c <<< 1) ^^^ 0x1021#16 else c <<< 1

/-- A number of bits of the CRC-16. -/
def crc16Bits : Nat → Half → Half
  | 0, c => c
  | k + 1, c => crc16Bits k (crc16Bit c)

/-- One byte of the CRC-16. -/
def crc16Byte (c : Half) (b : Byte) : Half := crc16Bits 8 (c ^^^ (b ++ 0#8))

/-- The CRC-16 of the control link: initial value 0xFFFF, no final inversion (R190). -/
def crc16 (bs : List Byte) : Half := bs.foldl crc16Byte 0xFFFF

/-- One bit of the CRC-32: polynomial 0x04C11DB7, reflected. -/
def crc32Bit (c : Word) : Word := if c.getLsbD 0 then (c >>> 1) ^^^ 0xEDB88320#32 else c >>> 1

/-- A number of bits of the CRC-32. -/
def crc32Bits : Nat → Word → Word
  | 0, c => c
  | k + 1, c => crc32Bits k (crc32Bit c)

/-- One byte of the CRC-32. -/
def crc32Byte (c : Word) (b : Byte) : Word := crc32Bits 8 (c ^^^ (0#24 ++ b))

/-- The CRC-32 of the tether: initial value all ones, final inversion (R190). -/
def crc32 (bs : List Byte) : Word := ~~~ (bs.foldl crc32Byte 0xFFFFFFFF)

/-- The CRC-16 as appended: high byte first (R190). -/
def crc16Bytes (bs : List Byte) : List Byte := be2 (crc16 bs).toNat

/-- The CRC-32 as appended: least significant byte first (R190). -/
def crc32Bytes (bs : List Byte) : List Byte := (be4 (crc32 bs).toNat).reverse

/-! ## Tether packets (R192) -/

/-- The upstream kinds that are packets (R2), and what an unknown code names. -/
inductive UpKind
  | hello | status | answer | frameStart | line | frameEnd | unknown
  deriving DecidableEq, Repr

/-- The kind a code names (R192). -/
def upKind (code : Byte) : UpKind :=
  if code = 0x10 then .hello else if code = 0x11 then .status else if code = 0x12 then .answer
  else if code = 0x20 then .frameStart else if code = 0x21 then .line else if code = 0x22 then .frameEnd
  else .unknown

/-- The roles of R2; a packet of no upstream kind, or without a complete header, has none. -/
inductive Role
  | control | image | noRole
  deriving DecidableEq, Repr

/-- The role of a kind (R2). -/
def UpKind.role : UpKind → Role
  | .hello => .control | .status => .control | .answer => .control
  | .frameStart => .image | .line => .image | .frameEnd => .image
  | .unknown => .noRole

/-- The classes of R4. -/
inductive PacketClass
  | aborted | mutilated | tooLong | crcBad | overrun | good
  deriving DecidableEq, Repr

/-- The fields of a tether packet header and the payload between header and CRC (R192). -/
structure UpPacket where
  kind : UpKind
  a : Byte
  b : Half
  c : Half
  payload : List Byte
  deriving DecidableEq, Repr

/-- The header is complete when 8 bytes arrived (R4). -/
def headerComplete (bytes : List Byte) : Bool := decide (8 ≤ bytes.length)

/-- The bytes after the header and before the four CRC bytes. A packet of 8 to 11 bytes, in which no CRC can be read, has
an empty payload (DESIGN CHOICE, log entry 22). -/
def upPayload (bytes : List Byte) : List Byte := (bytes.drop 8).take (bytes.length - 12)

/-- The packet as its header names it (R192). -/
def readUp (bytes : List Byte) : UpPacket :=
  { kind := upKind (byteAt bytes 0), a := byteAt bytes 1, b := halfAt bytes 2, c := halfAt bytes 6,
    payload := upPayload bytes }

/-- The CRC-32 test of R4, class CRC_BAD: it differs or cannot be read, or a FRAME_START or LINE is too short for its
kind. -/
def crcBad (bytes : List Byte) : Bool :=
  decide (bytes.length < 12)
    || !decide (crc32Bytes (bytes.take (bytes.length - 4)) = bytes.drop (bytes.length - 4))
    || (decide (upKind (byteAt bytes 0) = .frameStart) && decide ((upPayload bytes).length < 4))
    || (decide (upKind (byteAt bytes 0) = .line) && (upPayload bytes).isEmpty)

/-- The class of an upstream packet: the first test of R4 that holds, but that an image packet which meets a camera-held
count of 0 is OVERRUN whatever its CRC, as R18 and R112 say (DEDUCED, log entry 7). -/
def classify (cameraHeld : Nat) (ending : PacketEnding) (bytes : List Byte) : PacketClass :=
  if ending = .abortSymbol then .aborted
  else if !headerComplete bytes then .mutilated
  else if 2060 < bytes.length then .tooLong
  else if (upKind (byteAt bytes 0)).role = .image ∧ cameraHeld = 0 then .overrun
  else if crcBad bytes then .crcBad
  else .good

/-- The shortest payload a control kind requires (R192). -/
def controlPayload : UpKind → Nat
  | .hello => 4 | .status => 6 | .answer => 4
  | .frameStart => 0 | .line => 0 | .frameEnd => 0 | .unknown => 0

/-- The lens kind a HELLO names; a value above 3 is FIXED (R192). -/
def helloLensKind (c : Half) : LensKind :=
  if c = 1 then .focus else if c = 2 then .focusIris else if c = 3 then .focusIrisZoom else .fixed

/-- Positions of a packet for the axes of a lens kind; fields of axes the lens lacks are ignored (R192). -/
def readPositions (k : LensKind) (bs : List Byte) (off : Nat) : Positions :=
  { focus := halfAt bs off, iris := if k.hasIris then some (halfAt bs (off + 2)) else none,
    zoom := if k.hasZoom then some (halfAt bs (off + 4)) else none }

/-- The reached positions of a lens answer, which an answer with a payload of 4 to 9 bytes lacks (R192). -/
def answerPositions (k : LensKind) (payload : List Byte) : Option Positions :=
  if 10 ≤ payload.length then some (readPositions k payload 4) else none

/-- The header and payload of a downstream packet, without the CRC (R192). -/
def tetherFrame (code a b c : Nat) (payload : List Byte) : List Byte :=
  be1 code ++ be1 a ++ be2 b ++ be2 payload.length ++ be2 c ++ payload

/-- Positions of a LENS_MOVE: 0 for an absent axis (R192). -/
def movePositions (p : Positions) : List Byte :=
  be2 p.focus.toNat ++ be2 (p.iris.getD 0).toNat ++ be2 (p.zoom.getD 0).toNat

/-- A downstream item without its CRC (R192). -/
def DownItem.body : DownItem → List Byte
  | .wake => tetherFrame 0x40 0 0 0 []
  | .credit n => tetherFrame 0x41 n 0 0 []
  | .packet (.trigger tag exposure) => tetherFrame 0x42 0 tag.toNat 0 (be4 exposure)
  | .packet (.lensMove tag target) => tetherFrame 0x43 tag.toNat 0 0 (movePositions target)
  | .packet (.lensHome tag) => tetherFrame 0x44 tag.toNat 0 0 []
  | .packet (.camRead tag param) => tetherFrame 0x45 tag.toNat 0 param.toNat []
  | .packet (.camWrite tag param value) => tetherFrame 0x46 tag.toNat 0 param.toNat (be4 value.toNat)

/-- A downstream item as it travels on the cable: the hub appends the CRC-32 (R190, R192). -/
def DownItem.wire (i : DownItem) : List Byte := i.body ++ crc32Bytes i.body

/-- The down tag of a tagged packet (R3). -/
def DownPacket.tag? : DownPacket → Option Byte
  | .trigger .. => none
  | .lensMove tag _ => some tag
  | .lensHome tag => some tag
  | .camRead tag _ => some tag
  | .camWrite tag .. => some tag

/-- The outstanding-answer kind of a tagged packet (R24). -/
def DownPacket.answerKind? : DownPacket → Option AnswerKind
  | .trigger .. => none
  | .lensMove .. => some .lensMove
  | .lensHome .. => some .lensHome
  | .camRead .. => some .camRead
  | .camWrite .. => some .camWrite

/-- Whether the packet is a TRIGGER. -/
def DownPacket.isTrigger : DownPacket → Bool
  | .trigger .. => true
  | .lensMove .. => false | .lensHome .. => false | .camRead .. => false | .camWrite .. => false

/-- Whether the packet is a CAM_WRITE. -/
def DownPacket.isCamWrite : DownPacket → Bool
  | .camWrite .. => true
  | .trigger .. => false | .lensMove .. => false | .lensHome .. => false | .camRead .. => false

/-- Whether the entry's origin is the lens sequencer (R24). -/
def AnswerKind.isLens : AnswerKind → Bool
  | .lensMove => true | .lensHome => true | .camRead => false | .camWrite => false

/-- The deadline of an entry, counted from its "down packet sent" event (R24). -/
def AnswerKind.deadline : AnswerKind → Nat
  | .lensMove => Config.lensMoveDeadline
  | .lensHome => Config.lensHomeDeadline
  | .camRead => Config.accessDeadline
  | .camWrite => Config.accessDeadline

/-! ## Hub packets and the trailer (R192) -/

/-- A hub packet as the output port sends it: the 8-byte output header, then the payload (R127, R192). -/
def HubPacket.wire (port : PortId) (p : HubPacket) : List Byte :=
  be1 p.kind.code ++ be1 port.val ++ be1 (flagBit p.damaged 1) ++ be1 p.sequence.toNat ++ be2 p.frame.toNat
    ++ be2 p.payload.length ++ p.payload

/-- Positions as reported: 0xFFFF for an absent axis or absent positions (R192). -/
def positionBytes : Option Positions → List Byte
  | none => be2 0xFFFF ++ be2 0xFFFF ++ be2 0xFFFF
  | some p => be2 p.focus.toNat ++ opt2 (p.iris.map BitVec.toNat) ++ opt2 (p.zoom.map BitVec.toNat)

/-- The 31-byte trailer of a frame (R119, R192). -/
def trailerBytes (f : OpenFrame) (allocation : Nat) : List Byte :=
  be2 f.number.toNat
    ++ be2 (match f.trigger with | some x => x.1.toNat | none => 0)
    ++ be1 f.step.code ++ be1 (presetCode f.preset) ++ positionBytes f.held ++ be4 f.exposureUsed.toNat
    ++ be2 f.received ++ be2 f.lost ++ be2 f.damaged ++ be1 f.flags.byte ++ be4 allocation ++ be4 f.start.toNat

/-! ## Records (R193) -/

/-- The 20-byte finding record (R193). -/
def Finding.bytes (f : Finding) : List Byte :=
  be4 f.time.toNat ++ be1 f.port.val ++ be1 f.kind.code ++ opt2 f.distance ++ be1 (polarityCode f.polarity)
    ++ be1 f.source.code ++ be1 f.flags.byte ++ be1 f.repeats ++ opt4 (f.resistance.map Prod.fst)
    ++ opt4 (f.resistance.map Prod.snd)

/-- A latest finding of none is 20 bytes of 0xFF (R193). -/
def latestBytes : Option Finding → List Byte
  | some f => f.bytes
  | none => List.replicate 20 0xFF

/-! ## Frames of the control link (R183, R191) -/

/-- A frame: length byte, header and payload, CRC-16. The length byte counts header and payload, up to 250; beyond that
it is a free value (DESIGN CHOICE, log entry 8). -/
def linkFrame (body : List Byte) : List Byte :=
  let l := if body.length ≤ 250 then be1 body.length else [Config.oversizeLength body.length]
  l ++ body ++ crc16Bytes (l ++ body)

/-- A reply frame (R191). -/
def Reply.frame (r : Reply) : List Byte :=
  linkFrame ([r.code] ++ be2 r.tag.toNat ++ [r.port] ++ be1 r.status.code ++ r.payload)

/-- The port byte of a notice header: the port, or 0xFF for a notice of the hub (R191). -/
def Notice.portByte : Notice → Nat
  | .powerChange p .. => p.val | .linkChange p .. => p.val | .lensChange p .. => p.val | .fault p .. => p.val
  | .finding f _ => f.port.val | .diagnosisEnd p _ => p.val | .triggerLoss p .. => p.val | .poolEvent .. => 0xFF
  | .cameraHello p .. => p.val

/-- The flags a learn stores, in the order of R154. -/
def EchoBase.flagBytes (b : EchoBase) : List Byte := flagByte b.overRange ++ flagByte b.uncalibrated

/-- The purpose of a diagnosis, with its fault kind (absent but for REACTION). -/
def Purpose.bytes : Purpose → List Byte
  | .reaction k => be1 0 ++ be1 k.index.val
  | .host => be1 1 ++ be1 0xFF
  | .forced => be1 2 ++ be1 0xFF
  | .learn => be1 3 ++ be1 0xFF

/-- The fields of a DIAGNOSIS_END notice after the port (R156, R173, R174), by the general rule of R190; a result is
0 LEARNED, 1 LEARN_FAILED, 2 ABORTED; a finding's polarity and flags go as in the finding record, the flags in one byte
by the bits of R193, the two flags of a learn as one byte each; an abort sends purpose, fault kind byte and result, and
LEARN_FAILED leaves out the fields of LEARNED (DEDUCED, log entry 9). -/
def DiagnosisReport.bytes : DiagnosisReport → List Byte
  | .aborted purpose => purpose.bytes ++ be1 2
  | .learned n b =>
      be1 3 ++ be1 0 ++ be1 n ++ be2 b.tEnd ++ be1 (polarityCode (some b.polarity)) ++ beInt2 b.amplitude
        ++ be2 b.length ++ b.flagBytes
  | .learnFailed n => be1 3 ++ be1 1 ++ be1 n
  | .judged purpose kind dist pol flags n outcome =>
      purpose.bytes ++ be1 kind.code ++ opt2 dist ++ be1 (polarityCode pol) ++ be1 flags.byte ++ be1 n
        ++ be1 outcome.code

/-- A move as a notice carries it: kind, origin, target; 0 and absent where there is none (R108, R193). -/
def moveBytes : Option (MoveKind × MoveOrigin × Option PresetId) → List Byte
  | none => be1 0 ++ be1 0xFF ++ be1 0xFF
  | some (k, o, t) => be1 k.code ++ be1 o.code ++ be1 (presetCode t)

/-- An iris position as a notice carries it: one byte, the width of its range 0 to 255 (R93, R190); a camera may report
a position above that range, whose byte is a free value (DESIGN CHOICE, log entry 52). -/
def irisByte : Option Half → List Byte
  | none => [0xFF]
  | some n => if n.toNat ≤ 255 then be1 n.toNat else [Config.wideIris n.toNat]

/-- The held positions as a LENS_CHANGE carries them: focus 0 to 4095 and zoom 0 to 1023 in two bytes, iris 0 to 255 in
one, each at the width of its range (R93, R108, R190). -/
def heldBytes : Option Positions → List Byte
  | none => be2 0xFFFF ++ [0xFF] ++ be2 0xFFFF
  | some p => be2 p.focus.toNat ++ irisByte p.iris ++ opt2 (p.zoom.map BitVec.toNat)

/-- The fields of a notice after its header: each field the owning rule lists but the port, which the header bears
(R190, R191; DEDUCED, log entry 9). -/
def Notice.payload : Notice → List Byte
  | .powerChange _ prev new hold retry cause =>
      be1 prev.code ++ be1 new.code ++ flagByte hold ++ be1 retry ++ be1 cause.code
  | .linkChange _ prev new clock => be1 prev.code ++ be1 new.code ++ be4 clock.toNat
  | .lensChange _ prev new event move held code =>
      be1 prev.code ++ be1 new.code ++ be1 event.code ++ moveBytes move ++ heldBytes held
        ++ opt1 (code.map BitVec.toNat)
  | .fault _ kind reaction power retry clock =>
      be1 kind.index.val ++ be1 reaction.code ++ be1 power.code ++ be1 retry ++ be4 clock.toNat
  | .finding f isNew => f.bytes ++ flagByte isNew
  | .diagnosisEnd _ report => report.bytes
  | .triggerLoss _ tag source step preset reason clock =>
      be2 tag.toNat ++ be1 source.index.val ++ be1 step.code ++ be1 (presetCode preset) ++ be1 reason.code
        ++ be4 clock.toNat
  | .poolEvent event mv ma effective sum ports =>
      be1 event.code ++ be4 mv ++ be4 ma ++ be4 effective ++ be4 sum ++ listField (fun p : PortId => be1 p.val) ports
  | .cameraHello _ id cls kind => be4 id.toNat ++ [cls] ++ be1 kind.code

/-- A notice frame: kind code 0x80 to 0x88, port, fields (R191). -/
def Notice.frame (n : Notice) : List Byte :=
  linkFrame (be1 (0x80 + n.kindIndex.val) ++ be1 n.portByte ++ n.payload)

end Sys2Proof.Machine
end

