-- ==== Sys2Proof/Machine/Ops.lean ====
section
/-! DEFINITION. An event in progress, and the operations every block uses: updates of one block of one port, the hub
clocks, notices offered in an event and joined at its end, replies, timers, power and link changes. -/

namespace Sys2Proof.Machine

/-! ## The hub clocks (Hub clocks, 00) -/

/-- The hub microsecond clock. -/
def State.usClock (s : State) : Word := BitVec.ofNat 32 (s.time - s.epoch)

/-- The hub millisecond clock. -/
def State.msClock (s : State) : Word := BitVec.ofNat 32 ((s.time - s.epoch) / 1000)

/-- The column of a port. -/
def State.port (s : State) (p : PortId) : Port := s.ports.get p

/-- The ports in the order port 0 to port 7. -/
def allPorts : List PortId := [0, 1, 2, 3, 4, 5, 6, 7]

/-! ## An event in progress -/

/-- What an event has yet to do before it ends (DEDUCED, log entry 5): examine the head of a port's pending queue (R84), hand in
a waiting lens packet (R98), start the downstream channel (R21), serve the admission queue (R60), let the output
arbiter pick (R131), let the meter's arbiter pick (R144). -/
inductive Task
  | examine (p : PortId)
  | handIn (p : PortId)
  | channel (p : PortId)
  | serve
  | output
  | meter
  deriving DecidableEq, Repr

/-- A notice offered in the event in progress; a POWER_CHANGE is resolved at the event's end, since it tells the state
before the event and the state after it (R30). -/
inductive Offer
  | notice (n : Notice)
  | power (p : PortId) (cause : PowerCause)
  deriving DecidableEq, Repr

/-- An event in progress: the state, the port columns as the event found them, the notices offered so far, the
POOL_EVENTs offered after all of them (R70; event, sample voltage, summed current, ports moved), and the work left. -/
structure Ev extends State where
  before : Vector Port 8
  offers : List Offer
  poolOffers : List (PoolEvent × Nat × Nat × List PortId)
  todo : List Task

/-- An event that has just begun. -/
def State.begin (s : State) : Ev := { s with before := s.ports, offers := [], poolOffers := [], todo := [] }

/-- Work left for the end of the event. -/
def Ev.push (e : Ev) (t : Task) : Ev := { e with todo := e.todo ++ [t] }

/-- A notice offered (R184); notices of one event join in the order offered. -/
def Ev.offer (e : Ev) (n : Notice) : Ev := { e with offers := e.offers ++ [.notice n] }

/-- The time base reaches the moment of a timer's expiry (DESIGN CHOICE, log entry 2). -/
def Ev.reach (e : Ev) (d : Nat) : Ev := { e with time := max e.time d }

/-! ## Updates of one block of one port -/

/-- The column of a port changed by f. -/
def Ev.updPort (e : Ev) (p : PortId) (f : Port → Port) : Ev := { e with ports := modifyAt e.ports p f }

/-- The tether port changed by f. -/
def Ev.updTether (e : Ev) (p : PortId) (f : Tether → Tether) : Ev :=
  e.updPort p fun x => { x with tether := f x.tether }

/-- The feed controller changed by f. -/
def Ev.updFeed (e : Ev) (p : PortId) (f : Feed → Feed) : Ev := e.updPort p fun x => { x with feed := f x.feed }

/-- The pool manager's figures for a port changed by f. -/
def Ev.updFigures (e : Ev) (p : PortId) (f : PoolPort → PoolPort) : Ev :=
  e.updPort p fun x => { x with pool := f x.pool }

/-- The capture sequencer changed by f. -/
def Ev.updCapture (e : Ev) (p : PortId) (f : Capture → Capture) : Ev :=
  e.updPort p fun x => { x with capture := f x.capture }

/-- The lens sequencer changed by f. -/
def Ev.updLens (e : Ev) (p : PortId) (f : Lens → Lens) : Ev := e.updPort p fun x => { x with lens := f x.lens }

/-- The ingress buffer changed by f. -/
def Ev.updIngress (e : Ev) (p : PortId) (f : Ingress → Ingress) : Ev :=
  e.updPort p fun x => { x with ingress := f x.ingress }

/-- The relay counters of a port changed by f. -/
def Ev.updRelay (e : Ev) (p : PortId) (f : RelayCounters → RelayCounters) : Ev :=
  e.updPort p fun x => { x with relay := f x.relay }

/-- The break analyser's records of a port changed by f. -/
def Ev.updCable (e : Ev) (p : PortId) (f : Cable → Cable) : Ev := e.updPort p fun x => { x with cable := f x.cable }

/-- The pool manager changed by f. -/
def Ev.updPool (e : Ev) (f : Pool → Pool) : Ev := { e with pool := f e.pool }

/-- The trigger router changed by f. -/
def Ev.updRouter (e : Ev) (f : Router → Router) : Ev := { e with router := f e.router }

/-- The output port changed by f. -/
def Ev.updOutput (e : Ev) (f : Output → Output) : Ev := { e with output := f e.output }

/-- The cable meter changed by f. -/
def Ev.updMeter (e : Ev) (f : Meter → Meter) : Ev := { e with meter := f e.meter }

/-- The break analyser's hub-wide records changed by f. -/
def Ev.updBreaks (e : Ev) (f : Breaks → Breaks) : Ev := { e with breaks := f e.breaks }

/-- The control link changed by f. -/
def Ev.updLink (e : Ev) (f : Link → Link) : Ev := { e with link := f e.link }

/-- The tether counters of a port changed by f. -/
def Ev.countTether (e : Ev) (p : PortId) (f : TetherCounters → TetherCounters) : Ev :=
  e.updTether p fun t => { t with counters := f t.counters }

/-- The feed counters of a port changed by f. -/
def Ev.countFeed (e : Ev) (p : PortId) (f : FeedCounters → FeedCounters) : Ev :=
  e.updFeed p fun t => { t with counters := f t.counters }

/-- The capture counters of a port changed by f. -/
def Ev.countCapture (e : Ev) (p : PortId) (f : CaptureCounters → CaptureCounters) : Ev :=
  e.updCapture p fun t => { t with counters := f t.counters }

/-- The lens counters of a port changed by f. -/
def Ev.countLens (e : Ev) (p : PortId) (f : LensCounters → LensCounters) : Ev :=
  e.updLens p fun t => { t with counters := f t.counters }

/-- The ingress counters of a port changed by f. -/
def Ev.countIngress (e : Ev) (p : PortId) (f : IngressCounters → IngressCounters) : Ev :=
  e.updIngress p fun t => { t with counters := f t.counters }

/-- The break counters of a port changed by f. -/
def Ev.countCable (e : Ev) (p : PortId) (f : BreakCounters → BreakCounters) : Ev :=
  e.updCable p fun t => { t with counters := f t.counters }

/-- The pool counters changed by f. -/
def Ev.countPool (e : Ev) (f : PoolCounters → PoolCounters) : Ev :=
  e.updPool fun t => { t with counters := f t.counters }

/-- The output counters changed by f. -/
def Ev.countOutput (e : Ev) (f : OutputCounters → OutputCounters) : Ev :=
  e.updOutput fun t => { t with counters := f t.counters }

/-- The meter counters changed by f. -/
def Ev.countMeter (e : Ev) (f : MeterCounters → MeterCounters) : Ev :=
  e.updMeter fun t => { t with counters := f t.counters }

/-- The control link counters changed by f. -/
def Ev.countLink (e : Ev) (f : LinkCounters → LinkCounters) : Ev :=
  e.updLink fun t => { t with counters := f t.counters }

/-! ## Sticky flags and notices (R183, R184) -/

/-- The notices-lost flag is set; a status byte taken before does not clear it (R183). -/
def Link.setLost (l : Link) : Link :=
  { l with noticesLost := true, transaction := l.transaction.map fun t => { t with clearLost := false } }

/-- The frame-rejected flag is set (R180, R183). -/
def Link.setRejected (l : Link) : Link :=
  { l with frameRejected := true, transaction := l.transaction.map fun t => { t with clearRejected := false } }

/-- The request-dropped flag is set (R181, R183). -/
def Link.setDropped (l : Link) : Link :=
  { l with requestDropped := true, transaction := l.transaction.map fun t => { t with clearDropped := false } }

/-- An offered notice is masked off, lost to a full queue, or joins the tail (R184). -/
def Link.join (l : Link) (n : Notice) : Link :=
  if l.mask.getLsbD n.kindIndex.val then
    if l.notices.length < Config.noticeEntries then { l with notices := l.notices ++ [n] }
    else { l.setLost with counters := { l.counters with lost := bump l.counters.lost } }
  else { l with counters := { l.counters with masked := bump l.counters.masked } }

/-- The POWER_CHANGE of a port at the end of an event: the power state before and after, the HOLD flag and the retry
count; nothing when neither the state nor the HOLD flag differs (R30). -/
def powerNotice (before after : Port) (p : PortId) (cause : PowerCause) : Option Notice :=
  if before.feed.power = after.feed.power ∧ before.feed.hold = after.feed.hold then none
  else some (.powerChange p before.feed.power after.feed.power after.feed.hold after.feed.retry cause)

/-- An offer as the notice it stands for at the end of the event. -/
def Offer.resolve (before after : Vector Port 8) : Offer → Option Notice
  | .notice n => some n
  | .power p cause => powerNotice (before.get p) (after.get p) p cause

/-- The sum of the eight allocations (R53). -/
def State.allocationSum (s : State) : Nat :=
  (s.ports.toList.map fun x => x.pool.base + x.pool.surcharge).sum

/-- The effective budget: three quarters of the budget, floored, while in DERATE (R53). -/
def Pool.effectiveBudget (q : Pool) : Nat := if q.derate then q.settings.budget * 3 / 4 else q.settings.budget

/-- The notices of an event in the order they join: those offered, then the POOL_EVENT (R30, R70). -/
def Ev.notices (e : Ev) : List Notice :=
  e.offers.filterMap (Offer.resolve e.before e.ports)
    ++ e.poolOffers.map fun (event, mv, ma, ports) =>
        .poolEvent event mv ma e.pool.effectiveBudget e.allocationSum ports

/-- The end of an event: its notices join the notice queue. -/
def Ev.finish (e : Ev) : State := { e.toState with link := e.notices.foldl Link.join e.link }

/-! ## Replies (R182) -/

/-- A reply is written and joins the written order (R182). -/
def Ev.writeReply (e : Ev) (r : Reply) : Ev := e.updLink fun l => { l with written := l.written ++ [r] }

/-- Free reply entries: eight less the reserved ones, one for each relay entry, and the written ones (R135, R182). -/
def State.freeReplies (s : State) : Nat := Config.replyEntries - (s.relay.length + s.link.written.length)

/-! ## Power state and HOLD flag (R28, R30) -/

/-- Whether an offer is the POWER_CHANGE of a port. -/
def Offer.isPower (p : PortId) : Offer → Bool
  | .power q _ => decide (q = p)
  | .notice _ => false

/-- The port's POWER_CHANGE of this event, with the cause of its last change, stands where that change falls (R30, log
entry 17). -/
def Ev.markPower (e : Ev) (p : PortId) (cause : PowerCause) : Ev :=
  { e with offers := (e.offers.filter fun o => !o.isPower p) ++ [.power p cause] }

/-- A new power state (R30). Each entry into BACKOFF counts as a retry and each into LOCKED_OUT as a lockout (R49), and
the consecutive-INVALID count returns to 0 outside PROBING and VACANT (R33). -/
def Feed.enter (f : Feed) (st : PowerState) : Feed :=
  { f with
    power := st
    invalidCount := if st = .probing ∨ st = .vacant then f.invalidCount else 0
    counters :=
      { f.counters with
        retries := if st = .backoff ∧ f.power ≠ .backoff then bump f.counters.retries else f.counters.retries
        lockouts := if st = .lockedOut ∧ f.power ≠ .lockedOut then bump f.counters.lockouts else f.counters.lockouts } }

/-- A change of power state with its cause. -/
def Ev.setPower (e : Ev) (p : PortId) (st : PowerState) (cause : PowerCause) : Ev :=
  (e.updFeed p fun f => f.enter st).markPower p cause

/-- The HOLD flag set or cleared, which is reported at once (R30, R42). -/
def Ev.setHold (e : Ev) (p : PortId) (b : Bool) (cause : PowerCause) : Ev :=
  (e.updFeed p fun f => { f with hold := b }).markPower p cause

/-! ## Link state (R7) and the LIVE shot it carries (R147) -/

/-- A LIVE shot of the port is cut short when its link leaves LOCKING: no result, and the meter is released (R145,
R147). -/
def Ev.cutLive (e : Ev) (p : PortId) : Ev :=
  match e.meter.holder with
  | some (.live q, _) =>
      if q = p then
        ((e.updMeter fun m => { m with holder := none }).countMeter fun c => { c with liveCut := bump c.liveCut }).push
          .meter
      else e
  | _ => e

/-- A change of link state offers a LINK_CHANGE notice (R184); leaving LOCKING cuts a LIVE shot short. -/
def Ev.setLink (e : Ev) (p : PortId) (new : LinkState) : Ev :=
  let old := (e.port p).tether.link
  if old = new then e
  else
    let e := (e.updTether p fun t => { t with link := new }).offer (.linkChange p old new e.usClock)
    if old = .locking then e.cutLive p else e

/-! ## Timers -/

/-- An expiry: nothing when the timer is stopped, for a stopped timer has no expiry (Timers, 00); otherwise the time
base reaches the timer's end and the owner acts (log entries 1 and 2). DEDUCED: log entry 1. -/
def Ev.onExpiry (e : Ev) (timer : Option Nat) (act : Ev → Ev) : Ev :=
  match timer with
  | none => e
  | some d => act (e.reach d)

end Sys2Proof.Machine
end

