-- ==== Sys2Proof/Machine/Relay.lean ====
section
/-! DEFINITION. The camera access relay (07, 7.4 and 7.5): its entries from the taken request to the reply. -/

namespace Sys2Proof.Machine

/-- The request kind code of CAM_ACCESS (R194). -/
def camAccessCode : Byte := 0x60

/-- The nine-byte payload of a CAM_ACCESS reply (R191). -/
def accessPayload (kind : Byte) (param : Half) (code : Byte) (value : Word) (answered : Bool) : List Byte :=
  [kind] ++ be2 param.toNat ++ [code] ++ be4 value.toNat ++ flagByte answered

/-- The reply of a relay entry (R139 to R141). -/
def RelayEntry.reply (r : RelayEntry) (status : Status) (code : Byte) (value : Word) (answered : Bool) : Reply :=
  { code := camAccessCode, tag := r.hostTag, port := r.portField, status := status,
    payload := accessPayload (BitVec.ofNat 8 r.kind.code) r.param code value answered }

/-- Whether the entry counts toward its port's limit of three: QUEUED or SENT (R135). -/
def RelayStage.unanswered : RelayStage → Bool
  | .queued => true
  | .sent => true
  | .held .. => false

/-- Whether the entry belongs to the port and is QUEUED or SENT. -/
def RelayEntry.waitsAt (r : RelayEntry) (p : PortId) : Bool := decide (r.port = p) && r.stage.unanswered

/-- Whether the entry is HELD at the port with its watermark reached by the egress count (R138). -/
def RelayEntry.released (r : RelayEntry) (p : PortId) (egress : Word) : Bool :=
  decide (r.port = p) && (match r.stage with | .held _ _ w _ => reached egress w | .queued => false | .sent => false)

/-- The reply of a HELD entry whose watermark is reached (R139): ABORTED with the ANSWERED mark where the entry bears
the cut mark (R141), else DONE for code 0 and CAMERA_ERROR otherwise. -/
def RelayEntry.heldReply (r : RelayEntry) : Option Reply :=
  match r.stage with
  | .held code value _ true => some (r.reply .aborted code value true)
  | .held code value _ false => some (r.reply (if code = 0 then .done else .cameraError) code value false)
  | .queued => none
  | .sent => none

/-- The reply counter of a port rises for a reply of the given status (R142). -/
def RelayCounters.countReply (c : RelayCounters) : Status → RelayCounters
  | .done => { c with done := bump c.done }
  | .cameraError => { c with cameraError := bump c.cameraError }
  | .timeout => { c with timeout := bump c.timeout }
  | .aborted => { c with aborted := bump c.aborted }
  | .adjusted => c | .refusedState => c | .refusedBusy => c | .refusedFull => c | .badRequest => c
  | .badArgument => c | .badConfig => c

/-- A reply of the relay for a port is written and counted. -/
def Ev.relayReply (e : Ev) (p : PortId) (r : Reply) : Ev :=
  (e.writeReply r).updRelay p fun c => c.countReply r.status

/-- The relay entries of an event are replaced. -/
def Ev.setRelay (e : Ev) (l : List RelayEntry) : Ev := { e with relay := l }

/-- The relay tests a port's HELD entries against its egress count; those reached are replied in arrival order (R138,
R139). -/
def Ev.relayTest (e : Ev) (p : PortId) : Ev :=
  let egress := (e.port p).ingress.egressCount
  let due := e.relay.filter fun r => r.released p egress
  (due.filterMap RelayEntry.heldReply).foldl (fun x r => x.relayReply p r)
    (e.setRelay (e.relay.filter fun r => !r.released p egress))

/-- The cut mark of a HELD entry of a port (R141). -/
def RelayEntry.markCut (r : RelayEntry) (p : PortId) : RelayEntry :=
  match r.stage with
  | .held code value w _ => if r.port = p then { r with stage := .held code value w true } else r
  | .queued => r
  | .sent => r

/-- A feed cut ends every QUEUED and SENT entry of the port with ABORTED, in hand-in order, and marks the HELD ones
(R141). -/
def Ev.relayAbort (e : Ev) (p : PortId) : Ev :=
  let gone := e.relay.filter fun r => r.waitsAt p
  gone.foldl (fun x r => x.relayReply p (r.reply .aborted 0 0 false))
    (e.setRelay ((e.relay.filter fun r => !r.waitsAt p).map fun r => r.markCut p))

/-- Whether the entry is the SENT entry of a port with a down tag (R25: the outstanding-answer table holds it). -/
def RelayEntry.sentAs (r : RelayEntry) (p : PortId) (tag : Byte) : Bool :=
  decide (r.port = p) && decide (r.stage = .sent) && decide (r.downTag = tag)

/-- The packet of a QUEUED entry has been sent: the entry enters SENT (R137). -/
def Ev.relaySent (e : Ev) (p : PortId) (tag : Byte) : Ev :=
  e.setRelay (e.relay.map fun r =>
    if r.port = p ∧ r.stage = .queued ∧ r.downTag = tag then { r with stage := .sent } else r)

/-- A matched answer: the entry takes the port's ingress count as its watermark, enters HELD behind the port's other
HELD entries, and is tested at once (R138). -/
def Ev.relayAnswer (e : Ev) (p : PortId) (tag : Byte) (code : Byte) (value : Word) : Ev :=
  match e.relay.find? fun r => r.sentAs p tag with
  | none => e
  | some r =>
      let i := (e.port p).ingress
      let held := { r with stage := .held code value i.ingressCount false }
      let e := e.setRelay ((e.relay.filter fun r => !r.sentAs p tag) ++ [held])
      let e := if reached i.egressCount i.ingressCount then e
        else e.updRelay p fun c => { c with held := bump c.held }
      e.relayTest p

/-- The deadline of a SENT entry has expired: TIMEOUT at once (R140). -/
def Ev.relayTimeout (e : Ev) (p : PortId) (tag : Byte) : Ev :=
  match e.relay.find? fun r => r.sentAs p tag with
  | none => e
  | some r =>
      (e.setRelay (e.relay.filter fun r => !r.sentAs p tag)).relayReply p (r.reply .timeout 0 0 false)

end Sys2Proof.Machine
end

