-- ==== Sys2Proof/Machine/Ingress.lean ====
section
/-! DEFINITION. The ingress buffer and frame assembler (06): slots, the frame record, trailers, flushes; and the credit
counts that follow the slots (R17 to R20). -/

namespace Sys2Proof.Machine

/-! ## Credits (R20) -/

/-- While the link is UP, a credit return becomes due when unreturned is 4 or more, or above 0 with occupied at 0
(R20). -/
def Tether.returnDue (t : Tether) : Bool :=
  decide (t.link = .up) && (decide (4 ≤ t.unreturned) || (decide (0 < t.unreturned) && decide (t.occupied = 0)))

/-- The credit return is judged after the counts changed; a return that is due lets the channel start its CREDIT. -/
def Ev.judgeCredit (e : Ev) (p : PortId) : Ev :=
  if (e.port p).tether.returnDue then (e.updTether p fun t => { t with creditDue := true }).push (.channel p) else e

/-- A credited slot frees: occupied falls by 1 and unreturned rises by 1 (R20). -/
def Ev.creditFreed (e : Ev) (p : PortId) : Ev :=
  (e.updTether p fun t => { t with occupied := t.occupied - 1, unreturned := t.unreturned + 1 }).judgeCredit p

/-- A charged packet is discarded: its slot frees at once and unreturned rises by 1 (R19). -/
def Ev.creditDiscarded (e : Ev) (p : PortId) : Ev :=
  (e.updTether p fun t => { t with unreturned := t.unreturned + 1 }).judgeCredit p

/-! ## Placement -/

/-- A hub packet joins the tail of the ingress queue and raises the ingress count (R110, R111). -/
def Ingress.place (i : Ingress) (s : Slot) : Ingress :=
  { i with queue := i.queue ++ [s], ingressCount := i.ingressCount + 1 }

/-- A packet is kept in a credited slot: occupied rises, and the output arbiter may pick (R112, R131). -/
def Ev.keepPacket (e : Ev) (p : PortId) (k : HubPacket) : Ev :=
  ((e.updIngress p fun i => i.place { reserve := false, packet := k }).updTether p fun t =>
    { t with occupied := t.occupied + 1 }).push .output

/-! ## Frames and trailers -/

/-- The reserve slot is occupied while its trailer waits or is in transmission (R120). -/
def Ingress.reserveOccupied (i : Ingress) : Bool := i.queue.any fun s => s.reserve

/-- A trailer packet of a frame (R119): the allocation is the one held in the closing event. -/
def trailerPacket (f : OpenFrame) (sequence : Byte) (allocation : Nat) : HubPacket :=
  { kind := .trailer, frame := f.number, sequence := sequence, damaged := false,
    payload := trailerBytes f allocation }

/-- The allocation of a port (R53). -/
def PoolPort.allocation (q : PoolPort) : Nat := q.base + q.surcharge

/-- An open frame closes TRUNCATED (R115, R120): a synthesized trailer goes into the reserve slot, or is lost when that
slot is occupied; the record becomes next. Nothing when no frame is open. -/
def Ev.truncateFrame (e : Ev) (p : PortId) (next : FrameRecord) : Ev :=
  match (e.port p).ingress.record with
  | .openFrame f =>
      let flags := { f.flags with truncated := true }
      let k := trailerPacket { f with flags := flags } (e.port p).ingress.expected (e.port p).pool.allocation
      let e := e.countIngress p fun c => { c with truncated := bump c.truncated }
      if (e.port p).ingress.reserveOccupied then
        (e.countIngress p fun c => { c with trailersLost := bump c.trailersLost }).updIngress p fun i =>
          { i with record := next }
      else
        (e.updIngress p fun i => { i.place { reserve := true, packet := k } with record := next }).push .output
  | .empty => e
  | .discarding => e

/-- The link has left UP (R123). -/
def Ev.ingressLinkLost (e : Ev) (p : PortId) : Ev :=
  match (e.port p).ingress.record with
  | .openFrame _ => e.truncateFrame p .empty
  | .discarding => e.updIngress p fun i => { i with record := .empty }
  | .empty => e

/-- Each entry into DISCARDING raises the frames-discarded counter (R121). DEDUCED: log entry 40. -/
def Ev.enterDiscarding (e : Ev) (p : PortId) : Ev :=
  (e.updIngress p fun i => { i with record := .discarding }).countIngress p fun c =>
    { c with discarded := bump c.discarded }

/-- A packet in transmission whose slot a flush frees is noted at the output port (R133). -/
def Output.noteFlush (o : Output) (p : PortId) : Output :=
  { o with sending := o.sending.map fun t => if t.port = p then { t with flushed := true } else t }

/-- A flush: every occupied slot is freed, the egress count reaches the ingress count, the credit counts become 0, the
record NONE; the relay tests its watermarks (R124, R138). -/
def Ev.flush (e : Ev) (p : PortId) : Ev :=
  let n := (e.port p).ingress.queue.length
  let e := (e.updIngress p fun i =>
      { i with queue := [], egressCount := i.egressCount + BitVec.ofNat 32 n, record := .empty, expected := 1
               counters := { i.counters with flushed := bumpBy n i.counters.flushed } }).updTether p fun t =>
    { t with occupied := 0, unreturned := 0 }
  (e.updOutput fun o => o.noteFlush p).relayTest p

/-! ## Lines (R116, R117) -/

/-- The gap of a sequence number: s less the expected number, modulo 256 (R117). -/
def sequenceGap (expected s : Byte) : Nat := (s - expected).toNat

/-- A LINE or FRAME_END of the open frame is judged by its sequence number: a gap below 128 counts lost lines, a larger
one a sequence fault; the expected number becomes s + 1 (R117, R118). -/
def Ingress.judgeSequence (i : Ingress) (f : OpenFrame) (s : Byte) : Ingress × OpenFrame :=
  let g := sequenceGap i.expected s
  if g < 128 then
    ({ i with expected := s + 1, counters := { i.counters with linesLost := bumpBy g i.counters.linesLost } },
      { f with lost := bumpLines g f.lost })
  else
    ({ i with expected := s + 1, counters := { i.counters with sequenceFaults := bump i.counters.sequenceFaults } }, f)

/-- The lines lost of a completed frame: the greater of the count gathered and what the camera's line count leaves
(R118). DEDUCED: log entry 24. -/
def lostAtEnd (f : OpenFrame) (lineCount : Nat) : Nat :=
  max f.lost (min (lineCount - f.received - f.damaged) Config.lineCountMax)

end Sys2Proof.Machine
end

