-- ==== Sys2Proof/Machine/Pool.lean ====
section
/-! DEFINITION. The pool manager's arithmetic and its admission queue (03): R_used, the feed calculation, joining and
leaving the queue, releasing an allocation, the current limits of R35. -/

namespace Sys2Proof.Machine

/-! ## R_used (R54, R55) -/

/-- R from length: the round half up of L x loop / 100, plus the connector allowance (R55). -/
def rFromLength (k : CableKind) (length : Nat) : Nat := roundHalfUp (length * k.loop) 100 + k.connector

/-- R_used and its source: the first that exists of the measured baseline, the learned length, the declared length and
5000 cm (R54). -/
def chooseRUsed (x : Port) (k : CableKind) : Nat × RSource :=
  match x.cable.resistanceBase with
  | some r => (r, .baseline)
  | none =>
      match x.cable.echoBase with
      | some b => (rFromLength k b.length, .learned)
      | none =>
          if x.feed.settings.declaredLength ≠ 0 then (rFromLength k x.feed.settings.declaredLength, .declared)
          else (rFromLength k 5000, .default)

/-! ## The feed calculation (R56) -/

/-- The result of a feed calculation: the failing stage, or the figure and the current estimate. -/
inductive FeedResult
  | infeasible (s : Stage)
  | feasible (figure estimate : Nat)
  deriving DecidableEq, Repr

/-- The four stages of R56 for a power in mW. -/
def feedCalculation (power vPool vMin rUsed effective : Nat) : FeedResult :=
  let current := ceilDiv (power * 1000) vMin
  let drop := ceilDiv (current * rUsed) 1000
  let loss := ceilDiv (current * current * rUsed) 1000000
  let figure := power + loss
  if 3000 < current then .infeasible .current
  else if vPool < vMin + drop then .infeasible .drop
  else if effective < figure then .infeasible .budget
  else .feasible figure current

/-- The calculation of a port with its fixed R_used, against the effective budget now in force (R54, R56). -/
def State.feedFor (s : State) (p : PortId) (power : Nat) : FeedResult :=
  feedCalculation power s.pool.settings.vPool (s.port p).feed.settings.vMin
    (match (s.port p).pool.rUsed with | some r => r.1 | none => 0) s.pool.effectiveBudget

/-- The class power (R36): 4000, 7000, 10 000 and 13 000 mW for classes 1 to 4. -/
def classPower (c : Nat) : Nat := 1000 + 3000 * c

/-- A current limit: the ceiling of an estimate x 5 / 4 (R35). -/
def limitOf (estimate : Nat) : Nat := ceilDiv (estimate * 5) 4

/-! ## The admission queue (R58) -/

/-- An entry takes its place by priority, then by arrival stamp (R58); of equal stamps, which only a stamp counter at its
maximum gives, behind those that stand there already (DESIGN CHOICE, log entry 55). -/
def insertEntry (n : AdmissionEntry) : List AdmissionEntry → List AdmissionEntry
  | [] => [n]
  | x :: xs =>
      if n.priority < x.priority ∨ (n.priority = x.priority ∧ x.stamp ≤ n.stamp) then x :: insertEntry n xs
      else n :: x :: xs

/-- An entry joins with the next arrival stamp; the stamp counter stops at its maximum (R58; Counters and tags, 00). -/
def Pool.join (q : Pool) (p : PortId) (t : RequestType) (amount priority : Nat) : Pool :=
  { q with queue := insertEntry ⟨p, t, amount, priority, q.stamp⟩ q.queue, stamp := bump q.stamp }

/-- The queue replaced; the stamp counter returns to 0 when the queue is empty (R58). -/
def Pool.setQueue (q : Pool) (l : List AdmissionEntry) : Pool :=
  { q with queue := l, stamp := if l.isEmpty then 0 else q.stamp }

/-- The port's entry leaves the queue without admission; the queue is served again (R62). -/
def Ev.dropEntry (e : Ev) (p : PortId) : Ev :=
  if e.pool.queue.any fun x => decide (x.port = p) then
    (e.updPool fun q => q.setQueue (q.queue.filter fun x => decide (x.port ≠ p))).push .serve
  else e

/-- An entry's priority changes and the queue is re-sorted and served; the stamp stays (R62). -/
def Ev.resortEntry (e : Ev) (p : PortId) (priority : Nat) : Ev :=
  match e.pool.queue.find? fun x => decide (x.port = p) with
  | none => e
  | some x =>
      (e.updPool fun q =>
        { q with queue := insertEntry { x with priority := priority }
                            (q.queue.filter fun x => decide (x.port ≠ p)) }).push .serve

/-- The fixed R_used ends, and the figures of the FULL request with it (R54). -/
def PoolPort.clearFigures (q : PoolPort) : PoolPort :=
  { q with rUsed := none, classFigure := 0, surchargeAmount := 0, estClass := 0, estLens := 0, bootEstimate := 0 }

/-- A port whose BOOT request ends without admission loses its fixed R_used (R54, R62). -/
def Ev.endBootRequest (e : Ev) (p : PortId) : Ev := (e.dropEntry p).updFigures p PoolPort.clearFigures

/-- The allocation of a port falls to 0 in a feed cut: it leaves the admitted-port list, any entry of it leaves the
queue, R_used ends, and the queue is served (R63). -/
def Ev.releaseAllocation (e : Ev) (p : PortId) : Ev :=
  ((((e.updFigures p fun q => { q.clearFigures with base := 0, surcharge := 0 }).updPool fun q =>
      { q with admitted := q.admitted.filter fun x => decide (x ≠ p) }).dropEntry p).push .serve)

/-- A surcharge release: the surcharge part returns to 0, the limit to the class limit, and the queue is served
(R63). -/
def Ev.releaseSurcharge (e : Ev) (p : PortId) : Ev :=
  ((e.updFigures p fun q => { q with surcharge := 0 }).updFeed p fun f =>
    { f with limit := limitOf (e.port p).pool.estClass }).push .serve

/-- The port's last infeasible record and the infeasible counter (R59). -/
def Ev.noteInfeasible (e : Ev) (p : PortId) (t : RequestType) (s : Stage) : Ev :=
  (e.updFigures p fun q => { q with infeasible := some (t, s) }).countPool fun c =>
    { c with infeasible := bump c.infeasible }

/-- A request joins the queue with the port's priority, and the queue is served (R59). -/
def Ev.joinQueue (e : Ev) (p : PortId) (t : RequestType) (amount : Nat) : Ev :=
  (e.updPool fun q => q.join p t amount (e.port p).feed.settings.priority).push .serve

end Sys2Proof.Machine
end

