-- ==== Sys2Proof/Machine/Cut.lean ====
section
/-! DEFINITION. The feed cut with the teardown of every neighbour (R29, R15, R16, R90, R107, R141), findings (R176), the
diagnosis queue (R169, R171, R174), and faults with their reactions (R168, R40 to R44). -/

namespace Sys2Proof.Machine

/-! ## Losing triggers (R81, R90) -/

/-- The counter of a loss reason (R81). -/
def CaptureCounters.countLoss (c : CaptureCounters) : LossReason → CaptureCounters
  | .unavailable => { c with unavailable := bump c.unavailable }
  | .overrun => { c with overrun := bump c.overrun }
  | .stale => { c with stale := bump c.stale }
  | .lensFault => { c with lensFault := bump c.lensFault }
  | .disabled => { c with disabled := bump c.disabled }
  | .missed => { c with missed := bump c.missed }

/-- A trigger is dropped, or an exposure ends without a frame: the counter of its reason and a TRIGGER_LOSS notice
(R81). -/
def Ev.loseTrigger (e : Ev) (p : PortId) (tag : Half) (source : Source) (step : StepRef) (preset : Option PresetId)
    (reason : LossReason) : Ev :=
  (e.countCapture p fun c => c.countLoss reason).offer (.triggerLoss p tag source step preset reason e.usClock)

/-- A silent discard (R90, R91). -/
def Ev.silentDiscard (e : Ev) (p : PortId) : Ev := e.countCapture p fun c => { c with silent := bump c.silent }

/-- What a feed cut does with the triggers it removes: a reason, or silence (R90). -/
inductive Disposal
  | silent
  | drop (reason : LossReason)
  deriving DecidableEq, Repr

/-- One removed trigger under a disposal. -/
def Ev.dispose (e : Ev) (p : PortId) (d : Disposal) (tag : Half) (source : Source) (step : StepRef)
    (preset : Option PresetId) : Ev :=
  match d with
  | .silent => e.silentDiscard p
  | .drop reason => e.loseTrigger p tag source step preset reason

/-- The exposure record closes without a frame: the head is examined and a waiting lens packet may go (R84, R98). -/
def Ev.closeExposure (e : Ev) (p : PortId) : Ev :=
  ((e.updCapture p fun c => { c with exposure := none }).push (.handIn p)).push (.examine p)

/-- The capture side of a feed cut (R90): the open record first, then the pending entries oldest first; a record whose
TRIGGER had been sent closes silently. -/
def Ev.cutCapture (e : Ev) (p : PortId) (d : Disposal) (notSent : Bool) : Ev :=
  let c := (e.port p).capture
  let e := match c.exposure with
    | none => e
    | some x => if notSent then e.dispose p d x.tag x.source x.step x.preset else e.silentDiscard p
  let e := c.queue.foldl (fun y t => y.dispose p d t.tag t.source t.step t.preset) e
  e.updCapture p fun c => { c with queue := [], want := none, exposure := none }

/-- The tether port reports the record's TRIGGER as not sent while the feed stays on (R15, R90). -/
def Ev.triggerNotSent (e : Ev) (p : PortId) : Ev :=
  match (e.port p).capture.exposure with
  | none => e
  | some x => (e.loseTrigger p x.tag x.source x.step x.preset .unavailable).closeExposure p

/-! ## The lens (R107, R108) -/

/-- A move as a LENS_CHANGE notice names it. -/
def moveBrief (m : Option Move) : Option (MoveKind × MoveOrigin × Option PresetId) :=
  m.map fun x => (x.kind, x.origin, x.target)

/-- Whether a LENS_CHANGE of the port has been offered in this event. -/
def Offer.isLensChange (p : PortId) : Offer → Bool
  | .notice (.lensChange q ..) => decide (q = p)
  | .notice _ => false
  | .power .. => false

/-- A LENS_CHANGE notice; one event offers at most one for a port (R108, log entry 16). The positions and the answer
code are those the lens then holds. -/
def Ev.lensNotice (e : Ev) (p : PortId) (prev new : LensState) (event : LensEvent) (m : Option Move) : Ev :=
  if e.offers.any (Offer.isLensChange p) then e
  else e.offer (.lensChange p prev new event (moveBrief m) (e.port p).lens.held (e.port p).lens.lastCode)

/-- A feed cut makes the lens ABSENT (R107). -/
def Ev.lensAbsent (e : Ev) (p : PortId) : Ev :=
  let old := (e.port p).lens
  let e := e.updLens p fun l =>
    { l with state := .absent, move := none, want := none, held := none, lastTarget := none, settleTimer := none }
  if old.state = .absent then e else e.lensNotice p old.state .absent .power old.move

/-! ## The link (R15, R16) -/

/-- Whether the item is a TRIGGER packet. -/
def DownItem.isTrigger : DownItem → Bool
  | .packet k => k.isTrigger
  | .wake => false
  | .credit _ => false

/-- Whether the port's TRIGGER has not been sent: it waits in the downstream queue, or its transmission is to be
abandoned (R16, R90; DEDUCED, log entry 49). -/
def Tether.triggerUnsent (t : Tether) : Bool :=
  t.queue.any DownPacket.isTrigger || t.channel.any DownItem.isTrigger

/-- Leaving UP (R15): the camera holds no credits, a credit return is no longer due, waiting TRIGGERs are removed, and
the ingress buffer is told. -/
def Ev.leaveUp (e : Ev) (p : PortId) : Ev :=
  (e.updTether p fun t =>
    { t with cameraHeld := 0, creditDue := false, queue := t.queue.filter fun k => !k.isTrigger }).ingressLinkLost p

/-- What DOWN and QUIET leave of a tether port (R16): occupied, unreturned, the down-tag counter and the counters stay;
camera-held is 0, as R15 and R17 have it outside UP. -/
def Tether.torn (t : Tether) : Tether :=
  { t with lockCheck := none, wakeTimer := none, relockTimer := none, helloTimer := none, marks := 0, goodWindows := 0
           session := none, cameraId := none, cameraHeld := 0, wakeDue := false, creditDue := false, channel := none
           queue := [], outstanding := [] }

/-- The link enters DOWN or QUIET (R16), by R15 first where it was UP. The lens kind goes with the camera id (R93). -/
def Ev.enterOff (e : Ev) (p : PortId) (target : LinkState) : Ev :=
  let e := if (e.port p).tether.link = .up then e.leaveUp p else e
  (((e.updTether p Tether.torn).updLens p fun l => { l with kind := .noLens }).setLink p target)

/-! ## The feed cut (R29) -/

/-- What a cut leaves of the feed controller (R29), with its moment recorded. -/
def Feed.cut (f : Feed) (now : Nat) : Feed :=
  { f with limit := 0, hold := false, lastSample := 0, overCount := 0, noLoad := {}, underVolt := {}
           inrushTimer := none, fullSessionTimer := none, sampleTimer := none, lastCut := some now
           counters := { f.counters with feedCuts := bump f.counters.feedCuts } }

/-- The flex window, the LIVE allowance, the drift flag and the resistance session end with FULL (R158, R162, R166). -/
def Cable.endSession (c : Cable) : Cable :=
  { c with flex := {}, flexTimer := none, allowance := 0, driftArmed := false, resistanceCount := 0, resistanceSum := 0
           filtered := none }

/-- A feed cut (R29): the port enters a power state with a cause, its allocation is released, and its link, lens,
triggers and camera accesses are torn down; a link already QUIET stays QUIET (R7). DEDUCED: log entry 37. -/
def Ev.feedCut (e : Ev) (p : PortId) (dest : PowerState) (cause : PowerCause) (link : LinkState) (d : Disposal) : Ev :=
  let notSent := (e.port p).tether.triggerUnsent
  let target := if (e.port p).tether.link = .quiet then .quiet else link
  let e := (e.updFeed p fun f => f.cut e.time).setPower p dest cause
  let e := (e.releaseAllocation p).updCable p Cable.endSession
  let e := (e.enterOff p target).lensAbsent p
  (e.cutCapture p d notSent).relayAbort p

/-- Leaving PROBING, VACANT, BOOT_WAIT or BACKOFF: the probe is abandoned and its end recorded, the re-probe or backoff
timer stops, or the BOOT entry leaves the queue (R28, R40, R43, R45). -/
def Ev.endOffPhase (e : Ev) (p : PortId) : Ev :=
  match (e.port p).feed.power with
  | .probing => e.updFeed p fun f => { f with probeTimer := none, lastProbeEnd := some e.time }
  | .vacant => e.updFeed p fun f => { f with reprobeTimer := none }
  | .bootWait => e.endBootRequest p
  | .backoff => e.updFeed p fun f => { f with backoffTimer := none }
  | .disabled => e | .boot => e | .fullWait => e | .full => e | .shed => e | .poolHalt => e | .diagnosing => e
  | .lockedOut => e

/-! ## Findings (R176) -/

/-- The newest entry of the finding's port, in a history newest first, takes the new finding when kind and distance
agree (R176, Coalesce). -/
def coalesce (f : Finding) : List Finding → Option (List Finding × Finding)
  | [] => none
  | g :: rest =>
      if g.port = f.port then
        if g.kind = f.kind ∧ g.distance = f.distance then
          let m := { f with repeats := min (g.repeats + 1) 255 }
          some (m :: rest, m)
        else none
      else
        match coalesce f rest with
        | some (l, m) => some (g :: l, m)
        | none => none

/-- A finding appended as the newest entry; the oldest of 33 is removed (R176, Append). -/
def appendFinding (l : List Finding) (f : Finding) : List Finding := (l ++ [f]).drop (l.length + 1 - Config.findingEntries)

/-- A finding is written: coalesced or appended, the port's latest, counted, and offered as a notice (R176). -/
def Ev.writeFinding (e : Ev) (f : Finding) : Ev :=
  let e := e.countCable f.port fun c => { c with findings := bump c.findings }
  match coalesce f e.breaks.findings.reverse with
  | some (l, m) =>
      ((e.updBreaks fun b => { b with findings := l.reverse, coalesced := bump b.coalesced }).updCable f.port fun c =>
        { c with latest := some m }).offer (.finding m false)
  | none =>
      ((e.updBreaks fun b =>
        { b with findings := appendFinding b.findings f
                 overwrites := if Config.findingEntries ≤ b.findings.length then bump b.overwrites
                               else b.overwrites }).updCable f.port fun c =>
        { c with latest := some f }).offer (.finding f true)

/-- A finding of now, repeat count 1 (R175, R176). -/
def State.newFinding (s : State) (p : PortId) (kind : FindingKind) (distance : Option Nat)
    (polarity : Option Polarity) (source : FindingSource) (flags : FindingFlags) (resistance : Option (Nat × Nat)) :
    Finding :=
  { time := s.msClock, port := p, kind := kind, distance := distance, polarity := polarity, source := source
    flags := flags, repeats := 1, resistance := resistance }

/-! ## The diagnosis queue (R169, R171, R174) -/

/-- The diagnosis state of a port. -/
def Ev.setDiag (e : Ev) (p : PortId) (d : DiagState) : Ev := e.updCable p fun c => { c with diag := d }

/-- The moment from which a cable discharges: the later of the last feed cut and the end of the last probe (R171). -/
def Feed.dischargeFrom (f : Feed) : Option Nat :=
  match f.lastCut, f.lastProbeEnd with
  | none, x => x
  | some a, none => some a
  | some a, some b => some (max a b)

/-- The head's FULL measurement is offered to the meter (R171). -/
def Ev.offerFull (e : Ev) (p : PortId) : Ev :=
  ((e.setDiag p .queued).updMeter fun m => { m with offered := some p }).push .meter

/-- The head of the queue waits out its discharge, or is offered at once (R171). -/
def Ev.becomeHead (e : Ev) : Ev :=
  match e.breaks.queue with
  | [] => e
  | h :: _ =>
      match (e.port h.port).feed.dischargeFrom with
      | none => e.offerFull h.port
      | some t =>
          if e.time < t + Config.dischargeTime then
            (e.setDiag h.port .discharging).updBreaks fun b =>
              { b with dischargeTimer := some (t + Config.dischargeTime) }
          else e.offerFull h.port

/-- Whether a host request or learn moves a port of this power state to DIAGNOSING (R43, R169). -/
def PowerState.probePhase : PowerState → Bool
  | .probing => true | .vacant => true | .bootWait => true
  | .disabled => false | .boot => false | .fullWait => false | .full => false | .backoff => false | .shed => false
  | .poolHalt => false | .diagnosing => false | .lockedOut => false

/-- A port joins the diagnosis queue (R169): its link enters QUIET, a feed that is on is cut, the feed controller moves
the port, and the entry is appended. A port that has an entry gets no second one (R168). -/
def Ev.joinDiagnosis (e : Ev) (p : PortId) (purpose : Purpose) (cause : PowerCause) : Ev :=
  if (e.port p).cable.diag ≠ .clear then e
  else
    let power := (e.port p).feed.power
    let e :=
      if power.feedOn then e.feedCut p .diagnosing cause .quiet (.drop .unavailable)
      else
        let e := e.enterOff p .quiet
        if power.probePhase then (e.endOffPhase p).setPower p .diagnosing cause else e
    let first := e.breaks.queue.isEmpty
    let e := (e.updBreaks fun b => { b with queue := b.queue ++ [⟨p, purpose, e.msClock⟩] }).setDiag p .queued
    if first then e.becomeHead else e

/-- A FULL measurement of the port is cut short with its diagnosis (R145, R149). DEDUCED: log entry 19. -/
def Ev.cutFull (e : Ev) (p : PortId) : Ev :=
  match e.meter.holder with
  | some (.full q .., _) =>
      if q = p then
        ((e.updMeter fun m => { m with holder := none }).countMeter fun c => { c with fullCut := bump c.fullCut }).push
          .meter
      else e
  | _ => e

/-- The port's entry leaves the diagnosis queue; a discharge timer of the head stops and an offer of it is withdrawn;
the diagnosis state becomes NONE and the link enters DOWN (R173, R174). -/
def Ev.leaveDiagnosis (e : Ev) (p : PortId) : Ev :=
  let wasHead := match e.breaks.queue with | h :: _ => decide (h.port = p) | [] => false
  let e := e.updBreaks fun b =>
    { b with queue := b.queue.filter fun x => decide (x.port ≠ p)
             dischargeTimer := if wasHead then none else b.dischargeTimer }
  let e := e.updMeter fun m => { m with offered := if m.offered = some p then none else m.offered }
  (e.setDiag p .clear).enterOff p .down

/-- Whether the port is the head of the diagnosis queue. -/
def Breaks.headIs (b : Breaks) (p : PortId) : Bool :=
  match b.queue with
  | h :: _ => decide (h.port = p)
  | [] => false

/-- A diagnosis is aborted without a finding (R174); nothing when the port has none. The LINK_CHANGE of the port is
offered before its DIAGNOSIS_END (DESIGN CHOICE, log entry 50). The next entry becomes the head. -/
def Ev.abortDiagnosis (e : Ev) (p : PortId) : Ev :=
  match e.breaks.queue.find? fun x => decide (x.port = p) with
  | none => e
  | some x =>
      let wasHead := e.breaks.headIs p
      let e := ((e.cutFull p).leaveDiagnosis p).countCable p fun c => { c with aborted := bump c.aborted }
      let e := e.offer (.diagnosisEnd p (.aborted x.purpose))
      if wasHead then e.becomeHead else e

/-! ## Faults and reactions (R168, R40 to R44) -/

/-- The state and retry count of a RETRY (R41): BACKOFF within the retry limit, else LOCKED_OUT. -/
def Feed.retryTarget (f : Feed) : PowerState :=
  if f.retry + 1 ≤ f.settings.retryLimit then .backoff else .lockedOut

/-- The retry count and the backoff timer of a RETRY (R41). -/
def Feed.retried (f : Feed) (now : Nat) : Feed :=
  if f.retry + 1 ≤ f.settings.retryLimit then
    { f with retry := f.retry + 1, backoffTimer := some (now + Config.backoffUnit * 2 ^ f.retry) }
  else f

/-- A reaction takes a port out of its state: the feed is cut, or the probe ended or the BOOT entry removed (R40). A
port in any other state is left as it is. -/
def Ev.leaveFor (e : Ev) (p : PortId) (dest : PowerState) : Ev :=
  match (e.port p).feed.power with
  | .boot => e.feedCut p dest .fault .down (.drop .unavailable)
  | .fullWait => e.feedCut p dest .fault .down (.drop .unavailable)
  | .full => e.feedCut p dest .fault .down (.drop .unavailable)
  | .probing => (e.endOffPhase p).setPower p dest .fault
  | .bootWait => (e.endOffPhase p).setPower p dest .fault
  | .disabled => e | .vacant => e | .backoff => e | .shed => e | .poolHalt => e | .diagnosing => e | .lockedOut => e

/-- Whether R40 has a column for a port of this power state: its feed is on, or it is probing or waiting for its BOOT
admission. DEDUCED: log entry 23. -/
def PowerState.reacts : PowerState → Bool
  | .probing => true | .bootWait => true | .boot => true | .fullWait => true | .full => true
  | .disabled => false | .vacant => false | .backoff => false | .shed => false | .poolHalt => false
  | .diagnosing => false | .lockedOut => false

/-- A reaction is carried out (R40, R168). DIAGNOSE places the port in the diagnosis queue whatever its power state: the
second fault of an event may find the port in BACKOFF or LOCKED_OUT, where R43 leaves the power state as it is. CUT,
RETRY and HOLD do nothing in a state without a column in R40 (DEDUCED, log entry 23). The setting of HOLD does not examine
the head; its clearing does (R42, R84; DESIGN CHOICE, log entry 57). -/
def Ev.react (e : Ev) (p : PortId) (kind : FaultKind) (r : Reaction) : Ev :=
  match r with
  | .cut => e.leaveFor p .lockedOut
  | .retry =>
      if (e.port p).feed.power.reacts then
        let dest := (e.port p).feed.retryTarget
        (e.leaveFor p dest).updFeed p fun f => f.retried e.time
      else e
  | .diagnose => e.joinDiagnosis p (.reaction kind) .fault
  | .hold => if (e.port p).feed.power.feedOn ∧ (e.port p).feed.hold = false then e.setHold p true .fault else e
  | .report => e

/-- The reaction to a fault: that of the port's table; FEED_INFEASIBLE always takes CUT (R168). -/
def Cable.reactionTo (c : Cable) (kind : FaultKind) : Reaction :=
  if kind = .feedInfeasible then .cut else c.reactions.get kind.index

/-- A fault is taken in the event of its detection (R168). Its notice bears the power state in which it arose and the
retry count at that moment: a fault of one event that is taken after another one arose before the reaction to that one. -/
def Ev.takeFault (e : Ev) (p : PortId) (kind : FaultKind) (power : PowerState) (retry : Nat) : Ev :=
  let r := (e.port p).cable.reactionTo kind
  let e := e.countCable p fun c => { c with faults := modifyAt c.faults kind.index bump }
  let e := if kind = .probeShort ∧ r ≠ .diagnose then
      e.writeFinding (e.newFinding p .short none (some .negative) .probe {} none) else e
  (e.offer (.fault p kind r power retry e.msClock)).react p kind r

/-- A fault that arises at this point of the event is taken (R168). -/
def Ev.raiseFault (e : Ev) (p : PortId) (kind : FaultKind) : Ev :=
  e.takeFault p kind (e.port p).feed.power (e.port p).feed.retry

end Sys2Proof.Machine
end

