-- ==== Sys2Proof/Machine/Operands.lean ====
section
/-! DEFINITION. The operand forms of the requests: which fields a mask names, clamping to a range, the codes of
two-valued and enumerated fields, ports, presets, cable kinds and source masks (R48, R52, R77, R94, R153, R194). -/

namespace Sys2Proof.Machine

/-- Bit i of a mask names the i-th field (R194). -/
def named {w : Nat} (mask : BitVec w) (i : Nat) : Bool := mask.getLsbD i

/-- A numeric field: the value to keep, and whether it was adjusted. A field whose bit is clear is neither read nor
clamped (R194); a named one is brought to the nearer end of its range (Refusal and clamping, 00). -/
def takeField (isNamed : Bool) (lo hi new old : Nat) : Nat × Bool :=
  if isNamed then (clampTo lo hi new, !decide (clampTo lo hi new = new)) else (old, false)

/-- A two-valued or enumerated field that is named and holds no member of its list is a structural error. -/
def badMember {α : Type} (isNamed : Bool) (decoded : Option α) : Bool := isNamed && decoded.isNone

/-- A decoded member to keep, where the field is named. -/
def takeMember {α : Type} (isNamed : Bool) (decoded : Option α) (old : α) : α :=
  if isNamed then decoded.getD old else old

/-- The member of a list that a code byte names: its zero-based position (R190). -/
def memberOf {α : Type} (members : List α) (code : Byte) : Option α := members[code.toNat]?

/-- The port that a port field names (R181, R191). -/
def portOf (b : Byte) : Option PortId := if h : b.toNat < 8 then some ⟨b.toNat, h⟩ else none

/-- The preset that an index byte names (R94, R105). -/
def presetOf (b : Byte) : Option PresetId := if h : b.toNat < 16 then some ⟨b.toNat, h⟩ else none

/-- The cable kind that an index byte names (R48, R153). -/
def cableKindOf (b : Byte) : Option (Fin 8) := if h : b.toNat < 8 then some ⟨b.toNat, h⟩ else none

/-- Damaged policies in the order of their codes (R193). -/
def damagedPolicyOf : Byte → Option DamagedPolicy := memberOf [.drop, .forward]

/-- A two-valued on/off setting in the order of R48: on 0, off 1 (R190). DEDUCED: log entry 36. -/
def onOffOf : Byte → Option Bool := memberOf [true, false]

/-- Output groups in the order of R48: HIGH, LOW. -/
def outputGroupOf : Byte → Option OutputGroup := memberOf [.high, .low]

/-- Edge selections (R194). -/
def edgeOf : Byte → Option EdgeSelection := memberOf [.off, .rising, .falling, .both]

/-- The five sources (R73). -/
def allSources : List Source := [.trig0, .trig1, .trig2, .trig3, .period]

/-- The source a source byte names (R77). -/
def sourceOf : Byte → Option Source := memberOf allSources

/-- The pin of a pin source. -/
def Source.pin? : Source → Option (Fin 4)
  | .trig0 => some 0 | .trig1 => some 1 | .trig2 => some 2 | .trig3 => some 3 | .period => none

/-- The source of a pin. -/
def sourceOfPin (pin : Fin 4) : Source := allSources.getD pin.val .period

/-- The fourteen fault kinds in the order of the reaction table (R167, R194). -/
def allFaultKinds : List FaultKind :=
  [.probeShort, .probeInvalid, .bootOverload, .portOvercurrent, .noLoad, .linkNoWake, .linkLost, .helloMissing,
    .cameraUndervolt, .highResistance, .intermittent, .lensStall, .lensTimeout, .feedInfeasible]

/-- The fault kind a byte names (R194). -/
def faultKindOf : Byte → Option FaultKind := memberOf allFaultKinds

/-- The reaction a byte names (R194). -/
def reactionOf : Byte → Option Reaction := memberOf [.cut, .retry, .diagnose, .hold, .report]

/-- The reactions a fault kind allows (R167). -/
def FaultKind.allowed : FaultKind → List Reaction
  | .probeShort => [.cut, .retry, .diagnose]
  | .probeInvalid => [.cut, .retry, .diagnose]
  | .bootOverload => [.cut, .retry, .diagnose]
  | .portOvercurrent => [.cut, .retry, .diagnose]
  | .noLoad => [.cut, .retry, .diagnose, .report]
  | .linkNoWake => [.cut, .retry, .diagnose]
  | .linkLost => [.cut, .retry, .diagnose, .hold, .report]
  | .helloMissing => [.cut, .retry]
  | .cameraUndervolt => [.cut, .retry, .hold, .report]
  | .highResistance => [.cut, .retry, .diagnose, .hold, .report]
  | .intermittent => [.cut, .retry, .diagnose, .hold, .report]
  | .lensStall => [.hold, .report, .cut]
  | .lensTimeout => [.hold, .report, .cut]
  | .feedInfeasible => [.cut]

/-- The access kind a byte names (R191). -/
def accessKindOf : Byte → Option AccessKind := memberOf [.read, .write]

/-- The ports a port mask names, in the order port 0 to port 7; bit i of the mask is port i (R73, R194; DESIGN CHOICE, log
entry 58). -/
def maskPorts (mask : Byte) : List PortId := ([0, 1, 2, 3, 4, 5, 6, 7] : List PortId).filter fun p => mask.getLsbD p.val

/-- The sources a source mask names, in the order TRIG0 to PERIOD (R76). -/
def maskSources (mask : Byte) : List Source := allSources.filter fun x => mask.getLsbD x.index.val

/-- A step of SET_PROGRAM's payload (R83): a preset byte that is neither a preset nor NONE names no step. -/
def stepPreset (b : Byte) : Option (Option PresetId) :=
  if b = 0xFF then some none else (presetOf b).map some

end Sys2Proof.Machine
end

