-- ==== Sys2Proof/Machine/Lens.lean ====
section
/-! DEFINITION. The lens sequencer (05) up to the hand-in of its packets: holding a preset, down tags, MOVE_WAIT and its
surcharge, wants, withdrawal and abandonment, coming to rest, entry into FULL. -/

namespace Sys2Proof.Machine

/-! ## Holding a preset (R95) -/

/-- The positions of a preset on the axes a lens carries (R95, R98). -/
def LensKind.positionsOf (k : LensKind) (q : Preset) : Positions :=
  { focus := BitVec.ofNat 16 q.focus
    iris := if k.hasIris then some (BitVec.ofNat 16 q.iris) else none
    zoom := if k.hasZoom then some (BitVec.ofNat 16 q.zoom) else none }

/-- The positions of a homed lens: 0 on every axis it carries (R102). -/
def LensKind.homePositions (k : LensKind) : Positions :=
  { focus := 0, iris := if k.hasIris then some 0 else none, zoom := if k.hasZoom then some 0 else none }

/-- Positions match a target on every axis the lens carries: the focus within the tolerance, iris and zoom equal
(R95). -/
def LensKind.agree (k : LensKind) (tolerance : Nat) (target reached : Positions) : Bool :=
  decide ((target.focus.toNat - reached.focus.toNat) + (reached.focus.toNat - target.focus.toNat) ≤ tolerance)
    && (!k.hasIris || decide (target.iris = reached.iris)) && (!k.hasZoom || decide (target.zoom = reached.zoom))

/-- The held positions match preset p, whatever the state: what an IDLE lens at these positions would hold (R96). -/
def Lens.wouldHold (l : Lens) (p : PresetId) : Bool :=
  match l.held with
  | some h => l.kind.agree (l.presets.get p).tolerance (l.kind.positionsOf (l.presets.get p)) h
  | none => false

/-- The lens holds preset p: it is IDLE and its held positions match (R95). -/
def Lens.holds (l : Lens) (p : PresetId) : Bool := decide (l.state = .idle) && l.wouldHold p

/-- The held positions as the frame assembler reads them: absent in ABSENT and UNREFERENCED (R108, R114). -/
def Lens.heldForFrame (l : Lens) : Option Positions :=
  if l.state = .absent ∨ l.state = .unreferenced then none else l.held

/-! ## Down tags and hand-in to the downstream queue (R22) -/

/-- A tag held by an entry of the downstream queue or the outstanding-answer table (R22). -/
def Tether.tagHeld (t : Tether) (n : Byte) : Bool :=
  (t.queue.any fun k => decide (k.tag? = some n)) || (t.outstanding.any fun o => decide (o.tag = n))

/-- The counter advances past every value held, at most once round (R22). -/
def Tether.freeTag (t : Tether) : Nat → Byte → Byte
  | 0, n => n
  | k + 1, n => if t.tagHeld n then t.freeTag k (n + 1) else n

/-- The down tag the next tagged packet receives (R22). -/
def Tether.nextTag (t : Tether) : Byte := t.freeTag 256 t.downTag

/-- A tagged packet enters the downstream queue with the next down tag; the counter goes on from there (R22). -/
def Ev.handTagged (e : Ev) (p : PortId) (packet : Byte → DownPacket) : Ev :=
  (e.updTether p fun t => { t with queue := t.queue ++ [packet t.nextTag], downTag := t.nextTag + 1 }).push (.channel p)

/-- A TRIGGER enters the downstream queue (R87). -/
def Ev.handTrigger (e : Ev) (p : PortId) (tag : Half) (exposure : Nat) : Ev :=
  (e.updTether p fun t => { t with queue := t.queue ++ [.trigger tag exposure] }).push (.channel p)

/-! ## Surcharge (R59, R61, R98) -/

/-- The surcharge is admitted: the surcharge part grows by the amount, the limit becomes the surcharge limit, and the
waiting packet may be handed in (R61, R35). -/
def Ev.admitSurcharge (e : Ev) (p : PortId) (amount : Nat) : Ev :=
  let e := e.countPool fun c => { c with surchargeAdmissions := bump c.surchargeAdmissions }
  let e := (e.updFigures p fun q => { q with surcharge := q.surcharge + amount }).updFeed p fun f =>
    { f with limit := limitOf (e.port p).pool.estLens }
  (e.updLens p fun l => { l with move := l.move.map fun m => { m with admitted := true } }).push (.handIn p)

/-- The SURCHARGE request of a lens that enters MOVE_WAIT (R59, R98). -/
def Ev.surchargeRequest (e : Ev) (p : PortId) : Ev :=
  match e.feedFor p (classPower (e.port p).feed.powerClass + (e.port p).feed.settings.lensPower) with
  | .infeasible st => (e.noteInfeasible p .surcharge st).raiseFault p .feedInfeasible
  | .feasible .. =>
      if (e.port p).pool.surchargeAmount = 0 then e.admitSurcharge p 0
      else e.joinQueue p .surcharge (e.port p).pool.surchargeAmount

/-- The lens enters MOVE_WAIT with a move record and asks for its surcharge; the queue head is examined (R84, R98). -/
def Ev.enterMoveWait (e : Ev) (p : PortId) (kind : MoveKind) (origin : MoveOrigin) (target : Option PresetId) : Ev :=
  ((e.updLens p fun l =>
    { l with state := .moveWait, move := some { kind := kind, origin := origin, target := target } }).push
      (.examine p)).surchargeRequest p

/-! ## Hand-in of a waiting packet (R98) -/

/-- The three conditions of R98: the surcharge admitted, the exposure record CLOSED, the HOLD flag clear. -/
def Port.mayHandIn (x : Port) : Bool :=
  decide (x.lens.state = .moveWait) && (match x.lens.move with | some m => m.admitted | none => false)
    && x.capture.exposure.isNone && !x.feed.hold

/-- The packet of a LENS_MOVE for a preset as it now stands is handed in (R98, steps 1, 3 and 4). -/
def Ev.handMove (e : Ev) (p : PortId) (q : PresetId) : Ev :=
  let l := (e.port p).lens
  let target := l.kind.positionsOf (l.presets.get q)
  let tag := (e.port p).tether.nextTag
  ((e.handTagged p fun n => .lensMove n target).updLens p fun l =>
    { l with state := .moving
             move := l.move.map fun m => { m with captured := some (target, (l.presets.get q).settle)
                                                  downTag := some tag } }).countLens p fun c =>
    { c with moves := bump c.moves }

/-- The packet of a LENS_HOME is handed in (R98, steps 2 to 4). -/
def Ev.handHome (e : Ev) (p : PortId) : Ev :=
  let tag := (e.port p).tether.nextTag
  ((e.handTagged p .lensHome).updLens p fun l =>
    { l with state := .homing, move := l.move.map fun m => { m with downTag := some tag } }).countLens p fun c =>
    { c with homes := bump c.homes }

/-- A waiting packet is handed in when the three conditions hold together (R98). -/
def Ev.handIn (e : Ev) (p : PortId) : Ev :=
  if (e.port p).mayHandIn then
    match (e.port p).lens.move with
    | none => e
    | some m =>
        match m.kind, m.target with
        | .home, _ => e.handHome p
        | .move, some q => e.handMove p q
        | .move, none => e
  else e

/-! ## Wants (R96, R97) -/

/-- Whether a waiting move was set by the queue (R96, R97). -/
def Lens.queueMove (l : Lens) : Bool :=
  match l.move with
  | some m => decide (m.origin = .queue)
  | none => false

/-- A waiting move of kind MOVE set by the queue takes a new target (R96). -/
def Move.retarget (m : Move) (q : PresetId) : Move :=
  if m.origin = .queue ∧ m.kind = .move then { m with target := some q } else m

/-- The capture sequencer hands in a want (R96). -/
def Ev.lensWant (e : Ev) (p : PortId) (q : PresetId) : Ev :=
  let e := e.updLens p fun l => { l with want := some q }
  match (e.port p).lens.state with
  | .idle => if (e.port p).lens.holds q then e else e.enterMoveWait p .move .queue (some q)
  | .unreferenced => e.enterMoveWait p .home .queue none
  | .moveWait => e.updLens p fun l => { l with move := l.move.map fun m => m.retarget q }
  | .absent => e | .homing => e | .moving => e | .settling => e | .stalled => e

/-- The state a lens left to enter MOVE_WAIT: IDLE for a MOVE, UNREFERENCED for a HOME (R97). -/
def MoveKind.leftState : MoveKind → LensState
  | .move => .idle
  | .home => .unreferenced

/-- A waiting move is abandoned: its entry leaves the admission queue or its surcharge is released, and the capture
sequencer is told (R97, R108). -/
def Ev.abandon (e : Ev) (p : PortId) (m : Move) : Ev :=
  let e := if m.admitted then e.releaseSurcharge p else e.dropEntry p
  let e := (e.updLens p fun l => { l with state := m.kind.leftState, move := none }).countLens p fun c =>
    { c with abandoned := bump c.abandoned }
  (e.lensNotice p .moveWait m.kind.leftState .abandon (some m)).push (.examine p)

/-- The capture sequencer withdraws its want (R97). -/
def Ev.withdrawWant (e : Ev) (p : PortId) : Ev :=
  let e := e.updLens p fun l => { l with want := none }
  match (e.port p).lens.state, (e.port p).lens.move with
  | .moveWait, some m => if m.origin = .queue then e.abandon p m else e
  | _, _ => e

/-! ## Rest and entry into FULL (R93, R96, R100) -/

/-- A lens comes to rest from a state, its move ended: a recorded want that it would not hold starts a new move;
otherwise it enters IDLE (R96). The move record is removed (R100, R102). -/
def Ev.rest (e : Ev) (p : PortId) (prev : LensState) : Ev :=
  let l := (e.port p).lens
  let go := match l.want with | some q => !l.wouldHold q | none => false
  if go then e.enterMoveWait p .move .queue l.want
  else
    let e := e.updLens p fun l => { l with state := .idle, move := none }
    (e.lensNotice p prev .idle .rest l.move).push (.examine p)

/-- The port has entered FULL: a motorized lens enters UNREFERENCED and, with auto-home on, MOVE_WAIT toward home
(R93). -/
def Ev.lensEnterFull (e : Ev) (p : PortId) : Ev :=
  if (e.port p).lens.kind.motorized then
    let e := (e.updLens p fun l => { l with state := .unreferenced, held := none, lastTarget := none }).push (.examine p)
    if (e.port p).feed.settings.autoHome then e.enterMoveWait p .home .autoHome none else e
  else e

end Sys2Proof.Machine
end

