-- ==== Sys2Proof/Machine/Capture.lean ====
section
/-! DEFINITION. The capture sequencer (04): the examination of the queue head, dispatch, acceptance of a trigger, and the
tagging and delivery of triggers by the router. -/

namespace Sys2Proof.Machine

/-! ## The queue head (R84 to R87) -/

/-- The preset an entry needs of a lens that is not ABSENT (R86). -/
def PendingTrigger.needs (t : PendingTrigger) (l : Lens) : Option PresetId :=
  if l.state = .absent ∨ t.invalid then none else t.preset

/-- Whether an entry is stale: its deadline has been reached (R85). -/
def PendingTrigger.isStale (t : PendingTrigger) (now : Nat) : Bool :=
  match t.stale with
  | some d => decide (d ≤ now)
  | none => false

/-- A CAM_WRITE of the port is not yet answered: it stands in the downstream queue, is in transmission, or has an entry
in the outstanding-answer table (R23, R87, R137). DEDUCED: log entry 28. -/
def Tether.camWriteStands (t : Tether) : Bool :=
  t.queue.any DownPacket.isCamWrite
    || t.channel.any (fun i => match i with | .packet k => k.isCamWrite | .wake => false | .credit _ => false)
    || t.outstanding.any fun o => decide (o.kind = .camWrite)

/-- The capture sequencer's want becomes q; a want that differs, or that an IDLE lens does not hold, is handed in
(R86). -/
def Ev.setWant (e : Ev) (p : PortId) (q : PresetId) : Ev :=
  let handAgain := decide ((e.port p).capture.want ≠ some q) || decide ((e.port p).lens.state = .idle)
  let e := e.updCapture p fun c => { c with want := some q }
  if handAgain then e.lensWant p q else e

/-- The end of an examination: with no head, or a head that needs no preset, a want is withdrawn (R84). -/
def Ev.endExamination (e : Ev) (p : PortId) : Ev :=
  let x := e.port p
  let needed := match x.capture.queue with | h :: _ => (h.needs x.lens).isSome | [] => false
  if needed || x.capture.want.isNone then e
  else (e.updCapture p fun c => { c with want := none }).withdrawWant p

/-- What the lens test of R86 says of a head. -/
inductive HeadVerdict
  | pass | wait | want (q : PresetId) | dropIt
  deriving DecidableEq, Repr

/-- The lens table of R86. -/
def Lens.judge (l : Lens) (needed : Option PresetId) : HeadVerdict :=
  match l.state, needed with
  | .absent, _ => .pass
  | .idle, none => .pass
  | .idle, some q => if l.holds q then .pass else .want q
  | .unreferenced, none => .pass
  | .unreferenced, some q => .want q
  | .moveWait, none => .wait
  | .moveWait, some q => .want q
  | .homing, _ => .wait
  | .moving, _ => .wait
  | .settling, _ => .wait
  | .stalled, none => .pass
  | .stalled, some _ => .dropIt

/-- The head is removed from the pending queue. -/
def Ev.dropHead (e : Ev) (p : PortId) : Ev := e.updCapture p fun c => { c with queue := c.queue.tail }

/-- The head is dispatched: a TRIGGER is handed in and the exposure record opens (R87, R88). -/
def Ev.dispatch (e : Ev) (p : PortId) (t : PendingTrigger) : Ev :=
  let l := (e.port p).lens
  let x : Exposure :=
    { tag := t.tag, source := t.source, step := t.step, preset := t.preset, invalid := t.invalid
      unreferenced := decide (l.state = .unreferenced) || decide (l.state = .stalled), exposure := t.exposure
      dispatch := e.time, deadline := e.time + t.exposure + Config.exposureMargin }
  (((e.handTrigger p t.tag t.exposure).updCapture p fun c => { c with exposure := some x }).countCapture p fun c =>
    { c with dispatched := bump c.dispatched }).dropHead p

/-- The head waits for the link, for HOLD, for an open exposure or for a CAM_WRITE (R86, R87). -/
def Port.unavailable (x : Port) : Bool := x.feed.hold || !decide (x.tether.link = .up)

/-- The interlock of R87. -/
def Port.interlocked (x : Port) : Bool := x.capture.exposure.isSome || x.tether.camWriteStands

/-- One examination: heads are taken through R85, R86 and R87 until one waits or the queue is empty. -/
def Ev.examineHeads (p : PortId) : Nat → Ev → Ev
  | 0, e => e.endExamination p
  | k + 1, e =>
      match (e.port p).capture.queue with
      | [] => e.endExamination p
      | h :: _ =>
          let x := e.port p
          if h.isStale e.time then
            Ev.examineHeads p k ((e.dropHead p).loseTrigger p h.tag h.source h.step h.preset .stale)
          else if x.unavailable then e.endExamination p
          else
            match x.lens.judge (h.needs x.lens) with
            | .want q => e.setWant p q
            | .wait => e.endExamination p
            | .dropIt =>
                Ev.examineHeads p k ((e.dropHead p).loseTrigger p h.tag h.source h.step h.preset .lensFault)
            | .pass =>
                if x.interlocked then e.endExamination p
                else Ev.examineHeads p k (e.dispatch p h)

/-- The head of a port's pending queue is examined (R84). -/
def Ev.examine (e : Ev) (p : PortId) : Ev := Ev.examineHeads p ((e.port p).capture.queue.length + 1) e

/-! ## Acceptance (R80, R82) -/

/-- The step the cursor stands at, and the sequencer after it has been resolved (R82). -/
def Capture.resolve (c : Capture) (defaultExposure : Nat) : (StepRef × Option PresetId × Nat) × Capture :=
  match c.program[c.cursor]? with
  | none => ((.default, none, defaultExposure), c)
  | some s =>
      let c' := if c.cursor + 1 < c.program.length then { c with cursor := c.cursor + 1 }
        else { c with cursor := 0, program := c.staged.getD c.program, staged := none }
      ((.index c.cursor, s.preset, s.exposure), c')

/-- Whether a preset is named whose valid flag is clear (R82). -/
def Lens.namesInvalid (l : Lens) : Option PresetId → Bool
  | some q => !(l.presets.get q).valid
  | none => false

/-- The stale deadline of a trigger that arrives now (R80). -/
def staleDeadline (now holdLimit : Nat) : Option Nat := if holdLimit = 0 then none else some (now + ms holdLimit)

/-- The entry an accepted trigger forms (R80). An entry that names an invalid preset bears the PRESET_INVALID mark and
counts as a step with preset NONE in everything that follows (R82). DEDUCED: log entry 46. -/
def Port.formEntry (x : Port) (now : Nat) (tag : Half) (source : Source) : PendingTrigger :=
  let r := (x.capture.resolve x.feed.settings.defaultExposure).1
  let invalid := x.lens.namesInvalid r.2.1
  { tag := tag, source := source, step := r.1, preset := if invalid then none else r.2.1, invalid := invalid
    exposure := r.2.2, arrival := now, stale := staleDeadline now x.feed.settings.holdLimit }

/-- An older entry of the same tag is removed and dropped STALE (R80). -/
def Ev.dropSameTag (e : Ev) (p : PortId) (tag : Half) : Ev :=
  let old := (e.port p).capture.queue.filter fun t => decide (t.tag = tag)
  old.foldl (fun y t => y.loseTrigger p t.tag t.source t.step t.preset .stale)
    (e.updCapture p fun c => { c with queue := c.queue.filter fun t => decide (t.tag ≠ tag) })

/-- A trigger delivered to a port is tested (R80). -/
def Ev.acceptTrigger (e : Ev) (tag : Half) (source : Source) (p : PortId) : Ev :=
  let x := e.port p
  if x.feed.power ≠ .full ∨ x.tether.link ≠ .up ∨ x.feed.hold then
    e.loseTrigger p tag source .absent none .unavailable
  else if Config.pendingTriggers ≤ x.capture.queue.length then e.loseTrigger p tag source .absent none .overrun
  else
    let entry := x.formEntry e.time tag source
    let e := e.updCapture p fun c => (c.resolve x.feed.settings.defaultExposure).2
    let e := e.dropSameTag p tag
    ((e.updCapture p fun c => { c with queue := c.queue ++ [entry] }).countCapture p fun c =>
      { c with accepted := bump c.accepted }).examine p

/-! ## The router (R78) -/

/-- A source's trigger takes the tag counter's value and is delivered to the ports its mask names (R78), port 0 first and
port 7 last (DESIGN CHOICE, log entry 51). -/
def Ev.giveTrigger (e : Ev) (source : Source) : Ev :=
  let tag := e.router.tagCounter
  let ports := maskPorts (e.router.map.get source.index)
  ports.foldl (fun y p => y.acceptTrigger tag source p)
    (e.updRouter fun r =>
      { r with tagCounter := r.tagCounter + 1
               counters := modifyAt r.counters source.index fun c => { c with accepted := bump c.accepted } })

/-- What entry into FULL does to a capture sequencer: the cursor becomes 0 and a staged program runs (R83). -/
def Capture.enterFull (c : Capture) : Capture :=
  { c with cursor := 0, program := c.staged.getD c.program, staged := none }

end Sys2Proof.Machine
end

