-- ==== Sys2Proof/Machine/Arbiters.lean ====
section
/-! DEFINITION. The channel and the two arbiters: the downstream channel of a port (R21), the output arbiter (R130,
R131), the cable meter's arbiter (R144, R145). -/

namespace Sys2Proof.Machine

/-! ## The downstream channel (R21) -/

/-- Whether a queue head may start: its kind has room in the outstanding-answer table (R21). -/
def Tether.mayStart (t : Tether) (k : DownPacket) : Bool :=
  match k with
  | .trigger .. => true
  | .lensMove .. => !t.outstanding.any fun o => o.kind.isLens
  | .lensHome .. => !t.outstanding.any fun o => o.kind.isLens
  | .camRead .. => decide ((t.outstanding.filter fun o => !o.kind.isLens).length < 3)
  | .camWrite .. => decide ((t.outstanding.filter fun o => !o.kind.isLens).length < 3)

/-- The channel starts the head of the downstream queue, if it may start (R21). -/
def Tether.startHead (t : Tether) : Tether :=
  match t.queue with
  | [] => t
  | k :: rest => if t.mayStart k then { t with channel := some (.packet k), queue := rest } else t

/-- The due WAKE starts (R9, R21). -/
def Tether.startWake (t : Tether) : Tether :=
  { t with wakeDue := false, channel := some .wake
           counters := { t.counters with wakeSent := bump t.counters.wakeSent } }

/-- The due CREDIT starts with the whole of unreturned (R20). -/
def Tether.startCredit (t : Tether) : Tether :=
  { t with creditDue := false, unreturned := 0, cameraHeld := t.cameraHeld + t.unreturned
           channel := some (.credit t.unreturned)
           counters := { t.counters with creditSent := bump t.counters.creditSent } }

/-- What an idle channel starts in each link state (R21). -/
def Tether.startIdle (t : Tether) : Tether :=
  match t.link with
  | .waking => if t.wakeDue then t.startWake else t
  | .locking => t.startHead
  | .up => if t.creditDue then t.startCredit else t.startHead
  | .down => t
  | .quiet => t

/-- A channel that is idle starts the first sendable item (R21). -/
def Tether.startChannel (t : Tether) : Tether := if t.channel.isSome then t else t.startIdle

/-- The downstream channel of a port looks for work. -/
def Ev.startChannel (e : Ev) (p : PortId) : Ev := e.updTether p Tether.startChannel

/-! ## The output arbiter (R130, R131) -/

/-- A port is eligible when its ingress queue is not empty and the output port is not sending a packet of it (R130). -/
def State.eligible (s : State) (p : PortId) : Bool :=
  !(s.port p).ingress.queue.isEmpty && !(match s.output.sending with | some t => decide (t.port = p) | none => false)

/-- An eligible port of a group. -/
def State.eligibleIn (s : State) (g : OutputGroup) (p : PortId) : Bool :=
  s.eligible p && decide ((s.port p).feed.settings.outputGroup = g)

/-- The positions of a rotation of n, beginning after a pointer. -/
def rotation (n ptr : Nat) : List Nat := (List.range n).map fun k => (ptr + 1 + k) % n

/-- The port at a position of a rotation; position 8 of the HIGH rotation is the LOW position. -/
def positionPort (k : Nat) : Option PortId := if h : k < 8 then some ⟨k, h⟩ else none

/-- Whether a position of the HIGH rotation qualifies (R131, step 1). -/
def State.qualifies (s : State) (k : Nat) : Bool :=
  match positionPort k with
  | some p => s.eligibleIn .high p
  | none => allPorts.any (s.eligibleIn .low)

/-- The eligible LOW port after the LOW pointer (R131, step 3). -/
def State.lowPick (s : State) : Option PortId :=
  ((rotation 8 s.output.lowPtr.val).filterMap positionPort).find? (s.eligibleIn .low)

/-- The grant of the output arbiter: the port and its group (R131); none when no port is eligible. -/
def State.outputPick (s : State) : Option (PortId × OutputGroup) :=
  match (rotation 9 s.output.highPtr.val).find? s.qualifies with
  | none => none
  | some k =>
      match positionPort k with
      | some p => some (p, .high)
      | none => s.lowPick.map fun p => (p, .low)

/-- The pointers and the grant counters after a grant (R131, R134). -/
def Output.granted (o : Output) (p : PortId) (g : OutputGroup) : Output :=
  match g with
  | .high =>
      { o with highPtr := p.castSucc
               counters := { o.counters with highGrants := bump o.counters.highGrants } }
  | .low =>
      { o with highPtr := 8, lowPtr := p
               counters := { o.counters with lowGrants := bump o.counters.lowGrants } }

/-- The queue head of the granted port becomes the packet in transmission (R131). -/
def Ev.startTransmission (e : Ev) (p : PortId) (g : OutputGroup) : Ev :=
  match (e.port p).ingress.queue with
  | [] => e
  | h :: _ =>
      let t : Transmission :=
        { port := p, reserve := h.reserve, egress := (e.port p).ingress.egressCount, packet := h.packet, flushed := false }
      e.updOutput fun o => { o.granted p g with sending := some t }

/-- The arbiter picks when the output port is idle and HOLD is deasserted (R129, R131). -/
def Ev.outputServe (e : Ev) : Ev :=
  if e.output.sending.isSome || e.output.holdPin then e
  else
    match e.outputPick with
    | none => e
    | some (p, g) => e.startTransmission p g

/-! ## The meter's arbiter (R144, R145, R149) -/

/-- The first port with an occupied LIVE place after the LIVE pointer (R144). -/
def Meter.livePick (m : Meter) : Option PortId :=
  ((rotation 8 m.livePtr.val).filterMap positionPort).find? fun p => m.livePlaces.get p

/-- A LIVE grant empties the port's place and moves the pointer (R144). -/
def Meter.takeLive (m : Meter) (p : PortId) : Meter :=
  { m with livePtr := p, livePlaces := m.livePlaces.set p.val false p.isLt }

/-- Whether a calibration leads a FULL measurement: none completed yet, the last one older than 60 s, or the timebase
INVALID (R149). The age timer runs for 60 s from each completion. -/
def Timebase.leads (t : Timebase) : Bool := !t.everCompleted || t.ageTimer.isNone || !t.valid

/-- The offered FULL measurement is granted when the port's feed is off and its link is QUIET (R144, R149). -/
def Ev.grantFull (e : Ev) (p : PortId) : Ev :=
  if (e.port p).feed.power.feedOn = false ∧ (e.port p).tether.link = .quiet then
    if e.meter.timebase.leads then
      (e.updMeter fun m =>
        { m with offered := none
                 holder := some (.full p true true [], e.time + Config.shotTime) }).setDiag p .calibrating
    else
      (e.updMeter fun m =>
        { m with offered := none
                 holder := some (.full p false false [], e.time + Config.fullMeasurementTime) }).setDiag p .measuring
  else e

/-- The pick of an IDLE meter among LIVE shots and the offered FULL measurement: a LIVE grant to a port whose link is
not LOCKING after a lock loss is skipped and the arbiter picks again (R144, R145). -/
def Ev.meterPick : Nat → Ev → Ev
  | 0, e => e
  | k + 1, e =>
      match e.meter.livePick with
      | some p =>
          let e := e.updMeter fun m => m.takeLive p
          if (e.port p).tether.lockLost then
            e.updMeter fun m => { m with holder := some (.live p, e.time + Config.shotTime) }
          else Ev.meterPick k (e.countMeter fun c => { c with liveSkipped := bump c.liveSkipped })
      | none =>
          match e.meter.offered with
          | some p => e.grantFull p
          | none => e

/-- The arbiter picks when the meter is IDLE: a pending calibration first (R144). -/
def Ev.meterServe (e : Ev) : Ev :=
  if e.meter.holder.isSome then e
  else if e.meter.pendingCal then
    e.updMeter fun m =>
      { m with pendingCal := false, holder := some (.calibration, e.time + Config.shotTime) }
  else Ev.meterPick 9 e

end Sys2Proof.Machine
end

