-- ==== Sys2Proof/Machine/Admission.lean ====
section
/-! DEFINITION. From the probe to full power: the check of R31, the BOOT and FULL requests (R34, R36, R57), admission and
the serving pass (R60, R61, R37), and the end of an event's remaining work. -/

namespace Sys2Proof.Machine

/-! ## The check of R31 -/

/-- The probe source is applied and the probe timer starts (R31, R33). -/
def Ev.startProbe (e : Ev) (p : PortId) : Ev :=
  e.updFeed p fun f => { f with probeTimer := some (e.time + Config.probeTime) }

/-- Every path into PROBING: DIAGNOSING under a diagnosis, POOL_HALT without the global feed enable, else PROBING
(R31). -/
def Ev.probeCheck (e : Ev) (p : PortId) (cause : PowerCause) : Ev :=
  if (e.port p).cable.diag ≠ .clear then e.setPower p .diagnosing cause
  else if e.pool.feedEnable = false then e.setPower p .poolHalt cause
  else (e.setPower p .probing cause).startProbe p

/-! ## The BOOT and FULL requests (R34, R36, R57, R59) -/

/-- The cable kind of a port. -/
def State.kindOf (s : State) (p : PortId) : CableKind := s.kinds.get (s.port p).feed.settings.cableKind

/-- The port enters BOOT_WAIT, R_used is fixed, and the boot allowance is asked for (R34, R54, R57). -/
def Ev.bootRequest (e : Ev) (p : PortId) : Ev :=
  let e := e.setPower p .bootWait .probe
  let r := chooseRUsed (e.port p) (e.kindOf p)
  let e := e.updFigures p fun q => { q with rUsed := some r }
  match e.feedFor p Config.bootAllowance with
  | .infeasible st =>
      ((e.noteInfeasible p .boot st).updFigures p PoolPort.clearFigures).raiseFault p .feedInfeasible
  | .feasible figure estimate =>
      (e.updFigures p fun q => { q with bootEstimate := estimate }).joinQueue p .boot figure

/-- The infeasible answer to a FULL request (R36, R59). -/
def Ev.fullInfeasible (e : Ev) (p : PortId) (st : Stage) : Ev :=
  (e.noteInfeasible p .full st).raiseFault p .feedInfeasible

/-- The FULL entry of a feasible request: the class figure less the boot figure (R57). -/
def Ev.queueFull (e : Ev) (p : PortId) (figure estimate surcharge lensEstimate : Nat) : Ev :=
  (e.updFigures p fun q =>
    { q with classFigure := figure, estClass := estimate, surchargeAmount := surcharge, estLens := lensEstimate }).joinQueue
      p .full (figure - (e.port p).pool.base)

/-- The power class as R36 takes it. -/
def clampClass (c : Nat) : Nat := clampTo 1 4 c

/-- A HELLO's class moves a BOOT port to FULL_WAIT and asks for its full power (R36, R57). The lens kind has been set
already. -/
def Ev.fullRequest (e : Ev) (p : PortId) (cls : Nat) : Ev :=
  let e := if clampClass cls = cls then e else e.countFeed p fun c => { c with classClamped := bump c.classClamped }
  let e := (e.updFeed p fun f => { f with powerClass := clampClass cls }).setPower p .fullWait .hello
  let power := classPower (clampClass cls)
  if (e.port p).lens.kind.motorized then
    match e.feedFor p (power + (e.port p).feed.settings.lensPower), e.feedFor p power with
    | .infeasible st, _ => e.fullInfeasible p st
    | .feasible .., .infeasible st => e.fullInfeasible p st
    | .feasible figLens estLens, .feasible fig est => e.queueFull p fig est (figLens - fig) estLens
  else
    match e.feedFor p power with
    | .infeasible st => e.fullInfeasible p st
    | .feasible fig est => e.queueFull p fig est 0 0

/-! ## Admission (R61) -/

/-- A feed session begins: the link enters WAKING, the lock check and the wake timer start (R7, R12). -/
def Ev.linkWake (e : Ev) (p : PortId) : Ev :=
  (e.updTether p fun t =>
    { t with lockCheck := some (e.time + Config.millisecond), wakeTimer := some (e.time + Config.wakeTime)
             marks := 0, goodWindows := 0
             session := some { helloTaken := false, upReached := false } }).setLink p .waking

/-- A BOOT admission: the port enters BOOT, its sample and inrush timers start (R34, R61). DEDUCED: log entry 38. -/
def Ev.admitBoot (e : Ev) (p : PortId) (amount : Nat) : Ev :=
  let e := e.countPool fun c => { c with bootAdmissions := bump c.bootAdmissions }
  let e := (e.updFigures p fun q => { q with base := q.base + amount }).updPool fun q =>
    { q with admitted := (q.admitted.filter fun x => decide (x ≠ p)) ++ [p] }
  let e := (e.updFeed p fun f =>
    { f with bootLimitEstimate := (e.port p).pool.bootEstimate, limit := Config.inrushLimit
             inrushTimer := some (e.time + Config.inrushTime)
             sampleTimer := some (e.time + Config.millisecond) }).setPower p .boot .admission
  e.linkWake p

/-- What entry into FULL sets in the feed controller (R37). -/
def Feed.enterFull (f : Feed) (now limit : Nat) : Feed :=
  { f with limit := limit, inrushTimer := none, overCount := 0, noLoad := {}, underVolt := {}
           fullSessionTimer := some (now + Config.fullSessionTime) }

/-- What entry into FULL begins in the break analyser: the flex window, the drift check, the resistance session (R158,
R162, R166). -/
def Cable.enterFull (c : Cable) (now : Nat) : Cable :=
  { c with flex := {}, flexTimer := some (now + Config.flexTime), allowance := 0, driftArmed := true
           resistanceCount := 0, resistanceSum := 0, filtered := none }

/-- A FULL admission: the port enters FULL (R37, R61), and its neighbours begin their FULL session. -/
def Ev.admitFull (e : Ev) (p : PortId) (amount : Nat) : Ev :=
  let e := e.countPool fun c => { c with fullAdmissions := bump c.fullAdmissions }
  let e := (e.updFigures p fun q => { q with base := q.base + amount }).updPool fun q =>
    { q with admitted := (q.admitted.filter fun x => decide (x ≠ p)) ++ [p] }
  let e := (e.updFeed p fun f => f.enterFull e.time (limitOf (e.port p).pool.estClass)).setPower p .full .admission
  ((e.updCable p fun c => c.enterFull e.time).updCapture p Capture.enterFull).lensEnterFull p

/-- The head is admitted according to its type (R61). -/
def Ev.grantEntry (e : Ev) (h : AdmissionEntry) : Ev :=
  match h.type with
  | .boot => e.admitBoot h.port h.amount
  | .full => e.admitFull h.port h.amount
  | .surcharge => e.admitSurcharge h.port h.amount

/-- Whether an amount fits the headroom (R53, R60). -/
def State.fits (s : State) (amount : Nat) : Bool := decide (s.allocationSum + amount ≤ s.pool.effectiveBudget)

/-- A serving pass: the head is admitted while it fits (R60). Entries that join during the pass are served by the pass
their joining starts. -/
def Ev.servePass : Nat → Ev → Ev
  | 0, e => e
  | k + 1, e =>
      match e.pool.queue with
      | [] => e
      | h :: rest =>
          if e.fits h.amount then
            Ev.servePass k ((e.updPool fun q => q.setQueue rest).grantEntry h)
          else e

/-- The admission queue is served (R60). -/
def Ev.serve (e : Ev) : Ev := Ev.servePass e.pool.queue.length e

/-! ## The end of an event -/

/-- One piece of an event's remaining work. -/
def Ev.perform (e : Ev) : Task → Ev
  | .examine p => e.examine p
  | .handIn p => e.handIn p
  | .channel p => e.startChannel p
  | .serve => e.serve
  | .output => e.outputServe
  | .meter => e.meterServe

/-- The remaining work, first in, first out (DEDUCED, log entry 5). -/
def Ev.settleBy : Nat → Ev → Ev
  | 0, e => e
  | k + 1, e =>
      match e.todo with
      | [] => e
      | t :: rest => Ev.settleBy k (({ e with todo := rest } : Ev).perform t)

/-- The bound on one event's pieces of work. -/
def workBound : Nat := 512

/-- All the work an event has left. -/
def Ev.settle (e : Ev) : Ev := Ev.settleBy workBound e

/-- An event: it acts, its remaining work is done, and its notices join (R184). -/
def State.event (s : State) (act : Ev → Ev) : State := ((act s.begin).settle).finish

/-- An event of a block other than the control link: the blocks run in CONFIG and RUN only (R186, log entry 31). -/
def State.blockEvent (s : State) (act : Ev → Ev) : State := if s.blocksRun then s.event act else s

end Sys2Proof.Machine
end

