-- ==== Sys2Proof/Machine/Evidence.lean ====
section
/-! DEFINITION. What the GOOD control packets of a camera do (R6): the lens answers (R100 to R103), STATUS with the feed
checks (R39), the lens report (R104) and the resistance sample with its drift check (R157, R158, R166), and the HELLO
(R14). -/

namespace Sys2Proof.Machine

/-! ## Lens answers -/

/-- A lens move ends in STALLED (R103): the head is examined before the fault is reported. -/
def Ev.lensStall (e : Ev) (p : PortId) (fault : FaultKind) (event : LensEvent) (reached : Option Positions)
    (code : Option Byte) : Ev :=
  let l := (e.port p).lens
  let e := (e.releaseSurcharge p).updLens p fun l =>
    { l with state := .stalled, move := none, held := reached.or l.held, lastCode := code, settleTimer := none }
  let e := if event = .timeout then e.countLens p fun c => { c with timeouts := bump c.timeouts }
    else e.countLens p fun c => { c with stalls := bump c.stalls }
  ((e.lensNotice p l.state .stalled event l.move).examine p).raiseFault p fault

/-- An on-target answer to a LENS_MOVE (R100). -/
def Ev.onTarget (e : Ev) (p : PortId) (m : Move) (reached : Positions) (settle : Nat) : Ev :=
  let e := (e.releaseSurcharge p).updLens p fun l =>
    { l with held := some reached, lastTarget := m.target, lastCode := some 0 }
  if settle = 0 then e.rest p .moving
  else e.updLens p fun l => { l with state := .settling, settleTimer := some (e.time + ms settle) }

/-- An off-target answer (R101): the second attempt, whose LENS_MOVE is counted as handed in (R108), or STALLED. -/
def Ev.offTarget (e : Ev) (p : PortId) (m : Move) (target : Positions) (reached : Option Positions) : Ev :=
  if m.attempt = 1 then
    let tag := (e.port p).tether.nextTag
    ((e.updLens p fun l =>
        { l with held := reached.or l.held, lastCode := some 0
                 move := l.move.map fun m => { m with attempt := 2, downTag := some tag } }).handTagged p fun n =>
      .lensMove n target).countLens p fun c => { c with moves := bump c.moves, offTarget := bump c.offTarget }
  else e.lensStall p .lensStall .stall reached (some 0)

/-- A matched answer to a LENS_MOVE (R100, R101, R103). -/
def Ev.moveAnswer (e : Ev) (p : PortId) (m : Move) (code : Byte) (reached : Option Positions) : Ev :=
  if code ≠ 0 then e.lensStall p .lensStall .stall reached (some code)
  else
    match m.captured, reached, m.target with
    | some (target, settle), some r, some q =>
        if (e.port p).lens.kind.agree ((e.port p).lens.presets.get q).tolerance target r then e.onTarget p m r settle
        else e.offTarget p m target reached
    | some (target, _), _, _ => e.offTarget p m target reached
    | none, _, _ => e

/-- A matched answer to a LENS_HOME (R102, R103). -/
def Ev.homeAnswer (e : Ev) (p : PortId) (code : Byte) : Ev :=
  if code ≠ 0 then e.lensStall p .lensStall .stall none (some code)
  else
    ((e.releaseSurcharge p).updLens p fun l =>
      { l with held := some l.kind.homePositions, lastTarget := none, lastCode := some 0 }).rest p .homing

/-- A matched lens answer, or none when no packet of a move is out. -/
def Ev.lensAnswer (e : Ev) (p : PortId) (code : Byte) (reached : Option Positions) : Ev :=
  match (e.port p).lens.state, (e.port p).lens.move with
  | .moving, some m => e.moveAnswer p m code reached
  | .homing, some _ => e.homeAnswer p code
  | _, _ => e

/-- The deadline of a lens packet has expired (R103). -/
def Ev.lensTimeout (e : Ev) (p : PortId) : Ev :=
  if (e.port p).lens.state = .moving ∨ (e.port p).lens.state = .homing then
    e.lensStall p .lensTimeout .timeout none none
  else e

/-! ## STATUS (R6) -/

/-- A STATUS check after a report: a count of 3 returns to 0, disarms the check and raises the fault (R39). -/
def StatusCheck.judge (c : StatusCheck) (condition : Bool) : StatusCheck × Bool :=
  if condition then
    if c.armed then
      if c.count + 1 = 3 then ({ count := 0, armed := false }, true) else ({ c with count := c.count + 1 }, false)
    else (c, false)
  else ({ count := 0, armed := true }, false)

/-- The undervoltage check of a port whose feed is on (R39). -/
def Feed.judgeVoltage (f : Feed) (input : Nat) : StatusCheck × Bool :=
  if f.power.feedOn then f.underVolt.judge (decide (input < f.settings.vMin)) else (f.underVolt, false)

/-- The no-load check of a FULL port (R39). -/
def Feed.judgeLoad (f : Feed) : StatusCheck × Bool :=
  if f.power = .full then f.noLoad.judge (decide (f.lastSample.toNat < 10)) else (f.noLoad, false)

/-- A STATUS meets the feed controller: both checks are made, then their faults are taken, CAMERA_UNDERVOLT before
NO_LOAD (R39; DESIGN CHOICE, log entry 47). Both arose in the state the STATUS found (R168). -/
def Ev.feedStatus (e : Ev) (p : PortId) (input : Nat) : Ev :=
  let f := (e.port p).feed
  let e := e.updFeed p fun f => { f with underVolt := (f.judgeVoltage input).1, noLoad := f.judgeLoad.1 }
  let e := if (f.judgeVoltage input).2 then
      (e.countFeed p fun c => { c with undervoltFaults := bump c.undervoltFaults }).takeFault p .cameraUndervolt
        f.power f.retry
    else e
  if f.judgeLoad.2 then
    (e.countFeed p fun c => { c with noLoadFaults := bump c.noLoadFaults }).takeFault p .noLoad f.power f.retry
  else e

/-- A STATUS meets the lens sequencer (R104). -/
def Ev.lensStatus (e : Ev) (p : PortId) (busy : Bool) (payload : List Byte) : Ev :=
  let l := (e.port p).lens
  if l.state = .absent then e
  else
    let e := e.updLens p fun l => { l with reported := some (readPositions l.kind payload 0, busy) }
    if l.state = .idle ∧ busy then e.countLens p fun c => { c with busyIdle := bump c.busyIdle } else e

/-! ## Resistance and drift (R157, R158, R166) -/

/-- A resistance sample in milliohm (R157). -/
def resistanceSample (pool input current : Nat) : Nat := (pool - input) * 1000 / current

/-- The filtered value after a sample: it moves by an eighth of the difference, truncated toward zero (R158). -/
def filterStep (filtered sample : Nat) : Nat := ((filtered : Int) + ((sample : Int) - filtered).tdiv 8).toNat

/-- A resistance record after a sample; the first full run sets an absent measured baseline (R158). -/
def Cable.addSample (c : Cable) (r : Nat) : Cable :=
  if c.resistanceCount < 8 then
    let c := { c with resistanceCount := c.resistanceCount + 1, resistanceSum := c.resistanceSum + r }
    if c.resistanceCount = 8 then
      { c with filtered := some (c.resistanceSum / 8), resistanceBase := c.resistanceBase.or (some (c.resistanceSum / 8)) }
    else c
  else { c with filtered := c.filtered.map fun f => filterStep f r }

/-- The margin of the drift check (R166). -/
def driftMargin (base percent : Nat) : Nat := max (base * percent / 100) 100

/-- The drift check after a sample that leaves the filtered value present (R166). -/
def Ev.driftCheck (e : Ev) (p : PortId) : Ev :=
  let c := (e.port p).cable
  match c.filtered, c.resistanceBase with
  | some r, some b =>
      let m := driftMargin b (e.port p).feed.settings.drift
      if c.driftArmed then
        if b + m < r then
          let e := (e.updCable p fun c => { c with driftArmed := false }).countCable p fun c =>
            { c with drifts := bump c.drifts }
          (e.writeFinding (e.newFinding p .highResistance none none .drift {} (some (b, r)))).raiseFault p
            .highResistance
        else e
      else if r < b + m / 2 then e.updCable p fun c => { c with driftArmed := true } else e
  | _, _ => e

/-- A STATUS meets the break analyser: a sample needs FULL and a current of at least 50 mA (R157). -/
def Ev.cableStatus (e : Ev) (p : PortId) (input : Nat) : Ev :=
  let f := (e.port p).feed
  if f.power = .full ∧ 50 ≤ f.lastSample.toNat then
    (e.updCable p fun c =>
      { c.addSample (resistanceSample e.pool.sampleMv input f.lastSample.toNat) with
          samplesTaken := bump c.samplesTaken }).driftCheck p
  else e

/-- A GOOD STATUS is handed to the feed controller, the lens sequencer and the break analyser (R6), in this order
(DESIGN CHOICE, log entry 47). -/
def Ev.takeStatus (e : Ev) (p : PortId) (k : UpPacket) : Ev :=
  ((e.feedStatus p k.b.toNat).lensStatus p (decide (k.a ≠ 0)) k.payload).cableStatus p k.b.toNat

/-! ## HELLO (R14) -/

/-- Taking the session's HELLO (R14): camera id, lens kind, class, and the CAMERA_HELLO notice. DEDUCED: log entry 18.
-/
def Ev.takeHello (e : Ev) (p : PortId) (k : UpPacket) : Ev :=
  let kind := helloLensKind k.c
  let e := (e.updTether p fun t =>
      { t with cameraId := some (wordAt k.payload 0), helloTimer := none
               session := t.session.map fun x => { x with helloTaken := true } }).updLens p fun l =>
    { l with kind := kind }
  let e := if (e.port p).feed.power = .boot then e.fullRequest p k.a.toNat else e
  e.offer (.cameraHello p (wordAt k.payload 0) k.a kind)

/-- A GOOD HELLO: the first of a feed session is taken, a later one counted (R6). -/
def Ev.hello (e : Ev) (p : PortId) (k : UpPacket) : Ev :=
  match (e.port p).tether.session with
  | some { helloTaken := false, .. } => e.takeHello p k
  | _ => e.countTether p fun c => { c with repeatedHello := bump c.repeatedHello }

/-! ## ANSWER (R25) -/

/-- The entry of the outstanding-answer table with a tag (R24: no two entries share one). -/
def Tether.outstandingAt (t : Tether) (tag : Byte) : Option Outstanding := t.outstanding.find? fun o => decide (o.tag = tag)

/-- An entry leaves the outstanding-answer table: the channel may start a head it held back, and the removal of a
CAM_WRITE examines the queue head (R21, R84). -/
def Ev.leaveTable (e : Ev) (p : PortId) (o : Outstanding) : Ev :=
  let e := (e.updTether p fun t => { t with outstanding := t.outstanding.filter fun x => decide (x.tag ≠ o.tag) }).push
    (.channel p)
  if o.kind = .camWrite then e.push (.examine p) else e

/-- A GOOD ANSWER is matched by its down tag, or discarded (R25). -/
def Ev.answer (e : Ev) (p : PortId) (k : UpPacket) : Ev :=
  match (e.port p).tether.outstandingAt k.a with
  | none => e.countTether p fun c => { c with unmatched := bump c.unmatched }
  | some o =>
      let code := k.c.setWidth 8
      let e := e.leaveTable p o
      if o.kind.isLens then e.lensAnswer p code (answerPositions (e.port p).lens.kind k.payload)
      else e.relayAnswer p k.a code (wordAt k.payload 0)

end Sys2Proof.Machine
end

