-- ==== Sys2Proof/Machine/Packets.lean ====
section
/-! DEFINITION. Upstream packets (R4, R5, R19) and what the frame assembler makes of image packets (R112 to R122). -/

namespace Sys2Proof.Machine

/-! ## Image packets (06) -/

/-- An image packet's classification event: its class, its header fields and whether it was charged a credit (R19). -/
structure ImagePacket where
  cls : PacketClass
  packet : UpPacket
  charged : Bool
  deriving DecidableEq, Repr

/-- A packet is discarded: a charged one frees its slot at once (R19). -/
def Ev.discard (e : Ev) (p : PortId) (k : ImagePacket) : Ev := if k.charged then e.creditDiscarded p else e

/-- The hub packet kind a header names (R127). -/
def UpKind.hubKind : UpKind → HubKind
  | .frameStart => .frameStart
  | .line => .line
  | .frameEnd => .frameEnd
  | .hello => .line | .status => .line | .answer => .line | .unknown => .line

/-- The payload a kept packet bears: a FRAME_START keeps its four-byte exposure used (R109, log entry 22). -/
def UpPacket.keptPayload (k : UpPacket) : List Byte := if k.kind = .frameStart then k.payload.take 4 else k.payload

/-- The hub packet of a kept image packet (R109). -/
def UpPacket.hubPacket (k : UpPacket) (damaged : Bool) : HubPacket :=
  { kind := k.kind.hubKind, frame := k.b, sequence := k.a, damaged := damaged, payload := k.keptPayload }

/-- The frame record of a FRAME_START, with the capture sequencer's answer (R88, R114). -/
def openRecord (k : UpPacket) (x : Option Exposure) (l : Lens) (now : Word) : OpenFrame :=
  { number := k.b
    trigger := x.map fun r => (r.tag, r.source)
    step := match x with | some r => r.step | none => .absent
    preset := match x with | some r => r.preset | none => none
    flags :=
      match x with
      | some r => { tagMismatch := !decide (k.c = r.tag), presetInvalid := r.invalid, lensUnreferenced := r.unreferenced }
      | none =>
          { untriggered := true
            lensUnreferenced := decide (l.state = .unreferenced) || decide (l.state = .stalled) }
    held := l.heldForFrame
    exposureUsed := wordAt k.payload 0
    start := now
    received := 0, lost := 0, damaged := 0 }

/-- The capture sequencer takes a FRAME_START (R88): an open exposure closes, or the frame is untriggered. -/
def Ev.frameStartTaken (e : Ev) (p : PortId) (tag : Half) : Ev :=
  match (e.port p).capture.exposure with
  | some r =>
      (e.countCapture p fun c =>
        { c with closed := bump c.closed
                 tagMismatch := if tag = r.tag then c.tagMismatch else bump c.tagMismatch }).closeExposure p
  | none => e.countCapture p fun c => { c with untriggered := bump c.untriggered }

/-- A GOOD FRAME_START opens a frame (R114). -/
def Ev.openFrame (e : Ev) (p : PortId) (k : UpPacket) : Ev :=
  let r := openRecord k (e.port p).capture.exposure (e.port p).lens e.usClock
  let e := (e.keepPacket p (k.hubPacket false)).updIngress p fun i =>
    { i with record := .openFrame r, expected := 1, counters := { i.counters with opened := bump i.counters.opened } }
  e.frameStartTaken p k.c

/-- A packet without a frame raises the orphan or the discarding counter (R122). -/
def Ev.countStray (e : Ev) (p : PortId) : Ev :=
  match (e.port p).ingress.record with
  | .discarding => e.countIngress p fun c => { c with discardedPackets := bump c.discardedPackets }
  | .empty => e.countIngress p fun c => { c with orphans := bump c.orphans }
  | .openFrame _ => e

/-- A packet that finds no open frame (R114, R121, R122). DEDUCED: log entry 42. -/
def Ev.strayPacket (e : Ev) (p : PortId) (k : ImagePacket) : Ev :=
  if k.cls = .good ∧ k.packet.kind = .frameStart then e.openFrame p k.packet
  else
    let e := (e.countStray p).discard p k
    if k.cls = .tooLong ∧ (e.port p).ingress.record = .empty then e.enterDiscarding p else e

/-- A damaged packet of the open frame (R112, R116). A CRC_BAD packet has been charged, since one that meets no credit
is OVERRUN (R112). -/
def Ev.damagedPacket (e : Ev) (p : PortId) (f : OpenFrame) (k : ImagePacket) : Ev :=
  let keep := decide (k.cls = .crcBad) && decide ((e.port p).feed.settings.damagedPolicy = .forward)
  let flags := { f.flags with damagedForwarded := f.flags.damagedForwarded || keep }
  let e := e.updIngress p fun i =>
    { i with record := .openFrame { f with damaged := bumpLines 1 f.damaged, flags := flags }
             expected := i.expected + 1 }
  if keep then
    (e.keepPacket p (k.packet.hubPacket true)).countIngress p fun c => { c with damagedForwarded := bump c.damagedForwarded }
  else (e.countIngress p fun c => { c with damagedDropped := bump c.damagedDropped }).discard p k

/-- A GOOD LINE of the open frame is kept and judged by its sequence number (R117). -/
def Ev.lineOfFrame (e : Ev) (p : PortId) (f : OpenFrame) (k : UpPacket) : Ev :=
  let r := (e.port p).ingress.judgeSequence f k.a
  (e.updIngress p fun _ => { r.1 with record := .openFrame { r.2 with received := bumpLines 1 r.2.received } }).keepPacket p
    (k.hubPacket false)

/-- A GOOD FRAME_END completes its frame: its slot holds the trailer (R118). -/
def Ev.completeFrame (e : Ev) (p : PortId) (f : OpenFrame) (k : UpPacket) : Ev :=
  let r := (e.port p).ingress.judgeSequence f k.a
  let f := { r.2 with lost := lostAtEnd r.2 k.c.toNat }
  (e.updIngress p fun _ =>
    { r.1 with record := .empty
               counters := { r.1.counters with completed := bump r.1.counters.completed } }).keepPacket p
    (trailerPacket f k.a (e.port p).pool.allocation)

/-- A GOOD image packet that finds a frame open (R115, R117, R118). -/
def Ev.goodInFrame (e : Ev) (p : PortId) (f : OpenFrame) (k : ImagePacket) : Ev :=
  match k.packet.kind with
  | .frameStart => (e.truncateFrame p .empty).openFrame p k.packet
  | .line =>
      if k.packet.b = f.number then e.lineOfFrame p f k.packet
      else (((e.truncateFrame p .empty).enterDiscarding p).countStray p).discard p k
  | .frameEnd =>
      if k.packet.b = f.number then e.completeFrame p f k.packet
      else ((e.truncateFrame p .empty).countStray p).discard p k
  | .hello => e | .status => e | .answer => e | .unknown => e

/-- An image packet is disposed of by its class and the state of the frame record (R112). -/
def Ev.imagePacket (e : Ev) (p : PortId) (k : ImagePacket) : Ev :=
  match (e.port p).ingress.record with
  | .openFrame f =>
      match k.cls with
      | .good => e.goodInFrame p f k
      | .tooLong => ((e.truncateFrame p .empty).enterDiscarding p).discard p k
      | .crcBad => e.damagedPacket p f k
      | .overrun => e.damagedPacket p f k
      | .aborted => e.damagedPacket p f k
      | .mutilated => e
  | .empty => e.strayPacket p k
  | .discarding => e.strayPacket p k

/-! ## Classification and routing (R4, R5) -/

/-- The counter of a class (R5, R26). -/
def TetherCounters.countClass (c : TetherCounters) : PacketClass → TetherCounters
  | .aborted => { c with aborted := bump c.aborted }
  | .mutilated => { c with mutilated := bump c.mutilated }
  | .tooLong => { c with tooLong := bump c.tooLong }
  | .crcBad => { c with crcBad := bump c.crcBad }
  | .overrun => { c with overrun := bump c.overrun }
  | .good => { c with good := bump c.good }

/-- A class whose image packets are charged a credit (R19). -/
def PacketClass.charges : PacketClass → Bool
  | .aborted => true | .tooLong => true | .crcBad => true | .good => true
  | .mutilated => false | .overrun => false

/-- The mark and the class counter of a classified packet (R5, steps 1 and 2); the mark count stops at its maximum
(DEDUCED, log entry 56). -/
def Ev.countPacket (e : Ev) (p : PortId) (cls : PacketClass) : Ev :=
  e.updTether p fun t =>
    { t with marks := if cls = .mutilated then t.marks else bump t.marks, counters := t.counters.countClass cls }

/-- A CRC_BAD packet, of either role or of none, is flex evidence while the port is FULL (R161, R162; DEDUCED, log entry
21). -/
def Ev.crcEvidence (e : Ev) (p : PortId) (cls : PacketClass) : Ev :=
  if cls = .crcBad ∧ (e.port p).feed.power = .full then
    e.updCable p fun c => { c with flex := { c.flex with crcBad := min (c.flex.crcBad + 1) 65535 } }
  else e

/-- A packet of an unknown kind, or a control packet too short for its kind (R5, R192). -/
def Ev.unknownKind (e : Ev) (p : PortId) : Ev := e.countTether p fun c => { c with unknownKind := bump c.unknownKind }

/-- A GOOD control packet (R6). -/
def Ev.controlPacket (e : Ev) (p : PortId) (k : UpPacket) : Ev :=
  if k.payload.length < controlPayload k.kind then e.unknownKind p
  else
    match k.kind with
    | .hello => e.hello p k
    | .status => e.takeStatus p k
    | .answer => e.answer p k
    | .frameStart => e | .line => e | .frameEnd => e | .unknown => e

/-- The image role of R5, step 3: charged as R19 gives and handed to the ingress buffer. -/
def Ev.imageRole (e : Ev) (p : PortId) (cls : PacketClass) (k : UpPacket) : Ev :=
  let charged := cls.charges && decide (0 < (e.port p).tether.cameraHeld)
  let e := if charged then e.updTether p fun t => { t with cameraHeld := t.cameraHeld - 1 } else e
  e.imagePacket p { cls := cls, packet := k, charged := charged }

/-- The role of a packet: of its kind when its header is complete (R4). -/
def roleOf (bytes : List Byte) : Role := if headerComplete bytes then (upKind (byteAt bytes 0)).role else .noRole

/-- An upstream packet ends and is classified, counted and routed (R4, R5); nothing while the receiver is off. -/
def Ev.packetEnd (e : Ev) (p : PortId) (ending : PacketEnding) (bytes : List Byte) : Ev :=
  if (e.port p).tether.link.receiving then
    let cls := classify (e.port p).tether.cameraHeld ending bytes
    let e := (e.countPacket p cls).crcEvidence p cls
    match roleOf bytes with
    | .image => e.imageRole p cls (readUp bytes)
    | .control => if cls = .good then e.controlPacket p (readUp bytes) else e
    | .noRole => if cls = .good then e.unknownKind p else e
  else e

/-- A BEACON is a mark and nothing else (R5). -/
def Ev.beacon (e : Ev) (p : PortId) : Ev :=
  if (e.port p).tether.link.receiving then e.updTether p fun t => { t with marks := bump t.marks } else e

end Sys2Proof.Machine
end

