-- ==== Sys2Proof/Machine/LinkEvents.lean ====
section
/-! DEFINITION. The tether port's own events (01): the lock-check expiry, the three link timers, the downstream channel's
"down packet sent" and the answer deadlines; with the commands that name them. -/

namespace Sys2Proof.Machine

/-! ## The lock check (R8 to R13, R18, R163) -/

/-- A new window starts at once, with no marks (R8). -/
def Tether.newWindow (t : Tether) (now : Nat) : Tether :=
  { t with marks := 0, lockCheck := some (now + Config.millisecond) }

/-- A window expiry in WAKING (R9). -/
def Ev.checkWaking (e : Ev) (p : PortId) (seen : Bool) : Ev :=
  if seen then
    ((e.updTether p fun t => { t with goodWindows := 0, wakeDue := false }).setLink p .locking).push (.channel p)
  else (e.updTether p fun t => { t with wakeDue := true }).push (.channel p)

/-- The HELLO timer after an entry into UP: started at the first entry of a feed session unless a HELLO has been taken
(R13). -/
def Tether.helloStart (t : Tether) (now : Nat) : Option Nat :=
  match t.session with
  | some { helloTaken := false, upReached := false } => some (now + Config.helloTime)
  | _ => t.helloTimer

/-- What the entry into UP sets at the tether port (R12, R13, R18). -/
def Tether.raised (t : Tether) (now : Nat) : Tether :=
  { t with goodWindows := 3, wakeTimer := none, relockTimer := none, helloTimer := t.helloStart now
           session := t.session.map fun x => { x with upReached := true }
           unreturned := Config.creditedSlots - t.occupied
           creditDue := decide (0 < Config.creditedSlots - t.occupied) }

/-- The link enters UP (R10, R18): the credits are granted and the queue head is examined (R84). -/
def Ev.enterUp (e : Ev) (p : PortId) : Ev :=
  (((e.updTether p fun t => t.raised e.time).setLink p .up).push (.channel p)).push (.examine p)

/-- A window expiry in LOCKING (R10). DEDUCED: log entry 35. -/
def Ev.checkLocking (e : Ev) (p : PortId) (good : Bool) : Ev :=
  if good then
    if 3 ≤ (e.port p).tether.goodWindows + 1 then e.enterUp p
    else e.updTether p fun t => { t with goodWindows := t.goodWindows + 1 }
  else e.updTether p fun t => { t with goodWindows := 0 }

/-- A LIVE request takes the port's place at the meter, replacing an unserved one (R144). -/
def Meter.requestLive (m : Meter) (p : PortId) : Meter :=
  { m with livePlaces := m.livePlaces.set p.val true p.isLt
           counters := { m.counters with
             liveReplaced := if m.livePlaces.get p then bump m.counters.liveReplaced else m.counters.liveReplaced } }

/-- The break analyser paces its LIVE requests by the expiries that fall in LOCKING (R163). -/
def Ev.paceLive (e : Ev) (p : PortId) : Ev :=
  if (e.port p).tether.link = .locking then
    if 0 < (e.port p).cable.allowance then
      (((e.updCable p fun c => { c with allowance := c.allowance - 1 }).countCable p fun c =>
        { c with liveRequested := bump c.liveRequested }).updMeter fun m => m.requestLive p).push .meter
    else e
  else e.updCable p fun c => { c with allowance := 0 }

/-- A lock loss is flex evidence in FULL and sets the LIVE allowance (R161 to R163). -/
def Ev.lockEvidence (e : Ev) (p : PortId) : Ev :=
  if (e.port p).feed.power = .full then
    e.updCable p fun c =>
      { c with allowance := 8, flex := { c.flex with lockLosses := min (c.flex.lockLosses + 1) 65535 } }
  else e

/-- A bad window in UP is a lock loss (R11), with the effects of R15. The LINK_CHANGE is offered before the TRIGGER_LOSS of
a TRIGGER that had not been sent (DESIGN CHOICE, log entry 50). -/
def Ev.lockLoss (e : Ev) (p : PortId) : Ev :=
  let waiting := (e.port p).tether.queue.any DownPacket.isTrigger
  let e := (e.countTether p fun c => { c with lockLosses := bump c.lockLosses }).lockEvidence p
  let e := ((e.updTether p fun t =>
    { t with goodWindows := 0, relockTimer := some (e.time + Config.relockTime) }).leaveUp p).setLink p .locking
  let e := if waiting then e.triggerNotSent p else e
  e.push (.channel p)

/-- The judgement of an ended window by the link state it falls in (R8). -/
def Ev.judgeWindow (e : Ev) (p : PortId) (marks : Nat) : Ev :=
  match (e.port p).tether.link with
  | .waking => e.checkWaking p (decide (0 < marks))
  | .locking => (e.checkLocking p (decide (Config.goodMarks ≤ marks))).paceLive p
  | .up => if Config.goodMarks ≤ marks then e else e.lockLoss p
  | .down => e
  | .quiet => e

/-- The lock-check expiry (R8). -/
def Ev.lockCheck (e : Ev) (p : PortId) : Ev :=
  e.onExpiry (e.port p).tether.lockCheck fun e =>
    (e.updTether p fun t => t.newWindow e.time).judgeWindow p (e.port p).tether.marks

/-! ## Link timers (R12, R13) -/

/-- The wake timer: LINK_NO_WAKE. -/
def Ev.wakeExpired (e : Ev) (p : PortId) : Ev :=
  e.onExpiry (e.port p).tether.wakeTimer fun e =>
    (e.updTether p fun t => { t with wakeTimer := none }).raiseFault p .linkNoWake

/-- The relock timer: LINK_LOST. -/
def Ev.relockExpired (e : Ev) (p : PortId) : Ev :=
  e.onExpiry (e.port p).tether.relockTimer fun e =>
    (e.updTether p fun t => { t with relockTimer := none }).raiseFault p .linkLost

/-- The HELLO timer: HELLO_MISSING. -/
def Ev.helloExpired (e : Ev) (p : PortId) : Ev :=
  e.onExpiry (e.port p).tether.helloTimer fun e =>
    (e.updTether p fun t => { t with helloTimer := none }).raiseFault p .helloMissing

/-! ## The channel's events (R21, R24, R25) -/

/-- The outstanding-answer entry of a packet that has been sent (R24). -/
def outstandingOf (k : DownPacket) (now : Nat) : List Outstanding :=
  match k.tag?, k.answerKind? with
  | some tag, some kind => [{ tag := tag, kind := kind, deadline := now + kind.deadline }]
  | _, _ => []

/-- The relay's entry of a camera access that has been sent enters SENT (R137). -/
def Ev.packetSent (e : Ev) (p : PortId) (k : DownPacket) : Ev :=
  let e := e.updTether p fun t => { t with outstanding := t.outstanding ++ outstandingOf k e.time }
  match k.tag? with
  | some tag => e.relaySent p tag
  | none => e

/-- "Down packet sent": the channel is idle again and looks for work (R21). -/
def Ev.downSent (e : Ev) (p : PortId) : Ev :=
  match (e.port p).tether.channel with
  | none => e
  | some i =>
      let e := e.updTether p fun t => { t with channel := none }
      let e := match i with
        | .packet k => e.packetSent p k
        | .wake => e
        | .credit _ => e
      e.push (.channel p)

/-- An answer deadline: the entry is removed and its origin told (R25, R103, R140). -/
def Ev.answerExpired (e : Ev) (p : PortId) (tag : Byte) : Ev :=
  match (e.port p).tether.outstandingAt tag with
  | none => e
  | some o =>
      let e := ((e.reach o.deadline).leaveTable p o).countTether p fun c => { c with timeouts := bump c.timeouts }
      if o.kind.isLens then e.lensTimeout p else e.relayTimeout p tag

/-- WAKE_SEND names the channel's start of a due WAKE (R9, R21; DEDUCED, log entry 4). -/
def Ev.sendWake (e : Ev) (p : PortId) : Ev :=
  if (e.port p).tether.link = .waking then e.startChannel p else e

/-- CREDIT_SEND names the channel's start of a due CREDIT (R20, R21; DEDUCED, log entry 4). -/
def Ev.sendCredit (e : Ev) (p : PortId) : Ev :=
  if (e.port p).tether.link = .up ∧ (e.port p).tether.creditDue then e.startChannel p else e

/-- DOWN_QUEUE_START names the channel's start of the queue head (R21; DEDUCED, log entry 4). -/
def Ev.sendHead (e : Ev) (p : PortId) : Ev :=
  if (e.port p).tether.link = .locking ∨ (e.port p).tether.link = .up ∧ (e.port p).tether.creditDue = false then
    e.startChannel p
  else e

end Sys2Proof.Machine
end

