-- ==== Sys2Proof/Machine/FeedEvents.lean ====
section
/-! DEFINITION. The feed controller's events (02): the probe, its timers and the feed samples. -/

namespace Sys2Proof.Machine

/-! ## The probe (R32, R33) -/

/-- The results of a probe (R32). -/
inductive ProbeResult
  | short | valid | openEnded | invalid
  deriving DecidableEq, Repr

/-- The signature resistance of a positive difference of currents in microampere (R32). -/
def signature (delta : Nat) : Nat := roundHalfUp 4000000 delta

/-- The result of a probe from the currents at 4000 mV and at 8000 mV (R32). -/
def judgeProbe (at4V at8V : Nat) : ProbeResult :=
  if at8V = at4V then .openEnded
  else if at8V < at4V then .invalid
  else
    let r := signature (at8V - at4V)
    if r < 1000 then .short
    else if 13500 ≤ r ∧ r ≤ 16500 then .valid
    else if 500000 < r then .openEnded
    else .invalid

/-- The probe counters of R49. -/
def FeedCounters.countProbe (c : FeedCounters) : ProbeResult → FeedCounters
  | .short => { c with probes := bump c.probes, probeShort := bump c.probeShort }
  | .openEnded => { c with probes := bump c.probes, probeOpen := bump c.probeOpen }
  | .invalid => { c with probes := bump c.probes, probeInvalid := bump c.probeInvalid }
  | .valid => { c with probes := bump c.probes, probeValid := bump c.probeValid }

/-- An INVALID probe: a new one below a count of 3, else PROBE_INVALID (R33). -/
def Ev.invalidProbe (e : Ev) (p : PortId) : Ev :=
  if (e.port p).feed.invalidCount + 1 < 3 then
    (e.updFeed p fun f => { f with invalidCount := f.invalidCount + 1 }).startProbe p
  else (e.updFeed p fun f => { f with invalidCount := 0 }).raiseFault p .probeInvalid

/-- The effect of a probe's result (R32). -/
def Ev.probeEffect (e : Ev) (p : PortId) (r : ProbeResult) : Ev :=
  match r with
  | .short => (e.updFeed p fun f => { f with invalidCount := 0 }).raiseFault p .probeShort
  | .valid => (e.updFeed p fun f => { f with invalidCount := 0 }).bootRequest p
  | .openEnded =>
      (e.updFeed p fun f =>
        { f with invalidCount := 0, reprobeTimer := some (e.time + Config.reprobeTime) }).setPower p .vacant .probe
  | .invalid => e.invalidProbe p

/-- The probe completes: the source is removed and its end recorded (R28, R32). -/
def Ev.probeDone (e : Ev) (p : PortId) (at4V at8V : Nat) : Ev :=
  e.onExpiry (e.port p).feed.probeTimer fun e =>
    let r := judgeProbe at4V at8V
    (e.updFeed p fun f =>
      { f with probeTimer := none, lastProbeEnd := some e.time
               counters := f.counters.countProbe r }).probeEffect p r

/-- The re-probe timer of a VACANT port (R33). Its POWER_CHANGE bears the cause PROBE (DESIGN CHOICE, log entry 53). -/
def Ev.reprobe (e : Ev) (p : PortId) : Ev :=
  e.onExpiry (e.port p).feed.reprobeTimer fun e =>
    (e.updFeed p fun f => { f with reprobeTimer := none }).probeCheck p .probe

/-- The backoff timer (R41). -/
def Ev.backoffEnd (e : Ev) (p : PortId) : Ev :=
  e.onExpiry (e.port p).feed.backoffTimer fun e =>
    (e.updFeed p fun f => { f with backoffTimer := none }).probeCheck p .backoff

/-! ## Timers of a feed that is on (R35, R37) -/

/-- The inrush timer: the boot limit comes into force (R35). -/
def Ev.inrushEnd (e : Ev) (p : PortId) : Ev :=
  e.onExpiry (e.port p).feed.inrushTimer fun e =>
    e.updFeed p fun f => { f with inrushTimer := none, limit := limitOf f.bootLimitEstimate }

/-- The full-session timer: the retry count becomes 0 (R37). -/
def Ev.sessionEnd (e : Ev) (p : PortId) : Ev :=
  e.onExpiry (e.port p).feed.fullSessionTimer fun e =>
    e.updFeed p fun f => { f with fullSessionTimer := none, retry := 0 }

/-! ## Feed samples (R38) -/

/-- A sample recorded and compared with the limit in force; the second in a row above it is an overload (R38). -/
def Feed.sample (f : Feed) (current : Half) : Feed × Bool :=
  if current.toNat ≤ f.limit then ({ f with lastSample := current, overCount := 0 }, false)
  else if f.overCount + 1 = 2 then ({ f with lastSample := current, overCount := 0 }, true)
  else ({ f with lastSample := current, overCount := f.overCount + 1 }, false)

/-- The fault of an overload (R38). -/
def overloadKind (power : PowerState) : FaultKind := if power = .full then .portOvercurrent else .bootOverload

/-- The overload counters of R49. -/
def FeedCounters.countOverload (c : FeedCounters) (power : PowerState) : FeedCounters :=
  if power = .full then { c with overcurrents := bump c.overcurrents }
  else { c with bootOverloads := bump c.bootOverloads }

/-- The 1 ms feed sample (R38). -/
def Ev.feedSample (e : Ev) (p : PortId) (current : Half) : Ev :=
  e.onExpiry (e.port p).feed.sampleTimer fun e =>
    let power := (e.port p).feed.power
    let r := (e.port p).feed.sample current
    let e := e.updFeed p fun _ => { r.1 with sampleTimer := some (e.time + Config.millisecond) }
    if r.2 then (e.countFeed p fun c => c.countOverload power).raiseFault p (overloadKind power) else e

end Sys2Proof.Machine
end

