-- ==== Sys2Proof/Machine/PoolEvents.lean ====
section
/-! DEFINITION. The pool sample (03, 3.4): the three counts, FEED_KILL, DERATE and its shedding, and the POOL_EVENT
notices (R64 to R68, R70). -/

namespace Sys2Proof.Machine

/-- A POOL_EVENT offered, to join after the event's other notices (R70). -/
def Ev.offerPool (e : Ev) (event : PoolEvent) (ports : List PortId) : Ev :=
  { e with poolOffers := e.poolOffers ++ [(event, e.pool.sampleMv, e.pool.sampleMa, ports)] }

/-- The sum of the eight ports' last current samples (R64). -/
def State.summedCurrent (s : State) : Nat := (s.ports.toList.map fun x => x.feed.lastSample.toNat).sum

/-! ## FEED_KILL (R68, R45) -/

/-- The power states a FEED_KILL moves to POOL_HALT (R45). -/
def PowerState.killed : PowerState → Bool
  | .probing => true | .vacant => true | .bootWait => true | .boot => true | .fullWait => true | .full => true
  | .shed => true
  | .disabled => false | .backoff => false | .poolHalt => false | .diagnosing => false | .lockedOut => false

/-- A FEED_KILL moves one port (R45). -/
def Ev.killPort (e : Ev) (p : PortId) : Ev :=
  if (e.port p).feed.power.feedOn then e.feedCut p .poolHalt .kill .down (.drop .unavailable)
  else (e.endOffPhase p).setPower p .poolHalt .kill

/-- The kill counter of a cause (R71). -/
def PoolCounters.countKill (c : PoolCounters) (byVoltage : Bool) : PoolCounters :=
  if byVoltage then { c with killsVoltage := bump c.killsVoltage } else { c with killsCurrent := bump c.killsCurrent }

/-- A FEED_KILL (R68). -/
def Ev.feedKill (e : Ev) (byVoltage : Bool) : Ev :=
  let ports := allPorts.filter fun p => (e.port p).feed.power.killed
  let e := (e.updPool fun q => { q with feedEnable := false, tripCount := 0 }).countPool fun c => c.countKill byVoltage
  let e := ports.foldl Ev.killPort e
  e.offerPool (if byVoltage then .killVoltage else .killCurrent) ports

/-! ## DERATE (R65 to R67) -/

/-- The port the next shed takes: of the powered ports the lowest priority, and of those the latest in the admitted-port
list (R66). -/
def State.shedChoice (s : State) : Option PortId :=
  let powered := s.pool.admitted.reverse.filter fun p => (s.port p).feed.power.feedOn
  let lowest := (powered.map fun p => (s.port p).feed.settings.priority).foldl min 3
  powered.find? fun p => decide ((s.port p).feed.settings.priority ≤ lowest)

/-- One shed (R45, R65). -/
def Ev.shedPort (e : Ev) (p : PortId) : Ev :=
  (e.feedCut p .shed .shed .down (.drop .unavailable)).countPool fun c => { c with sheds := bump c.sheds }

/-- Ports are shed until the allocations fit the effective budget (R65); the ports shed, in order. -/
def Ev.shedPass : Nat → Ev → Ev × List PortId
  | 0, e => (e, [])
  | k + 1, e =>
      if e.allocationSum ≤ e.pool.effectiveBudget then (e, [])
      else
        match e.shedChoice with
        | none => (e, [])
        | some p =>
            let r := Ev.shedPass k (e.shedPort p)
            (r.1, p :: r.2)

/-- The fifth low sample enters DERATE (R65). -/
def Ev.enterDerate (e : Ev) : Ev :=
  let e := (e.updPool fun q => { q with derate := true, lowCount := 0, recoveryCount := 0 }).countPool fun c =>
    { c with derates := bump c.derates }
  let r := Ev.shedPass 8 e
  (r.1.push .serve).offerPool .derateEntered r.2

/-- The hundredth recovery sample ends DERATE (R67). -/
def Ev.leaveDerate (e : Ev) : Ev :=
  let ports := allPorts.filter fun p => decide ((e.port p).feed.power = .shed)
  let e := e.updPool fun q => { q with derate := false, lowCount := 0, recoveryCount := 0 }
  ((ports.foldl (fun y p => y.probeCheck p .derateEnd) e).push .serve).offerPool .derateLeft ports

/-! ## The sample (R64) -/

/-- The three counts after a sample in RUN (R64). -/
def Pool.count (q : Pool) : Pool :=
  { q with
    lowCount := if q.derate then q.lowCount
      else if q.sampleMv < q.settings.derate then min (q.lowCount + 1) 5 else 0
    recoveryCount := if q.derate then
        (if q.settings.derate + 500 ≤ q.sampleMv then min (q.recoveryCount + 1) 100 else 0)
      else q.recoveryCount
    tripCount := if q.settings.trip < q.sampleMa then min (q.tripCount + 1) 2 else 0 }

/-- The judgements of a sample in RUN: FEED_KILL first, then DERATE (R64, R65, R67, R68). R64 orders the kill against the
entry into DERATE; that it also precedes the end of DERATE is the model's choice (DESIGN CHOICE, log entry 54). -/
def Ev.judgePool (e : Ev) : Ev :=
  let e := e.updPool Pool.count
  let q := e.pool
  let byVoltage := decide (q.sampleMv < q.settings.kill)
  let e := if q.feedEnable ∧ (byVoltage ∨ q.tripCount = 2) then e.feedKill byVoltage else e
  if q.derate = false ∧ q.lowCount = 5 then e.enterDerate
  else if q.derate ∧ q.recoveryCount = 100 then e.leaveDerate
  else e

/-- The 1 ms pool sample (R64): recorded in CONFIG and RUN, judged in RUN. The voltage is a 16-bit number of mV (DESIGN
CHOICE, log entry 48). -/
def Ev.poolSample (e : Ev) (voltage : Half) : Ev :=
  e.onExpiry e.pool.sampleTimer fun e =>
    let e := e.updPool fun q =>
      { q with sampleMv := voltage.toNat, sampleMa := e.summedCurrent
               sampleTimer := some (e.time + Config.millisecond) }
    if e.link.opState = .run then e.judgePool else e

end Sys2Proof.Machine
end

