-- ==== Sys2Proof/Machine/MeterEvents.lean ====
section
/-! DEFINITION. The cable meter and the break analyser's events (08, 09): shots, distance, the FULL measurement, the
timebase, the judgement of a measurement and the end of a diagnosis, the flex window. -/

namespace Sys2Proof.Machine

/-! ## Distance (R152) -/

/-- A distance in cm with its OVER_RANGE flag, for an echo tick, a timebase and a velocity factor (R152). -/
def distanceOf (t1 : Nat) (b : Timebase) (velocity : Nat) : Nat × Bool :=
  let d := roundHalfUp ((t1 - b.t0) * b.p * velocity * 29979) 2000000000
  if 9999 < d then (9999, true) else (d, false)

/-! ## Shots (R146) -/

/-- The polarity of a deviation (R146). -/
def polarityOf (d : Int) : Polarity := if d < 0 then .negative else .positive

/-- The signed deviation of greatest magnitude in a window; between +m and -m of one magnitude the choice is free (R146,
log entry 11). -/
def amplitudeOf (window : List Int) : Int :=
  let m := window.foldl (fun a d => max a d.natAbs) 0
  if window.contains (m : Int) then
    if window.contains (-(m : Int)) && Config.tieTakesNegative window then -(m : Int) else (m : Int)
  else -(m : Int)

/-- The echo of a shot at a threshold in per mille: the first tick of at least that magnitude, if any (R146). Ticks are
counted from 1; the window runs over 16 ticks and not beyond tick 4095. -/
def shotEcho (threshold : Nat) (samples : Samples) : Option Echo :=
  let s := samples.take 4095
  match s.findIdx? fun d => decide (threshold ≤ d.natAbs) with
  | none => none
  | some i => some { t1 := i + 1, polarity := polarityOf (s.getD i 0), amplitude := amplitudeOf ((s.drop i).take 16) }

/-! ## The FULL measurement (R148) -/

/-- The result of a FULL measurement: the echo with its distance, or NO_ECHO; the number of echoing shots; UNCALIBRATED
(R148). -/
structure FullResult where
  echo : Option (Echo × Nat × Bool)
  echoing : Nat
  uncalibrated : Bool
  deriving DecidableEq, Repr

/-- An element takes its place in a rising list, behind equal ones. -/
def insertTick (n : Nat) : List Nat → List Nat
  | [] => [n]
  | x :: xs => if x ≤ n then x :: insertTick n xs else n :: x :: xs

/-- The echo times sorted (R148). -/
def sortTicks (l : List Nat) : List Nat := l.foldl (fun acc n => insertTick n acc) []

/-- The echo time of three or four echoing shots: the floor of the mean of the middle two, the median counted twice with
three (R148). -/
def combinedTick (times : List Nat) : Nat :=
  let s := sortTicks times
  if s.length = 3 then s.getD 1 0 else (s.getD 1 0 + s.getD 2 0) / 2

/-- The echoing shot with the smallest echo time, among equal times the earlier (R148). -/
def firstEcho : List Echo → Option Echo
  | [] => none
  | x :: xs =>
      match firstEcho xs with
      | none => some x
      | some y => some (if x.t1 ≤ y.t1 then x else y)

/-- The polarity held by more of the echoing shots; in a tie that of the first echo (R148). -/
def combinedPolarity (l : List Echo) : Polarity :=
  let pos := (l.filter fun x => decide (x.polarity = .positive)).length
  let neg := (l.filter fun x => decide (x.polarity = .negative)).length
  if neg < pos then .positive else if pos < neg then .negative
  else match firstEcho l with | some x => x.polarity | none => .positive

/-- The mean of the amplitudes of one polarity, truncated toward zero (R148). -/
def combinedAmplitude (l : List Echo) (pol : Polarity) : Int :=
  let a := (l.filter fun x => decide (x.polarity = pol)).map Echo.amplitude
  a.sum.tdiv a.length

/-- The result of a FULL shot: its echo at the threshold of 100 per mille, or none for NO_ECHO (R146). -/
def fullShot (samples : Samples) : Option Echo := shotEcho 100 samples

/-- The results of four FULL shots combined (R148). -/
def combineShots (shots : List (Option Echo)) (b : Timebase) (velocity : Nat) : FullResult :=
  let echoes := shots.filterMap id
  if echoes.length < 3 then { echo := none, echoing := echoes.length, uncalibrated := !b.valid }
  else
    let pol := combinedPolarity echoes
    let x : Echo := { t1 := combinedTick (echoes.map Echo.t1), polarity := pol, amplitude := combinedAmplitude echoes pol }
    let d := distanceOf x.t1 b velocity
    { echo := some (x, d.1, d.2), echoing := echoes.length, uncalibrated := !b.valid }

/-! ## Calibration (R150, R151) -/

/-- The cause of a calibration's outcome (R150). -/
def calibrationCause (n loop : Nat) : TimebaseCause :=
  if n = 0 then .noReference
  else if n = 4095 then .overflow
  else if n < 960 ∨ 1600 < n then .outOfRange
  else if 255 < loop then .loopOverflow
  else .noCause

/-- The timebase record a calibration leaves (R150): the tick count stops at 4095, the loop count above 255. -/
def calibrate (ticks loopTicks now : Nat) : Timebase :=
  let n := min ticks 4095
  let loop := min loopTicks 256
  let cause := calibrationCause n loop
  { p := if cause = .noCause then roundHalfUp 160000 n else Config.nominalTick
    t0 := if 255 < loop then 0 else loop
    valid := decide (cause = .noCause)
    cause := cause, n := n, loopCount := loop, everCompleted := true
    ageTimer := some (now + Config.calibrationAge), completedAt := some now }

/-- A calibration completes: its record and its counter (R150, R159). -/
def Ev.recordCalibration (e : Ev) (ticks loop : Nat) : Ev :=
  let t := calibrate ticks loop e.time
  (e.updMeter fun m => { m with timebase := t }).countMeter fun c =>
    if t.valid then { c with calValid := bump c.calValid } else { c with calInvalid := bump c.calInvalid }

/-- The measurement's calibration completes (R149, R150): the meter is released, or the four shots begin at once. -/
def Ev.calibrationDone (e : Ev) (ticks loop : Nat) : Ev :=
  match e.meter.holder with
  | some (.calibration, d) =>
      (((e.reach d).recordCalibration ticks loop).updMeter fun m => { m with holder := none }).push .meter
  | some (.full p led true shots, d) =>
      let e := (e.reach d).recordCalibration ticks loop
      (e.updMeter fun m =>
        { m with holder := some (.full p led false shots, e.time + Config.fullMeasurementTime) }).setDiag p .measuring
  | some (.full _ _ false _, _) => e
  | some (.live _, _) => e
  | none => e

/-- The age timer (R151). -/
def Ev.calibrationAged (e : Ev) : Ev :=
  e.onExpiry e.meter.timebase.ageTimer fun e =>
    e.updMeter fun m => { m with timebase := { m.timebase with ageTimer := none } }

/-! ## LIVE results (R147, R164) -/

/-- Whether a LIVE echo qualifies for the flex record: no echo baseline, or below its end tick less 8 (R164). -/
def Cable.qualifies (c : Cable) (t1 : Nat) : Bool :=
  match c.echoBase with
  | none => true
  | some b => decide (t1 + 8 < b.tEnd)

/-- The nearest echo kept: a smaller tick replaces it (R164). -/
def FlexRecord.nearer (f : FlexRecord) (x : NearestEcho) : Option NearestEcho :=
  match f.nearest with
  | none => some x
  | some y => if x.t1 < y.t1 then some x else some y

/-- A LIVE result is kept in the flex record (R164); its counts stop at their maximum (DEDUCED, log entry 56). -/
def Cable.keepLive (c : Cable) (echo : Option NearestEcho) : Cable :=
  match echo with
  | none => { c with flex := { c.flex with taken := bump c.flex.taken } }
  | some x =>
      { c with flex := { c.flex with taken := bump c.flex.taken, echoing := bump c.flex.echoing
                                     nearest := if c.qualifies x.t1 then c.flex.nearer x else c.flex.nearest } }

/-- The echo of a LIVE shot with its distance and flags (R147, R152). -/
def State.liveEcho (s : State) (p : PortId) (shot : Samples) : Option NearestEcho :=
  (shotEcho 200 shot).map fun x =>
    let d := distanceOf x.t1 s.meter.timebase (s.kindOf p).velocity
    { t1 := x.t1, distance := d.1, polarity := x.polarity, overRange := d.2, uncalibrated := !s.meter.timebase.valid }

/-- A LIVE shot completes (R147). -/
def Ev.liveDone (e : Ev) (shot : Samples) : Ev :=
  match e.meter.holder with
  | some (.live p, d) =>
      let e := e.reach d
      let echo := e.liveEcho p shot
      let e := (e.updMeter fun m => { m with holder := none }).countMeter fun c =>
        { c with liveTaken := bump c.liveTaken, liveEcho := if echo.isSome then bump c.liveEcho else c.liveEcho }
      let e := if (e.port p).feed.power = .full then e.updCable p fun c => c.keepLive echo else e
      e.push .meter
  | some (.full .., _) => e
  | some (.calibration, _) => e
  | none => e

/-! ## Judging a FULL measurement (R172, R173) -/

/-- Kind, distance, polarity and flags of a judgement. -/
structure Judgement where
  kind : FindingKind
  distance : Option Nat
  polarity : Option Polarity
  flags : FindingFlags
  deriving DecidableEq, Repr

/-- The finding of a break: OPEN for a positive echo, SHORT for a negative one (R172). -/
def breakKind (p : Polarity) : FindingKind :=
  match p with
  | .positive => .openBreak
  | .negative => .short

/-- A FULL result classified against the echo part of the baseline (R172). -/
def judge (r : FullResult) (base : Option EchoBase) : Judgement :=
  match r.echo, base with
  | none, _ =>
      { kind := .noBreak, distance := none, polarity := none
        flags := { noEcho := true, noBaseline := base.isNone, uncalibrated := r.uncalibrated } }
  | some (x, d, far), none =>
      { kind := .unjudged, distance := some d, polarity := some x.polarity
        flags := { noBaseline := true, overRange := far, uncalibrated := r.uncalibrated } }
  | some (x, d, far), some b =>
      if x.t1 + 8 < b.tEnd then
        { kind := breakKind x.polarity, distance := some d, polarity := some x.polarity
          flags := { overRange := far, uncalibrated := r.uncalibrated } }
      else if b.tEnd + 8 < x.t1 then
        { kind := .noBreak, distance := none, polarity := none
          flags := { mismatch := true, uncalibrated := r.uncalibrated } }
      else if x.polarity = b.polarity ∧ (x.amplitude - b.amplitude).natAbs ≤ 150 then
        { kind := .noBreak, distance := none, polarity := none, flags := { uncalibrated := r.uncalibrated } }
      else
        { kind := breakKind x.polarity, distance := some d, polarity := some x.polarity
          flags := { atEnd := true, overRange := far, uncalibrated := r.uncalibrated } }

/-- The outcome of a finding: LOCKOUT for OPEN or SHORT without AT_END, else RETRY (R173). -/
def Judgement.outcome (j : Judgement) : DiagOutcome :=
  if (j.kind = .openBreak ∨ j.kind = .short) ∧ j.flags.atEnd = false then .lockout else .retry

/-- A finding of now. -/
def Ev.writeJudgement (e : Ev) (p : PortId) (j : Judgement) (source : FindingSource) : Ev :=
  e.writeFinding (e.newFinding p j.kind j.distance j.polarity source j.flags none)

/-- The outcome carried out at a DIAGNOSING port (R43). -/
def Ev.applyOutcome (e : Ev) (p : PortId) (o : DiagOutcome) : Ev :=
  match o with
  | .lockout => e.setPower p .lockedOut .diagnosisEnd
  | .retry =>
      let dest := (e.port p).feed.retryTarget
      (e.setPower p dest .diagnosisEnd).updFeed p fun f => f.retried e.time
  | .none => e

/-- The end of a diagnosis that is no learn (R173). -/
def Ev.endDiagnosis (e : Ev) (p : PortId) (purpose : Purpose) (r : FullResult) : Ev :=
  let j := judge r (e.port p).cable.echoBase
  let e := (e.writeJudgement p j .diagnosis).countCable p fun c => { c with completed := bump c.completed }
  let outcome := if (e.port p).feed.power = .diagnosing then j.outcome else .none
  let e := (e.leaveDiagnosis p).applyOutcome p outcome
  e.offer (.diagnosisEnd p (.judged purpose j.kind j.distance j.polarity j.flags r.echoing outcome))

/-- The echo part a learn stores (R154, R156). -/
def learnedBase (x : Echo) (d : Nat) (far : Bool) (uncalibrated : Bool) : EchoBase :=
  { tEnd := x.t1, polarity := x.polarity, amplitude := x.amplitude, length := d, overRange := far
    uncalibrated := uncalibrated }

/-- A learn's result stored, or the baseline kept (R156). -/
def Ev.storeLearn (e : Ev) (p : PortId) (r : FullResult) : Ev :=
  match r.echo with
  | some (x, d, far) =>
      (e.updCable p fun c =>
        { c with echoBase := some (learnedBase x d far r.uncalibrated), resistanceBase := none }).countMeter fun c =>
        { c with learnsStored := bump c.learnsStored }
  | none => e.countMeter fun c => { c with learnsFailed := bump c.learnsFailed }

/-- What the DIAGNOSIS_END notice of a learn carries (R156). -/
def learnReport (r : FullResult) : DiagnosisReport :=
  match r.echo with
  | some (x, d, far) => .learned r.echoing (learnedBase x d far r.uncalibrated)
  | none => .learnFailed r.echoing

/-- The finding of a learn: NONE, without distance or polarity (R173). -/
def learnJudgement (r : FullResult) : Judgement :=
  { kind := .noBreak, distance := none, polarity := none
    flags := { noEcho := r.echo.isNone, uncalibrated := r.uncalibrated
               overRange := match r.echo with | some (_, _, far) => far | none => false } }

/-- The end of a learn (R156, R173): a port that became DIAGNOSING meanwhile goes through the check of R31 again.
DEDUCED: log entry 44. -/
def Ev.endLearn (e : Ev) (p : PortId) (r : FullResult) : Ev :=
  let e := ((e.storeLearn p r).writeJudgement p (learnJudgement r) .learn).countCable p fun c =>
    { c with completed := bump c.completed }
  let e := e.leaveDiagnosis p
  let e := if (e.port p).feed.power = .diagnosing then e.probeCheck p .diagnosisEnd else e
  e.offer (.diagnosisEnd p (learnReport r))

/-- The break analyser takes the result of a completed FULL measurement for the port's entry (R173); the next entry
becomes the head. -/
def Ev.endMeasured (e : Ev) (p : PortId) (r : FullResult) : Ev :=
  match e.breaks.queue.find? fun x => decide (x.port = p) with
  | none => e
  | some x =>
      (match x.purpose with
        | .learn => e.endLearn p r
        | .reaction k => e.endDiagnosis p (.reaction k) r
        | .host => e.endDiagnosis p .host r
        | .forced => e.endDiagnosis p .forced r).becomeHead

/-- The fourth shot completes (R149): the meter is released and the break analyser judges the combined result. -/
def Ev.fullComplete (e : Ev) (p : PortId) (shots : List (Option Echo)) : Ev :=
  let r := combineShots shots e.meter.timebase (e.kindOf p).velocity
  (((e.updMeter fun m => { m with holder := none }).countMeter fun c =>
    { c with fullCompleted := bump c.fullCompleted
             fullNoEcho := if r.echo.isNone then bump c.fullNoEcho else c.fullNoEcho }).push .meter).endMeasured p r

/-- Shots of the FULL measurement end, each 1 ms after the one before it (R145): their results join those taken so far
(R143), and with the fourth the measurement completes (R149). DESIGN CHOICE: log entry 15. -/
def Ev.fullShots (e : Ev) (samples : List Samples) : Ev :=
  match e.meter.holder with
  | some (.full p led false taken, d) =>
      let shots := (taken ++ samples.map fullShot).take 4
      if shots.length < 4 then
        (e.reach (d - (4 - shots.length) * Config.shotTime)).updMeter fun m =>
          { m with holder := some (.full p led false shots, d) }
      else (e.reach d).fullComplete p shots
  | some (.full _ _ true _, _) => e
  | some (.live _, _) => e
  | some (.calibration, _) => e
  | none => e

/-- The discharge timer of the head (R171). -/
def Ev.dischargeEnd (e : Ev) : Ev :=
  e.onExpiry e.breaks.dischargeTimer fun e =>
    let e := e.updBreaks fun b => { b with dischargeTimer := none }
    match e.breaks.queue with
    | [] => e
    | h :: _ => e.offerFull h.port

/-! ## The flex window (R162, R165) -/

/-- The score of a window (R162). -/
def FlexRecord.score (f : FlexRecord) : Nat := 4 * f.lockLosses + f.crcBad

/-- The INTERMITTENT finding of a window (R165). -/
def State.flexFinding (s : State) (p : PortId) (f : FlexRecord) : Finding :=
  match f.nearest with
  | some x =>
      s.newFinding p .intermittent (some x.distance) (some x.polarity) .flex
        { overRange := x.overRange, uncalibrated := x.uncalibrated } none
  | none => s.newFinding p .intermittent none none .flex {} none

/-- The flex window expires (R165): judged, cleared and begun anew; at the threshold a finding and its fault. -/
def Ev.flexEnd (e : Ev) (p : PortId) : Ev :=
  e.onExpiry (e.port p).cable.flexTimer fun e =>
    let f := (e.port p).cable.flex
    let far := decide ((e.port p).feed.settings.flexThreshold ≤ f.score)
    let e := (e.updCable p fun c => { c with flex := {}, flexTimer := some (e.time + Config.flexTime) }).countCable p fun c =>
      { c with judged := bump c.judged, overThreshold := if far then bump c.overThreshold else c.overThreshold }
    if far then (e.writeFinding (e.flexFinding p f)).raiseFault p .intermittent else e

end Sys2Proof.Machine
end

