-- ==== Sys2Proof/Machine/Reports.lean ====
section
/-! DEFINITION. The payloads of the reading requests. READ_PORT, READ_FINDINGS and IDENTIFY follow the layouts of R191 and
R193; READ_HUB, READ_POOL, READ_CABLE and READ_COUNTERS follow the general rule of R190 (DEDUCED, log entry 9). -/

namespace Sys2Proof.Machine

/-! ## IDENTIFY (R186, R191) -/

/-- The IDENTIFY payload. -/
def State.identifyBytes (s : State) : List Byte :=
  be2 Config.productCode ++ [Config.hardwareStep] ++ be1 8 ++ be1 s.link.opState.code ++ flagByte s.link.failure
    ++ be4 s.usClock.toNat ++ be4 s.msClock.toNat

/-! ## READ_HUB (R73, R130, R134, R186, R189) -/

/-- A pin source's settings (R73). -/
def PinSource.bytes (x : PinSource) : List Byte := be1 x.edge.code ++ be2 x.holdoff

/-- The counters of a source (R73). -/
def SourceCounters.bytes (c : SourceCounters) : List Byte := be4 c.accepted ++ be4 c.suppressed ++ be4 c.soft

/-- The router's settings, map, tag counter and counters (R73). -/
def Router.bytes (r : Router) : List Byte :=
  r.pins.toList.flatMap PinSource.bytes ++ be4 r.period ++ r.map.toList ++ be2 r.tagCounter.toNat
    ++ r.counters.toList.flatMap SourceCounters.bytes

/-- The members of an output group (R130). -/
def State.groupMembers (s : State) (g : OutputGroup) : List PortId :=
  allPorts.filter fun p => decide ((s.port p).feed.settings.outputGroup = g)

/-- A list of ports as a payload carries it (R190). -/
def portList (l : List PortId) : List Byte := listField (fun p : PortId => be1 p.val) l

/-- The packet in transmission: port, slot, kind (R127); absent when idle. The slot's number is a free value (log
entry 10) of the slot the transmission recorded at its start. -/
def State.sendingBytes (s : State) : List Byte :=
  match s.output.sending with
  | none => [0xFF, 0xFF, 0xFF]
  | some t =>
      be1 t.port.val ++ [Config.slotNumber t.port.val (if t.reserve then none else some t.egress.toNat)]
        ++ be1 t.packet.kind.code

/-- The counters of the output port (R134). -/
def OutputCounters.bytes (c : OutputCounters) : List Byte :=
  be4 c.sent ++ be4 c.trailers ++ be4 c.damaged ++ be4 c.flushed ++ be4 c.highGrants ++ be4 c.lowGrants
    ++ be4 c.heldWithWork

/-- The control link counters (R189). -/
def LinkCounters.bytes (c : LinkCounters) : List Byte :=
  be4 c.tooLong ++ be4 c.mutilated ++ be4 c.crcBad ++ be4 c.taken ++ be4 c.dropped ++ be4 c.badRequest
    ++ be4 c.repliesSent ++ be4 c.noticesSent ++ be4 c.resent ++ be4 c.masked ++ be4 c.lost

/-- What READ_HUB reports of the control link (R186). -/
def State.linkBytes (s : State) : List Byte :=
  be1 s.link.opState.code ++ flagByte s.link.failure ++ flagByte s.link.frameRejected ++ flagByte s.link.requestDropped
    ++ flagByte s.link.noticesLost ++ be2 s.link.mask.toNat ++ be1 s.link.written.length ++ be1 s.relay.length
    ++ be1 s.freeReplies ++ be1 s.link.notices.length ++ s.link.counters.bytes

/-- The READ_HUB payload. The membership of the groups is two counted port lists, HIGH and then LOW (R130; DESIGN CHOICE,
log entry 62). -/
def State.hubBytes (s : State) : List Byte :=
  s.router.bytes ++ be1 s.output.highPtr.val ++ be1 s.output.lowPtr.val ++ portList (s.groupMembers .high)
    ++ portList (s.groupMembers .low) ++ s.sendingBytes ++ s.output.counters.bytes ++ s.linkBytes

/-! ## READ_POOL (R71) -/

/-- An infeasible record (R51, R71). -/
def infeasibleBytes : Option (RequestType × Stage) → List Byte
  | none => [0xFF, 0xFF]
  | some (t, st) => be1 t.code ++ be1 st.code

/-- What READ_POOL reports of a port. -/
def PoolPort.bytes (q : PoolPort) : List Byte :=
  be4 q.allocation ++ be4 q.base ++ be4 q.surcharge ++ opt4 (q.rUsed.map Prod.fst)
    ++ opt1 (q.rUsed.map fun r => r.2.code) ++ infeasibleBytes q.infeasible

/-- An admission entry as READ_POOL reports it. -/
def AdmissionEntry.bytes (x : AdmissionEntry) : List Byte :=
  be1 x.port.val ++ be1 x.type.code ++ be4 x.amount ++ be1 x.priority

/-- The pool counters (R71). -/
def PoolCounters.bytes (c : PoolCounters) : List Byte :=
  be4 c.bootAdmissions ++ be4 c.fullAdmissions ++ be4 c.surchargeAdmissions ++ be4 c.infeasible ++ be4 c.derates
    ++ be4 c.sheds ++ be4 c.killsVoltage ++ be4 c.killsCurrent ++ be4 c.restoresRefused

/-- The READ_POOL payload. -/
def State.poolBytes (s : State) : List Byte :=
  let q := s.pool
  be4 q.settings.budget ++ be2 q.settings.vPool ++ be2 q.settings.derate ++ be2 q.settings.kill ++ be2 q.settings.trip
    ++ flagByte q.derate ++ flagByte q.feedEnable ++ be4 q.effectiveBudget ++ be4 s.allocationSum
    ++ be4 (q.effectiveBudget - s.allocationSum) ++ be4 q.sampleMv ++ be4 q.sampleMa
    ++ s.ports.toList.flatMap (fun x => x.pool.bytes) ++ listField AdmissionEntry.bytes q.queue ++ portList q.admitted
    ++ q.counters.bytes

/-! ## READ_CABLE (R159, R178) -/

/-- The meter state's code: IDLE, CALIBRATING, LIVE_SHOT, FULL_MEASURING (R143). -/
def Meter.stateCode (m : Meter) : Nat :=
  match m.holder with
  | none => 0
  | some (.calibration, _) => 1
  | some (.full _ _ true _, _) => 1
  | some (.live _, _) => 2
  | some (.full _ _ false _, _) => 3

/-- The measurement in progress: kind, port, origin, each absent where there is none (R143, R159). The kind is 0 for a
calibration, 1 for LIVE and 2 for FULL, also where a calibration leads it (R145; DESIGN CHOICE, log entry 60). -/
def Meter.holderBytes (m : Meter) : List Byte :=
  match m.holder with
  | none => [0xFF, 0xFF, 0xFF]
  | some (.calibration, _) => be1 0 ++ [0xFF] ++ be1 0
  | some (.live p, _) => be1 1 ++ be1 p.val ++ be1 1
  | some (.full p _ _ _, _) => be1 2 ++ be1 p.val ++ be1 2

/-- The timebase record (R150) with the age timer's time left and the time since the last completed calibration (R159),
both in milliseconds (DESIGN CHOICE, log entry 59) and rounded down (DEDUCED, log entry 33). -/
def Timebase.bytes (t : Timebase) (now : Nat) : List Byte :=
  be1 t.p ++ be1 t.t0 ++ flagByte t.valid ++ be1 t.cause.code ++ be2 t.n ++ be2 t.loopCount ++ flagByte t.everCompleted
    ++ opt4 (t.ageTimer.map fun d => (d - now) / 1000) ++ opt4 (t.completedAt.map fun c => (now - c) / 1000)

/-- A cable kind (R153). -/
def CableKind.bytes (k : CableKind) : List Byte := be2 k.velocity ++ be2 k.loop ++ be2 k.connector

/-- The meter counters (R159). -/
def MeterCounters.bytes (c : MeterCounters) : List Byte :=
  be4 c.calValid ++ be4 c.calInvalid ++ be4 c.liveTaken ++ be4 c.liveEcho ++ be4 c.liveReplaced ++ be4 c.liveSkipped
    ++ be4 c.liveCut ++ be4 c.fullCut ++ be4 c.calCut ++ be4 c.fullCompleted ++ be4 c.fullNoEcho ++ be4 c.learnsStored
    ++ be4 c.learnsFailed

/-- The hub-wide part of R159. -/
def State.meterBytes (s : State) : List Byte :=
  let m := s.meter
  be1 m.stateCode ++ m.holderBytes ++ flagByte m.pendingCal ++ portList (allPorts.filter fun p => m.livePlaces.get p)
    ++ opt1 (m.offered.map fun p => p.val) ++ be1 m.livePtr.val ++ m.timebase.bytes s.time
    ++ s.kinds.toList.flatMap CableKind.bytes ++ m.counters.bytes

/-- The echo part of a baseline, or its absence (R154); its polarity by the code of a finding's (R193; DEDUCED, log
entry 9). -/
def echoBaseBytes : Option EchoBase → List Byte
  | none => be2 0xFFFF ++ be1 0 ++ be2 0xFFFF ++ be2 0xFFFF ++ [0xFF, 0xFF]
  | some b => be2 b.tEnd ++ be1 (polarityCode (some b.polarity)) ++ beInt2 b.amplitude ++ be2 b.length ++ b.flagBytes

/-- The port's part of R159. -/
def Port.cableBytes (x : Port) : List Byte :=
  be1 x.feed.settings.cableKind.val ++ be2 x.feed.settings.declaredLength ++ echoBaseBytes x.cable.echoBase
    ++ opt4 x.cable.resistanceBase ++ be1 x.cable.resistanceCount ++ be4 x.cable.resistanceSum ++ opt4 x.cable.filtered
    ++ be4 x.cable.samplesTaken

/-- The nearest echo of a flex record: distance, polarity by the code of a finding's, flags (R160, R193; DEDUCED, log
entry 9). Its tick t1 is not sent (DESIGN CHOICE, log entry 61). -/
def nearestBytes : Option NearestEcho → List Byte
  | none => be2 0xFFFF ++ be1 0 ++ [0xFF, 0xFF]
  | some x => be2 x.distance ++ be1 (polarityCode (some x.polarity)) ++ flagByte x.overRange ++ flagByte x.uncalibrated

/-- The flex record with its score and the time left in the window (R178), in milliseconds (DESIGN CHOICE, log entry 59).
-/
def Cable.flexBytes (c : Cable) (now : Nat) : List Byte :=
  be2 c.flex.lockLosses ++ be2 c.flex.crcBad ++ be4 c.flex.taken ++ be4 c.flex.echoing ++ nearestBytes c.flex.nearest
    ++ be4 c.flex.score ++ opt4 (c.flexTimer.map fun d => (d - now) / 1000)

/-- The purpose and place of a port in the diagnosis queue (R178); the head's place is 0 (DEDUCED, log entry 9). -/
def Breaks.placeBytes (b : Breaks) (p : PortId) : List Byte :=
  match b.queue.findIdx? fun x => decide (x.port = p) with
  | none => [0xFF, 0xFF, 0xFF]
  | some i => (match b.queue[i]? with | some x => x.purpose.bytes | none => [0xFF, 0xFF]) ++ be1 i

/-- An entry of the diagnosis queue (R169, R178). -/
def DiagEntry.bytes (x : DiagEntry) : List Byte := be1 x.port.val ++ x.purpose.bytes ++ be4 x.joined.toNat

/-- What R178 adds to READ_CABLE. -/
def State.breakBytes (s : State) (p : PortId) : List Byte :=
  let c := (s.port p).cable
  be1 c.diag.code ++ s.breaks.placeBytes p ++ c.flexBytes s.time ++ be1 c.allowance ++ flagByte c.driftArmed
    ++ latestBytes c.latest ++ listField DiagEntry.bytes s.breaks.queue ++ be4 s.breaks.coalesced
    ++ be4 s.breaks.overwrites

/-- The READ_CABLE payload. -/
def State.cableBytes (s : State) (p : PortId) : List Byte := s.meterBytes ++ (s.port p).cableBytes ++ s.breakBytes p

/-! ## READ_FINDINGS (R177, R193) -/

/-- The entries from an offset, newest first, at most count of them. -/
def Breaks.page (b : Breaks) (offset count : Nat) : List Finding := (b.findings.reverse.drop offset).take count

/-- The READ_FINDINGS payload. -/
def Breaks.findingsBytes (b : Breaks) (offset count : Nat) : List Byte :=
  be1 b.findings.length ++ listField Finding.bytes (b.page offset count)

/-! ## READ_PORT (R193) -/

/-- The port flags byte (R193). -/
def Port.flags (x : Port) : Nat :=
  flagBit x.feed.enabled 1 + flagBit x.feed.hold 2 + flagBit x.tether.cameraId.isSome 4
    + flagBit (!x.capture.program.isEmpty) 8 + flagBit x.capture.staged.isSome 16
    + flagBit (match x.lens.lastTarget with | some q => x.lens.holds q | none => false) 32
    + flagBit (match x.lens.reported with | some r => r.2 | none => false) 64 + flagBit x.ingress.reserveOccupied 128

/-- The backoff time left in ms, 0 outside BACKOFF (R49). -/
def Feed.backoffLeft (f : Feed) (now : Nat) : Nat := if f.power = .backoff then timeLeft now f.backoffTimer / 1000 else 0

/-- The feed group (R193). -/
def Port.feedBytes (x : Port) (now : Nat) : List Byte :=
  be1 x.feed.power.code ++ be1 x.flags ++ be1 x.feed.retry ++ be4 (x.feed.backoffLeft now) ++ be2 x.feed.limit
    ++ be2 x.feed.lastSample.toNat ++ be4 x.pool.allocation

/-- The link group (R193): a camera id of 0 with a clear presence flag means absent (R190). -/
def Tether.bytes (t : Tether) : List Byte := be1 t.link.code ++ be4 (match t.cameraId with | some i => i.toNat | none => 0)

/-- The time left to the deadline of a sent lens packet in ms; 0xFFFF while it is not sent, and once its answer has taken
it from the table (R108, R193): an access that bears the same down tag by then is no lens packet. -/
def Port.moveLeft (x : Port) (now : Nat) : List Byte :=
  match x.lens.move with
  | none => be2 0xFFFF
  | some m =>
      match x.tether.outstanding.find? fun o => o.kind.isLens && decide (some o.tag = m.downTag) with
      | none => be2 0xFFFF
      | some o => be2 ((o.deadline - now) / 1000)

/-- The move fields (R193); absent with no move record. -/
def Move.bytes : Option Move → List Byte
  | none => be1 0 ++ [0xFF, 0xFF, 0xFF, 0xFF]
  | some m =>
      be1 m.kind.code ++ be1 m.origin.code ++ be1 (presetCode m.target) ++ be1 m.attempt
        ++ opt1 (m.downTag.map BitVec.toNat)

/-- The lens group (R193). -/
def Port.lensBytes (x : Port) (now : Nat) : List Byte :=
  be1 x.lens.kind.code ++ be1 x.lens.state.code ++ Move.bytes x.lens.move ++ x.moveLeft now
    ++ be1 (presetCode x.lens.want) ++ positionBytes x.lens.held ++ be1 (presetCode x.lens.lastTarget)
    ++ positionBytes (x.lens.reported.map Prod.fst) ++ opt2 (x.lens.lastCode.map BitVec.toNat)

/-- The exposure record (R193): tag, step, preset, marks, time left. -/
def exposureBytes (now : Nat) : Option Exposure → List Byte
  | none => be2 0xFFFF ++ [0xFF, 0xFF] ++ be1 0 ++ be4 0xFFFFFFFF
  | some r =>
      be2 r.tag.toNat ++ be1 r.step.code ++ be1 (presetCode r.preset)
        ++ be1 (flagBit r.invalid 1 + flagBit r.unreferenced 2 + 128) ++ be4 (r.deadline - now)

/-- A pending entry (R193). -/
def PendingTrigger.bytes (now : Nat) (t : PendingTrigger) : List Byte :=
  be2 t.tag.toNat ++ be1 t.source.index.val ++ be1 t.step.code ++ be1 (presetCode t.preset) ++ flagByte t.invalid
    ++ be4 (now - t.arrival)

/-- The capture group (R193). -/
def Capture.bytes (c : Capture) (now : Nat) : List Byte :=
  be1 c.program.length ++ be1 c.cursor ++ be1 (presetCode c.want) ++ exposureBytes now c.exposure
    ++ listField (PendingTrigger.bytes now) c.queue

/-- The frame fields of the ingress group (R193); absent outside OPEN. -/
def frameBytes : FrameRecord → List Byte
  | .empty => be1 0 ++ be2 0xFFFF ++ be2 0xFFFF ++ [0xFF, 0xFF] ++ be2 0xFFFF ++ be2 0xFFFF ++ be2 0xFFFF
  | .discarding => be1 2 ++ be2 0xFFFF ++ be2 0xFFFF ++ [0xFF, 0xFF] ++ be2 0xFFFF ++ be2 0xFFFF ++ be2 0xFFFF
  | .openFrame f =>
      be1 1 ++ be2 f.number.toNat ++ opt2 (f.trigger.map fun t => t.1.toNat)
        ++ opt1 (f.trigger.map fun t => t.2.index.val) ++ be1 f.flags.byte ++ be2 f.received ++ be2 f.lost
        ++ be2 f.damaged

/-- The ingress group (R193). -/
def Port.ingressBytes (x : Port) : List Byte :=
  frameBytes x.ingress.record ++ [x.ingress.expected] ++ be4 x.ingress.ingressCount.toNat
    ++ be4 x.ingress.egressCount.toNat ++ be1 (x.ingress.queue.filter fun s => !s.reserve).length
    ++ be1 x.feed.settings.damagedPolicy.code

/-- A relay entry (R142, R193). -/
def RelayEntry.bytes (egress : Word) (r : RelayEntry) : List Byte :=
  be2 r.hostTag.toNat ++ be1 r.kind.code ++ be2 r.param.toNat
    ++ (match r.stage with
        | .queued => be1 0 ++ [r.downTag] ++ be4 0 ++ be1 0
        | .sent => be1 1 ++ [r.downTag] ++ be4 0 ++ be1 0
        | .held _ _ w _ => be1 2 ++ [r.downTag] ++ be4 w.toNat ++ be1 (w - egress).toNat)

/-- The port status record (R193). The relay entries go out in the order of the hub's relay list: hand-in order, an entry
moved to the end when its answer arrives (DESIGN CHOICE, log entry 63). -/
def State.portBytes (s : State) (p : PortId) : List Byte :=
  let x := s.port p
  x.feedBytes s.time ++ x.tether.bytes ++ x.lensBytes s.time ++ x.capture.bytes s.time ++ x.ingressBytes
    ++ listField (RelayEntry.bytes x.ingress.egressCount) (s.relay.filter fun r => decide (r.port = p))

/-! ## READ_COUNTERS (R26, R49, R81, R108, R125, R142, R178) -/

/-- The counters of R26. -/
def TetherCounters.values (c : TetherCounters) : List Nat :=
  [c.good, c.aborted, c.mutilated, c.tooLong, c.crcBad, c.overrun, c.unknownKind, c.repeatedHello, c.lockLosses,
    c.unmatched, c.timeouts, c.wakeSent, c.creditSent]

/-- The counters of R49. -/
def FeedCounters.values (c : FeedCounters) : List Nat :=
  [c.probes, c.probeShort, c.probeOpen, c.probeInvalid, c.probeValid, c.classClamped, c.bootOverloads, c.overcurrents,
    c.noLoadFaults, c.undervoltFaults, c.feedCuts, c.retries, c.lockouts]

/-- The counters of R81. -/
def CaptureCounters.values (c : CaptureCounters) : List Nat :=
  [c.accepted, c.dispatched, c.unavailable, c.overrun, c.stale, c.lensFault, c.disabled, c.missed, c.closed,
    c.untriggered, c.tagMismatch, c.silent]

/-- The counters of R108. -/
def LensCounters.values (c : LensCounters) : List Nat :=
  [c.moves, c.homes, c.offTarget, c.stalls, c.timeouts, c.abandoned, c.hostGoto, c.hostHome, c.busyIdle]

/-- The counters of R125. -/
def IngressCounters.values (c : IngressCounters) : List Nat :=
  [c.opened, c.completed, c.truncated, c.trailersLost, c.discarded, c.discardedPackets, c.orphans, c.damagedDropped,
    c.damagedForwarded, c.linesLost, c.sequenceFaults, c.flushed]

/-- The counters of R142. -/
def RelayCounters.values (c : RelayCounters) : List Nat :=
  [c.taken, c.refused, c.done, c.cameraError, c.timeout, c.aborted, c.held]

/-- The counters of R178. -/
def BreakCounters.values (c : BreakCounters) : List Nat :=
  c.faults.toList ++ [c.judged, c.overThreshold, c.liveRequested, c.drifts, c.completed, c.aborted, c.findings]

/-- Every counter READ_COUNTERS reports, in order of rule number (R190). -/
def Port.counterValues (x : Port) : List Nat :=
  x.tether.counters.values ++ x.feed.counters.values ++ x.capture.counters.values ++ x.lens.counters.values
    ++ x.ingress.counters.values ++ x.relay.values ++ x.cable.counters.values

/-- The READ_COUNTERS payload. -/
def Port.counterBytes (x : Port) : List Byte := x.counterValues.flatMap be4

/-- Every counter of a port set to 0 (R26). -/
def Port.clearCounters (x : Port) : Port :=
  { x with
    tether := { x.tether with counters := {} }
    feed := { x.feed with counters := {} }
    capture := { x.capture with counters := {} }
    lens := { x.lens with counters := {} }
    ingress := { x.ingress with counters := {} }
    relay := {}
    cable := { x.cable with counters := {} } }

end Sys2Proof.Machine
end

