-- ==== Sys2Proof/Machine/Intake.lean ====
section
/-! DEFINITION. How a SOUND request frame is taken (R181): operating state, reply room, port field; and the reply its
owning rule writes (R182). -/

namespace Sys2Proof.Machine

/-- What an owning rule answers: the status and the payload of its reply. -/
structure Answer where
  status : Status
  payload : List Byte := []
  deriving DecidableEq, Repr

/-- The reply of a request (R182, R183): its kind code, host tag and port field. -/
def replyOf (code : Byte) (h : ReqHeader) (a : Answer) : Reply :=
  { code := code, tag := h.tag, port := h.port, status := a.status, payload := a.payload }

/-- The answer is written as the request's reply. -/
def Ev.respond (code : Byte) (h : ReqHeader) (r : Ev × Answer) : Ev := r.1.writeReply (replyOf code h r.2)

/-- DONE without a payload. -/
def answerDone (e : Ev) : Ev × Answer := (e, { status := .done })

/-- A refusal or an error, without a payload (R191). -/
def answerOnly (status : Status) (e : Ev) : Ev × Answer := (e, { status := status })

/-- DONE, or ADJUSTED where a value was clamped or replaced (R181). -/
def adjustedIf (adjusted : Bool) : Status := if adjusted then .adjusted else .done

/-- The kind code of IDENTIFY (R194). -/
def identifyCode : Byte := 0x01

/-- Whether the operating state and the reply room let a request be taken (R181, steps 1 and 2). -/
def State.mayTake (s : State) (code : Byte) : Bool :=
  (match s.link.opState with
    | .init => false
    | .halted => decide (code = identifyCode)
    | .config => true
    | .run => true)
    && decide (0 < s.freeReplies)

/-- A request that is not taken: no effect and no reply, the request-dropped flag and its counter (R181). -/
def State.dropRequest (s : State) : State :=
  { s with link := { s.link.setDropped with counters := { s.link.counters with dropped := bump s.link.counters.dropped } } }

/-- The counter of requests taken (R181, R189). -/
def Ev.countTaken (e : Ev) : Ev := e.countLink fun c => { c with taken := bump c.taken }

/-- A SOUND frame of a known kind is judged (R181): dropped, or taken and carried out in one event. No frame arrives
while nRESET is asserted (R189). DEDUCED: log entry 6. -/
def State.takeRequest (s : State) (code : Byte) (act : Ev → Ev) : State :=
  if s.nreset then s
  else if s.mayTake code then s.event fun e => act e.countTaken
  else s.dropRequest

/-- A request that acts on the hub (R181): its port field is ignored. -/
def State.hubRequest (s : State) (code : Byte) (h : ReqHeader) (body : Ev → Ev × Answer) : State :=
  s.takeRequest code fun e => Ev.respond code h (body e)

/-- A request that names a port (R181, step 5): any other port field gives BAD_ARGUMENT. -/
def State.portRequest (s : State) (code : Byte) (h : ReqHeader) (body : PortId → Ev → Ev × Answer) : State :=
  s.hubRequest code h fun e =>
    match portOf h.port with
    | some p => body p e
    | none => answerOnly .badArgument e

end Sys2Proof.Machine
end

