-- ==== Sys2Proof/Machine/HubRequests.lean ====
section
/-! DEFINITION. The requests of the hub as a whole (10): IDENTIFY, RESTART, ENTER_RUN, ENTER_CONFIG, READ_HUB,
SET_NOTICE_MASK. -/

namespace Sys2Proof.Machine

/-! ## IDENTIFY, READ_HUB, SET_NOTICE_MASK -/

/-- IDENTIFY (R186). -/
def State.identify (s : State) (h : ReqHeader) : State :=
  s.hubRequest identifyCode h fun e => (e, { status := .done, payload := e.identifyBytes })

/-- READ_HUB (R186). -/
def State.readHub (s : State) (h : ReqHeader) : State :=
  s.hubRequest 0x05 h fun e => (e, { status := .done, payload := e.hubBytes })

/-- SET_NOTICE_MASK writes the whole mask; bits 9 to 15 are ignored (R184, R194). -/
def State.setNoticeMask (s : State) (h : ReqHeader) (mask : Half) : State :=
  s.hubRequest 0x06 h fun e => answerDone (e.updLink fun l => { l with mask := mask.setWidth 9 })

/-! ## ENTER_RUN (R187) -/

/-- The three sample counts return to 0 (R72, R187). -/
def Pool.clearCounts (q : Pool) : Pool := { q with lowCount := 0, recoveryCount := 0, tripCount := 0 }

/-- The period timer starts when the period is not 0 (R75). -/
def Router.startPeriod (r : Router) (now : Nat) : Router :=
  { r with periodTimer := if r.period = 0 then none else some (now + r.period) }

/-- The step into RUN (R187, steps 1 to 3). -/
def Ev.enterRun (e : Ev) : Ev :=
  let e := ((e.updLink fun l => { l with opState := .run }).updPool Pool.clearCounts).updRouter fun r =>
    r.startPeriod e.time
  (allPorts.filter fun p => (e.port p).feed.enabled).foldl (fun y p => y.probeCheck p .enable) e

/-- ENTER_RUN (R187). -/
def State.enterRun (s : State) (h : ReqHeader) : State :=
  s.hubRequest 0x03 h fun e =>
    if e.link.opState = .run then answerDone e
    else if e.pool.settings.budget = 0 then answerOnly .badConfig e
    else answerDone e.enterRun

/-! ## ENTER_CONFIG (R188) -/

/-- The pool on leaving RUN (R72, R188, step 1). -/
def Pool.enterConfig (q : Pool) : Pool := { q.clearCounts with derate := false }

/-- The router's timers stop (R73). -/
def Router.stopTimers (r : Router) : Router :=
  { r with periodTimer := none, pins := r.pins.map fun x => { x with timer := none } }

/-- The values R50 returns to reset when ENTER_CONFIG disables a port. -/
def Feed.enterConfig (f : Feed) : Feed :=
  { f with retry := 0, invalidCount := 0, hold := false, noLoad := {}, underVolt := {}, overCount := 0 }

/-- A port becomes DISABLED under ENTER_CONFIG (R188, step 4; R50, R91, R124). -/
def Ev.configPort (e : Ev) (p : PortId) : Ev :=
  let e := if (e.port p).feed.power.feedOn then e.feedCut p .disabled .config .down .silent
    else ((((e.endOffPhase p).setPower p .disabled .config).lensAbsent p).cutCapture p .silent false).relayAbort p
  ((e.updFeed p Feed.enterConfig).ingressLinkLost p).flush p

/-- Every diagnosis is aborted in queue order (R174). -/
def Ev.abortAll : Nat → Ev → Ev
  | 0, e => e
  | k + 1, e =>
      match e.breaks.queue with
      | [] => e
      | h :: _ => Ev.abortAll k (e.abortDiagnosis h.port)

/-- What is left of a LIVE shot and of the requests at the meter (R143). -/
def Meter.enterConfig (m : Meter) : Meter :=
  { m with livePlaces := Vector.replicate 8 false, offered := none }

/-- The step into CONFIG (R188, steps 1 to 5). -/
def Ev.enterConfig (e : Ev) : Ev :=
  let e := ((e.updLink fun l => { l with opState := .config }).updPool Pool.enterConfig).updRouter Router.stopTimers
  let e := (Ev.abortAll 8 e).updMeter Meter.enterConfig
  (allPorts.foldl Ev.configPort e).updPool fun q => q.setQueue []

/-- ENTER_CONFIG (R187, R188). -/
def State.enterConfig (s : State) (h : ReqHeader) : State :=
  s.hubRequest 0x04 h fun e =>
    if e.link.opState = .run then answerDone e.enterConfig else answerDone e

/-! ## RESTART (R189) -/

/-- A port after a soft reset: hard-reset values, but for the cable baseline and the latest finding; both moments of R50
are the moment of the reset. -/
def Port.softReset (x : Port) (now : Nat) : Port :=
  { feed := { lastCut := some now, lastProbeEnd := some now }
    cable := { echoBase := x.cable.echoBase, resistanceBase := x.cable.resistanceBase, latest := x.cable.latest } }

/-- The meter after a soft reset: the timebase and a calibration in progress stay (R143, R145, R151). -/
def Meter.softReset (m : Meter) : Meter :=
  { timebase := m.timebase
    holder := match m.holder with
      | some (.calibration, d) => some (.calibration, d)
      | some (.live _, _) => none
      | some (.full .., _) => none
      | none => none }

/-- The output port after a soft reset: a transmission in progress completes, its slot already freed by the flush
(R133). DEDUCED: log entry 41. -/
def Output.softReset (o : Output) : Output :=
  { holdPin := o.holdPin, sending := o.sending.map fun t => { t with flushed := true } }

/-- The hub after a soft reset (R189): hard-reset values but for the cable knowledge, in CONFIG, both clocks at 0, both
queues empty. Everything the teardown of R188 would write, offer or count is lost with what the reset empties. -/
def State.softReset (s : State) : State :=
  { s with
    epoch := s.time
    selfCheck := none
    ports := s.ports.map fun x => x.softReset s.time
    pool := { sampleTimer := s.pool.sampleTimer }
    router := {}
    output := s.output.softReset
    relay := []
    meter := s.meter.softReset
    breaks := { findings := s.breaks.findings }
    link := { opState := .config, sdo := s.link.sdo } }

/-- RESTART (R189): the reply DONE is the only entry of the reply queue. -/
def State.restart (s : State) (h : ReqHeader) : State :=
  if s.nreset then s
  else if s.mayTake 0x02 then
    { s.softReset with link := { s.softReset.link with written := [replyOf 0x02 h { status := .done }] } }
  else s.dropRequest

/-! ## The meanings -/

/-- IDENTIFY. -/
def execIdentify (h : ReqHeader) (s : State) : Host.Outcome State Fault Refusal := .next (s.identify h)

/-- RESTART. -/
def execRestart (h : ReqHeader) (s : State) : Host.Outcome State Fault Refusal := .next (s.restart h)

/-- ENTER_RUN. -/
def execEnterRun (h : ReqHeader) (s : State) : Host.Outcome State Fault Refusal := .next (s.enterRun h)

/-- ENTER_CONFIG. -/
def execEnterConfig (h : ReqHeader) (s : State) : Host.Outcome State Fault Refusal := .next (s.enterConfig h)

/-- READ_HUB. -/
def execReadHub (h : ReqHeader) (s : State) : Host.Outcome State Fault Refusal := .next (s.readHub h)

/-- SET_NOTICE_MASK. -/
def execSetNoticeMask (h : ReqHeader) (mask : Half) (s : State) : Host.Outcome State Fault Refusal :=
  .next (s.setNoticeMask h mask)

end Sys2Proof.Machine
end

