-- ==== Sys2Proof/Machine/PoolRequests.lean ====
section
/-! DEFINITION. The requests of the pool manager (03): SET_POOL, READ_POOL, FEED_RESTORE. -/

namespace Sys2Proof.Machine

/-! ## SET_POOL (R52) -/

/-- The five settings as SET_POOL writes them, each named one clamped, and whether one was clamped (R52). -/
def PoolSettings.write (q : PoolSettings) (f : SetPoolFields) : PoolSettings × Bool :=
  let b := takeField (named f.mask 0) 0 120000 f.budget.toNat q.budget
  let v := takeField (named f.mask 1) 12000 48000 f.vPool.toNat q.vPool
  let d := takeField (named f.mask 2) 9500 48000 f.derate.toNat q.derate
  let k := takeField (named f.mask 3) 9000 47500 f.kill.toNat q.kill
  let t := takeField (named f.mask 4) 100 10000 f.trip.toNat q.trip
  ({ budget := b.1, vPool := v.1, derate := d.1, kill := k.1, trip := t.1 }, b.2 || v.2 || d.2 || k.2 || t.2)

/-- The thresholds held apart: the kill threshold is at most the derate threshold less 500 mV (R52). -/
def PoolSettings.separate (q : PoolSettings) : PoolSettings × Bool :=
  if q.derate - 500 < q.kill then ({ q with kill := q.derate - 500 }, true) else (q, false)

/-- A written V_pool below a port's V_min brings that V_min down (R48, R52). -/
def Port.capVMin (x : Port) (vPool : Nat) : Port :=
  { x with feed := { x.feed with settings := { x.feed.settings with vMin := min x.feed.settings.vMin vPool } } }

/-- SET_POOL in CONFIG (R52). DEDUCED: log entry 43. -/
def Ev.setPool (e : Ev) (f : SetPoolFields) : Ev × Answer :=
  let w := e.pool.settings.write f
  let x := w.1.separate
  let capped := named f.mask 1 && e.ports.any fun y => decide (x.1.vPool < y.feed.settings.vMin)
  let e := e.updPool fun q => { q with settings := x.1 }
  let e : Ev := if named f.mask 1 then { e with ports := e.ports.map fun y => y.capVMin x.1.vPool } else e
  (e, { status := adjustedIf (w.2 || x.2 || capped) })

/-- SET_POOL (R52, R187). -/
def State.setPool (s : State) (h : ReqHeader) (f : SetPoolFields) : State :=
  s.hubRequest 0x10 h fun e => if e.link.opState = .run then answerOnly .refusedState e else e.setPool f

/-- READ_POOL (R71). -/
def State.readPool (s : State) (h : ReqHeader) : State :=
  s.hubRequest 0x11 h fun e => (e, { status := .done, payload := e.poolBytes })

/-! ## FEED_RESTORE (R69) -/

/-- The latest sample meets the kill condition (R69). -/
def Pool.killPresent (q : Pool) : Bool :=
  decide (q.sampleMv < q.settings.kill) || decide (q.settings.trip < q.sampleMa)

/-- The global feed enable is set again and every POOL_HALT port goes through the check of R31 (R45, R69). -/
def Ev.feedRestore (e : Ev) : Ev :=
  let ports := allPorts.filter fun p => decide ((e.port p).feed.power = .poolHalt)
  (ports.foldl (fun y p => y.probeCheck p .restore) (e.updPool fun q => { q with feedEnable := true })).offerPool
    .restored ports

/-- FEED_RESTORE (R69). -/
def State.feedRestore (s : State) (h : ReqHeader) : State :=
  s.hubRequest 0x12 h fun e =>
    if e.pool.killPresent then
      answerOnly .refusedState (e.countPool fun c => { c with restoresRefused := bump c.restoresRefused })
    else if e.pool.feedEnable then answerDone e
    else answerDone e.feedRestore

/-! ## The meanings -/

/-- SET_POOL. -/
def execSetPool (h : ReqHeader) (f : SetPoolFields) (s : State) : Host.Outcome State Fault Refusal := .next (s.setPool h f)

/-- READ_POOL. -/
def execReadPool (h : ReqHeader) (s : State) : Host.Outcome State Fault Refusal := .next (s.readPool h)

/-- FEED_RESTORE. -/
def execFeedRestore (h : ReqHeader) (s : State) : Host.Outcome State Fault Refusal := .next (s.feedRestore h)

end Sys2Proof.Machine
end

