-- ==== Sys2Proof/Machine/CableRequests.lean ====
section
/-! DEFINITION. The requests of the cable meter and the break analyser (08, 09): SET_CABLE_KIND, CALIBRATE, CABLE_LEARN,
DIAGNOSE, READ_CABLE, READ_FINDINGS, CLEAR_FINDINGS. -/

namespace Sys2Proof.Machine

/-- A cable kind with its named fields written and clamped (R153). -/
def CableKind.write (k : CableKind) (f : SetCableKindFields) : CableKind × Bool :=
  let v := takeField (named f.mask 0) 500 990 f.velocity.toNat k.velocity
  let l := takeField (named f.mask 1) 1 2000 f.loop.toNat k.loop
  let c := takeField (named f.mask 2) 0 5000 f.connector.toNat k.connector
  ({ velocity := v.1, loop := l.1, connector := c.1 }, v.2 || l.2 || c.2)

/-- SET_CABLE_KIND of an index (R153): refused in RUN. -/
def Ev.setCableKind (e : Ev) (i : Fin 8) (f : SetCableKindFields) : Ev × Answer :=
  if e.link.opState = .run then answerOnly .refusedState e
  else
    let w := (e.kinds.get i).write f
    ({ e with kinds := e.kinds.set i.val w.1 i.isLt }, { status := adjustedIf w.2 })

/-- SET_CABLE_KIND (R153). -/
def State.setCableKind (s : State) (h : ReqHeader) (f : SetCableKindFields) : State :=
  s.hubRequest 0x20 h fun e =>
    match cableKindOf f.index with
    | none => answerOnly .badArgument e
    | some i => e.setCableKind i f

/-- CALIBRATE sets the pending calibration flag (R144, R151). -/
def State.calibrate (s : State) (h : ReqHeader) : State :=
  s.hubRequest 0x21 h fun e => answerDone ((e.updMeter fun m => { m with pendingCal := true }).push .meter)

/-- Whether a CABLE_LEARN in RUN finds the feed side free: DISABLED or LOCKED_OUT (R155). -/
def PowerState.learnable (p : PowerState) : Bool := decide (p = .disabled) || decide (p = .lockedOut)

/-- CABLE_LEARN of a port (R155). -/
def Ev.cableLearn (p : PortId) (e : Ev) : Ev × Answer :=
  if e.link.opState = .run ∧ (e.port p).feed.power.learnable = false then answerOnly .refusedState e
  else if (e.port p).cable.diag ≠ .clear then answerOnly .refusedBusy e
  else answerDone (e.joinDiagnosis p .learn .diagnose)

/-- CABLE_LEARN (R155). -/
def State.cableLearn (s : State) (h : ReqHeader) : State := s.portRequest 0x22 h Ev.cableLearn

/-- DIAGNOSE of a port (R170); bit 0 of the options is FORCE (R194). -/
def Ev.diagnose (options : Byte) (p : PortId) (e : Ev) : Ev × Answer :=
  let fed := (e.port p).feed.power.feedOn
  if (e.port p).cable.diag ≠ .clear then answerOnly .refusedBusy e
  else if fed ∧ named options 0 = false then answerOnly .refusedState e
  else answerDone (e.joinDiagnosis p (if fed then .forced else .host) .diagnose)

/-- DIAGNOSE (R170). -/
def State.diagnose (s : State) (h : ReqHeader) (options : Byte) : State := s.portRequest 0x23 h (Ev.diagnose options)

/-- READ_CABLE (R159, R178). -/
def State.readCable (s : State) (h : ReqHeader) : State :=
  s.portRequest 0x24 h fun p e => (e, { status := .done, payload := e.cableBytes p })

/-- READ_FINDINGS (R177): a count of 0 becomes 1 and one above 8 becomes 8. -/
def State.readFindings (s : State) (h : ReqHeader) (offset count : Byte) : State :=
  s.hubRequest 0x25 h fun e =>
    let n := takeField true 1 8 count.toNat 1
    (e, { status := adjustedIf n.2, payload := e.breaks.findingsBytes offset.toNat n.1 })

/-- The history and every latest finding emptied (R177). -/
def Ev.clearFindings (e : Ev) : Ev :=
  let e := e.updBreaks fun b => { b with findings := [] }
  { e with ports := e.ports.map fun x => { x with cable := { x.cable with latest := none } } }

/-- CLEAR_FINDINGS (R177). -/
def State.clearFindings (s : State) (h : ReqHeader) : State := s.hubRequest 0x26 h fun e => answerDone e.clearFindings

/-! ## The meanings -/

/-- SET_CABLE_KIND. -/
def execSetCableKind (h : ReqHeader) (f : SetCableKindFields) (s : State) : Host.Outcome State Fault Refusal :=
  .next (s.setCableKind h f)

/-- CALIBRATE. -/
def execCalibrate (h : ReqHeader) (s : State) : Host.Outcome State Fault Refusal := .next (s.calibrate h)

/-- CABLE_LEARN. -/
def execCableLearn (h : ReqHeader) (s : State) : Host.Outcome State Fault Refusal := .next (s.cableLearn h)

/-- DIAGNOSE. -/
def execDiagnose (h : ReqHeader) (options : Byte) (s : State) : Host.Outcome State Fault Refusal :=
  .next (s.diagnose h options)

/-- READ_CABLE. -/
def execReadCable (h : ReqHeader) (s : State) : Host.Outcome State Fault Refusal := .next (s.readCable h)

/-- READ_FINDINGS. -/
def execReadFindings (h : ReqHeader) (offset count : Byte) (s : State) : Host.Outcome State Fault Refusal :=
  .next (s.readFindings h offset count)

/-- CLEAR_FINDINGS. -/
def execClearFindings (h : ReqHeader) (s : State) : Host.Outcome State Fault Refusal := .next (s.clearFindings h)

end Sys2Proof.Machine
end

