-- ==== Sys2Proof/Machine/PortRequests.lean ====
section
/-! DEFINITION. The requests that name a port (02, 09, 11): SET_PORT, SET_REACTION, PORT_ENABLE, PORT_DISABLE,
PORT_RELEASE, READ_PORT, READ_COUNTERS. -/

namespace Sys2Proof.Machine

/-! ## SET_PORT (R48) -/

/-- A structural error of SET_PORT: a named field that holds no member of its list (R48, R194). -/
def setPortBad (f : SetPortFields) : Bool :=
  badMember (named f.mask 1) (cableKindOf f.cableKind) || badMember (named f.mask 6) (damagedPolicyOf f.damagedPolicy)
    || badMember (named f.mask 7) (onOffOf f.autoHome) || badMember (named f.mask 12) (outputGroupOf f.outputGroup)

/-- A setting that RUN locks is named: cable kind, declared length, V_min, lens power, retry limit (R48, R187). -/
def setPortLocked (f : SetPortFields) : Bool :=
  named f.mask 1 || named f.mask 2 || named f.mask 3 || named f.mask 4 || named f.mask 5

/-- The settings after SET_PORT and whether a value was clamped; V_min is clamped against V_pool (R48). -/
def PortSettings.write (x : PortSettings) (f : SetPortFields) (vPool : Nat) : PortSettings × Bool :=
  let pr := takeField (named f.mask 0) 0 3 f.priority.toNat x.priority
  let dl := takeField (named f.mask 2) 0 9999 f.declaredLength.toNat x.declaredLength
  let vm := takeField (named f.mask 3) 9000 vPool f.vMin.toNat x.vMin
  let lp := takeField (named f.mask 4) 0 5000 f.lensPower.toNat x.lensPower
  let rl := takeField (named f.mask 5) 0 7 f.retryLimit.toNat x.retryLimit
  let ft := takeField (named f.mask 8) 1 255 f.flexThreshold.toNat x.flexThreshold
  let dr := takeField (named f.mask 9) 5 100 f.drift.toNat x.drift
  let ex := takeField (named f.mask 10) 1 1000000 f.defaultExposure.toNat x.defaultExposure
  let hl := takeField (named f.mask 11) 0 10000 f.holdLimit.toNat x.holdLimit
  ({ priority := pr.1
     cableKind := takeMember (named f.mask 1) (cableKindOf f.cableKind) x.cableKind
     declaredLength := dl.1, vMin := vm.1, lensPower := lp.1, retryLimit := rl.1
     damagedPolicy := takeMember (named f.mask 6) (damagedPolicyOf f.damagedPolicy) x.damagedPolicy
     autoHome := takeMember (named f.mask 7) (onOffOf f.autoHome) x.autoHome
     flexThreshold := ft.1, drift := dr.1, defaultExposure := ex.1, holdLimit := hl.1
     outputGroup := takeMember (named f.mask 12) (outputGroupOf f.outputGroup) x.outputGroup },
    pr.2 || dl.2 || vm.2 || lp.2 || rl.2 || ft.2 || dr.2 || ex.2 || hl.2)

/-- SET_PORT of a port (R48); a changed priority re-sorts the port's admission entry (R62). -/
def Ev.setPort (f : SetPortFields) (p : PortId) (e : Ev) : Ev × Answer :=
  if setPortBad f then answerOnly .badArgument e
  else if e.link.opState = .run ∧ setPortLocked f then answerOnly .refusedState e
  else
    let old := (e.port p).feed.settings
    let w := old.write f e.pool.settings.vPool
    let e := e.updFeed p fun x => { x with settings := w.1 }
    let e := if w.1.priority = old.priority then e else e.resortEntry p w.1.priority
    (e, { status := adjustedIf w.2 })

/-- SET_PORT (R48). -/
def State.setPort (s : State) (h : ReqHeader) (f : SetPortFields) : State := s.portRequest 0x30 h (Ev.setPort f)

/-! ## SET_REACTION (R167) -/

/-- SET_REACTION of a port: a reaction the kind does not allow is replaced by the kind's default (R167). -/
def Ev.setReaction (kind reaction : Byte) (p : PortId) (e : Ev) : Ev × Answer :=
  match faultKindOf kind, reactionOf reaction with
  | some k, some r =>
      let allowed := k.allowed.contains r
      let r := if allowed then r else defaultReactions.get k.index
      (e.updCable p fun c => { c with reactions := c.reactions.set k.index.val r k.index.isLt },
        { status := adjustedIf !allowed })
  | some _, none => answerOnly .badArgument e
  | none, _ => answerOnly .badArgument e

/-- SET_REACTION (R167). -/
def State.setReaction (s : State) (h : ReqHeader) (kind reaction : Byte) : State :=
  s.portRequest 0x31 h (Ev.setReaction kind reaction)

/-! ## PORT_ENABLE, PORT_DISABLE, PORT_RELEASE (R31, R46, R47) -/

/-- PORT_ENABLE of a port (R31). -/
def Ev.portEnable (p : PortId) (e : Ev) : Ev × Answer :=
  if e.link.opState = .run then
    if (e.port p).feed.power = .disabled then
      answerDone ((e.updFeed p fun f => { f with enabled := true }).probeCheck p .enable)
    else answerDone e
  else answerDone (e.updFeed p fun f => { f with enabled := true })

/-- PORT_ENABLE (R31). -/
def State.portEnable (s : State) (h : ReqHeader) : State := s.portRequest 0x32 h Ev.portEnable

/-- Step 1 of PORT_DISABLE: the feed is cut, or its neighbours are told (R46). -/
def Ev.disableFeed (e : Ev) (p : PortId) : Ev :=
  if (e.port p).feed.power.feedOn then e.feedCut p .disabled .disable .down (.drop .disabled)
  else ((e.lensAbsent p).cutCapture p (.drop .disabled) false).relayAbort p

/-- What PORT_DISABLE returns to 0 in the feed controller (R46, step 6). -/
def Feed.disabled (f : Feed) : Feed := { f with retry := 0, invalidCount := 0, hold := false }

/-- PORT_DISABLE of a port that is not DISABLED (R46). A feed cut has made the port DISABLED and offered its
POWER_CHANGE ahead of the teardown's notices (R29); without one the power state changes last (step 7). -/
def Ev.disablePort (e : Ev) (p : PortId) : Ev :=
  let e := (((e.disableFeed p).dropEntry p).endOffPhase p).ingressLinkLost p
  let e := ((e.flush p).abortDiagnosis p).updFeed p Feed.disabled
  if (e.port p).feed.power = .disabled then e else e.setPower p .disabled .disable

/-- PORT_DISABLE of a port (R46); at a DISABLED port only the enabled flag and a diagnosis end. -/
def Ev.portDisable (p : PortId) (e : Ev) : Ev × Answer :=
  let e := e.updFeed p fun f => { f with enabled := false }
  if (e.port p).feed.power = .disabled then answerDone (e.abortDiagnosis p) else answerDone (e.disablePort p)

/-- PORT_DISABLE (R46). -/
def State.portDisable (s : State) (h : ReqHeader) : State := s.portRequest 0x33 h Ev.portDisable

/-- PORT_RELEASE of a port (R47): clearing HOLD lets a waiting lens packet go and examines the queue head (R42). -/
def Ev.portRelease (p : PortId) (e : Ev) : Ev × Answer :=
  if (e.port p).feed.power = .lockedOut then
    answerDone ((e.updFeed p fun f => { f with retry := 0 }).probeCheck p .release)
  else if (e.port p).feed.hold then
    answerDone (((e.setHold p false .release).push (.handIn p)).push (.examine p))
  else answerDone e

/-- PORT_RELEASE (R47). -/
def State.portRelease (s : State) (h : ReqHeader) : State := s.portRequest 0x34 h Ev.portRelease

/-! ## READ_PORT, READ_COUNTERS -/

/-- READ_PORT (R49, R193). -/
def State.readPort (s : State) (h : ReqHeader) : State :=
  s.portRequest 0x35 h fun p e => (e, { status := .done, payload := e.portBytes p })

/-- READ_COUNTERS of a port (R26): with the clear option the counters are 0 after the reply has captured them. -/
def Ev.readCounters (clear : Byte) (p : PortId) (e : Ev) : Ev × Answer :=
  (if clear = 0 then e else e.updPort p Port.clearCounters, { status := .done, payload := (e.port p).counterBytes })

/-- READ_COUNTERS (R26). -/
def State.readCounters (s : State) (h : ReqHeader) (clear : Byte) : State := s.portRequest 0x36 h (Ev.readCounters clear)

/-! ## The meanings -/

/-- SET_PORT. -/
def execSetPort (h : ReqHeader) (f : SetPortFields) (s : State) : Host.Outcome State Fault Refusal := .next (s.setPort h f)

/-- SET_REACTION. -/
def execSetReaction (h : ReqHeader) (kind reaction : Byte) (s : State) : Host.Outcome State Fault Refusal :=
  .next (s.setReaction h kind reaction)

/-- PORT_ENABLE. -/
def execPortEnable (h : ReqHeader) (s : State) : Host.Outcome State Fault Refusal := .next (s.portEnable h)

/-- PORT_DISABLE. -/
def execPortDisable (h : ReqHeader) (s : State) : Host.Outcome State Fault Refusal := .next (s.portDisable h)

/-- PORT_RELEASE. -/
def execPortRelease (h : ReqHeader) (s : State) : Host.Outcome State Fault Refusal := .next (s.portRelease h)

/-- READ_PORT. -/
def execReadPort (h : ReqHeader) (s : State) : Host.Outcome State Fault Refusal := .next (s.readPort h)

/-- READ_COUNTERS. -/
def execReadCounters (h : ReqHeader) (clear : Byte) (s : State) : Host.Outcome State Fault Refusal :=
  .next (s.readCounters h clear)

end Sys2Proof.Machine
end

