-- ==== Sys2Proof/Machine/TriggerRequests.lean ====
section
/-! DEFINITION. The requests of trigger routing and capture programs (04): SET_SOURCE, TRIGGER, SET_PROGRAM. -/

namespace Sys2Proof.Machine

/-! ## SET_SOURCE (R77) -/

/-- A structural error of SET_SOURCE besides its source: an edge selection that names no member, an edge selection or
holdoff named for PERIOD, a period named for a pin source (R77). -/
def setSourceBad (f : SetSourceFields) (src : Source) : Bool :=
  badMember (named f.mask 0) (edgeOf f.edge)
    || (match src.pin? with
        | none => named f.mask 0 || named f.mask 1
        | some _ => named f.mask 2)

/-- A written period: 0 stays off, any other value lies in 100 to 10 000 000 microseconds (R73, R77). -/
def takePeriod (isNamed : Bool) (new old : Nat) : Nat × Bool :=
  if new = 0 then (if isNamed then 0 else old, false) else takeField isNamed 100 10000000 new old

/-- The settings of a pin source; a running holdoff timer runs to its own end (R74). -/
def PinSource.write (x : PinSource) (f : SetSourceFields) : PinSource × Bool :=
  let w := takeField (named f.mask 1) 0 65535 f.holdoff.toNat x.holdoff
  ({ x with edge := takeMember (named f.mask 0) (edgeOf f.edge) x.edge, holdoff := w.1 }, w.2)

/-- A nonzero period written in RUN while the period timer is stopped starts it with that period (R75). -/
def Router.writePeriod (r : Router) (isNamed run : Bool) (new now : Nat) : Router × Bool :=
  let w := takePeriod isNamed new r.period
  let start := isNamed && run && r.periodTimer.isNone && !decide (w.1 = 0)
  ({ r with period := w.1, periodTimer := if start then some (now + w.1) else r.periodTimer }, w.2)

/-- The port mask of a source (R77). -/
def Router.writeMap (r : Router) (f : SetSourceFields) (src : Source) : Router :=
  if named f.mask 3 then { r with map := r.map.set src.index.val f.portMask src.index.isLt } else r

/-- The router after SET_SOURCE of a source, and whether a value was clamped (R77). -/
def Router.writeSource (r : Router) (f : SetSourceFields) (src : Source) (run : Bool) (now : Nat) : Router × Bool :=
  match src.pin? with
  | some i =>
      let w := (r.pins.get i).write f
      ({ r with pins := r.pins.set i.val w.1 i.isLt }.writeMap f src, w.2)
  | none =>
      let w := r.writePeriod (named f.mask 2) run f.period.toNat now
      (w.1.writeMap f src, w.2)

/-- SET_SOURCE of a source (R77). -/
def Ev.setSource (e : Ev) (f : SetSourceFields) (src : Source) : Ev × Answer :=
  if setSourceBad f src then answerOnly .badArgument e
  else
    let w := e.router.writeSource f src (decide (e.link.opState = .run)) e.time
    (e.updRouter fun _ => w.1, { status := adjustedIf w.2 })

/-- SET_SOURCE (R77). -/
def State.setSource (s : State) (h : ReqHeader) (f : SetSourceFields) : State :=
  s.hubRequest 0x40 h fun e =>
    match sourceOf f.source with
    | none => answerOnly .badArgument e
    | some src => e.setSource f src

/-! ## TRIGGER (R76) -/

/-- A soft trigger of a source (R76). -/
def Ev.softTrigger (e : Ev) (src : Source) : Ev :=
  (e.updRouter fun r =>
    { r with counters := modifyAt r.counters src.index fun c => { c with soft := bump c.soft } }).giveTrigger src

/-- The tags n sources take from the tag counter on (R76, R78). -/
def consecutiveTags (first : Half) (n : Nat) : List Half := (List.range n).map fun k => first + BitVec.ofNat 16 k

/-- TRIGGER (R76): one trigger of each named source, in the order TRIG0 to PERIOD; the reply carries their tags. -/
def Ev.trigger (e : Ev) (mask : Byte) : Ev × Answer :=
  let sources := maskSources mask
  let tags := consecutiveTags e.router.tagCounter sources.length
  if mask = 0 ∨ 32 ≤ mask.toNat then answerOnly .badArgument e
  else if e.link.opState = .run then
    (sources.foldl Ev.softTrigger e, { status := .done, payload := listField (fun t : Half => be2 t.toNat) tags })
  else answerOnly .refusedState e

/-- TRIGGER (R76). -/
def State.trigger (s : State) (h : ReqHeader) (mask : Byte) : State := s.hubRequest 0x41 h fun e => e.trigger mask

/-! ## SET_PROGRAM (R83) -/

/-- The modes of SET_PROGRAM in the order of their codes (R194). -/
inductive ProgramMode
  | now | atWrap
  deriving DecidableEq, Repr

/-- The mode a byte names (R194). -/
def programModeOf : Byte → Option ProgramMode := memberOf [.now, .atWrap]

/-- A structural error of SET_PROGRAM (R83). -/
def setProgramBad (mode : Byte) (steps : List WireStep) : Bool :=
  (programModeOf mode).isNone || decide (8 < steps.length) || steps.any fun x => (stepPreset x.preset).isNone

/-- A step as written, its exposure clamped to 1 to 1 000 000 microseconds (R83). -/
def takeStep (x : WireStep) : ProgramStep :=
  { preset := (stepPreset x.preset).getD none, exposure := clampTo 1 1000000 x.exposure.toNat }

/-- Whether the exposure of a step is clamped (R83). -/
def stepClamped (x : WireStep) : Bool := !decide (clampTo 1 1000000 x.exposure.toNat = x.exposure.toNat)

/-- The capture sequencer after a program is written (R83). -/
def Capture.writeProgram (c : Capture) (mode : Option ProgramMode) (l : List ProgramStep) : Capture :=
  if mode = some .atWrap ∧ c.program ≠ [] then { c with staged := some l }
  else { c with program := l, cursor := 0, staged := none }

/-- SET_PROGRAM of a port (R83). -/
def Ev.setProgram (mode : Byte) (steps : List WireStep) (p : PortId) (e : Ev) : Ev × Answer :=
  if setProgramBad mode steps then answerOnly .badArgument e
  else
    (e.updCapture p fun c => c.writeProgram (programModeOf mode) (steps.map takeStep),
      { status := adjustedIf (steps.any stepClamped) })

/-- SET_PROGRAM (R83). -/
def State.setProgram (s : State) (h : ReqHeader) (mode : Byte) (steps : List WireStep) : State :=
  s.portRequest 0x42 h (Ev.setProgram mode steps)

/-! ## The meanings -/

/-- SET_SOURCE. -/
def execSetSource (h : ReqHeader) (f : SetSourceFields) (s : State) : Host.Outcome State Fault Refusal :=
  .next (s.setSource h f)

/-- TRIGGER. -/
def execTrigger (h : ReqHeader) (mask : Byte) (s : State) : Host.Outcome State Fault Refusal := .next (s.trigger h mask)

/-- SET_PROGRAM. -/
def execSetProgram (h : ReqHeader) (mode : Byte) (steps : List WireStep) (s : State) : Host.Outcome State Fault Refusal :=
  .next (s.setProgram h mode steps)

end Sys2Proof.Machine
end

