-- ==== Sys2Proof/Machine/LensRequests.lean ====
section
/-! DEFINITION. The requests of lens control and of the camera access relay (05, 07): SET_PRESET, LENS_GOTO, LENS_HOME,
CAM_ACCESS. -/

namespace Sys2Proof.Machine

/-! ## SET_PRESET (R94) -/

/-- A preset with its named fields written and clamped, and whether one was clamped (R94). -/
def Preset.write (q : Preset) (f : SetPresetFields) : Preset × Bool :=
  let fo := takeField (named f.mask 0) 0 4095 f.focus.toNat q.focus
  let ir := takeField (named f.mask 1) 0 255 f.iris.toNat q.iris
  let zo := takeField (named f.mask 2) 0 1023 f.zoom.toNat q.zoom
  let se := takeField (named f.mask 3) 0 100 f.settle.toNat q.settle
  let tl := takeField (named f.mask 4) 0 64 f.tolerance.toNat q.tolerance
  ({ focus := fo.1, iris := ir.1, zoom := zo.1, settle := se.1, tolerance := tl.1
     valid := if named f.mask 5 then !decide (f.valid = 0) else q.valid },
    fo.2 || ir.2 || zo.2 || se.2 || tl.2)

/-- SET_PRESET of a port (R94). -/
def Ev.setPreset (f : SetPresetFields) (p : PortId) (e : Ev) : Ev × Answer :=
  match presetOf f.index with
  | none => answerOnly .badArgument e
  | some q =>
      let w := ((e.port p).lens.presets.get q).write f
      (e.updLens p fun l => { l with presets := l.presets.set q.val w.1 q.isLt }, { status := adjustedIf w.2 })

/-- SET_PRESET (R94). -/
def State.setPreset (s : State) (h : ReqHeader) (f : SetPresetFields) : State := s.portRequest 0x50 h (Ev.setPreset f)

/-! ## Host lens requests (R105, R106) -/

/-- The state step of R105: the lens is ABSENT or HOLD is set. -/
def Port.lensRefused (x : Port) : Bool := decide (x.lens.state = .absent) || x.feed.hold

/-- The states in which a lens is busy (R105). -/
def LensState.busy : LensState → Bool
  | .moveWait => true | .homing => true | .moving => true | .settling => true
  | .absent => false | .unreferenced => false | .idle => false | .stalled => false

/-- The busy step of R105: a move exists, or a trigger is pending. -/
def Port.lensBusy (x : Port) : Bool := x.lens.state.busy || !x.capture.queue.isEmpty

/-- The answer of a taken host move: ABORTED when its surcharge request has cut the feed in this event (R105, R106). -/
def Ev.answerMove (e : Ev) (p : PortId) : Ev × Answer :=
  (e, { status := if (e.port p).lens.state = .absent then .aborted else .done })

/-- A LENS_GOTO is taken (R105, step 7). DEDUCED: log entry 45. -/
def Ev.takeGoto (e : Ev) (p : PortId) (q : PresetId) : Ev × Answer :=
  ((e.countLens p fun c => { c with hostGoto := bump c.hostGoto }).enterMoveWait p .move .host (some q)).answerMove p

/-- LENS_GOTO of a port, tested in the order of R105. -/
def Ev.lensGoto (preset : Byte) (p : PortId) (e : Ev) : Ev × Answer :=
  match presetOf preset with
  | none => answerOnly .badArgument e
  | some q =>
      let x := e.port p
      if x.lensRefused then answerOnly .refusedState e
      else if x.lensBusy then answerOnly .refusedBusy e
      else if x.lens.state ≠ .idle then answerOnly .refusedState e
      else if (x.lens.presets.get q).valid = false then answerOnly .badArgument e
      else if x.lens.holds q then answerDone (e.updLens p fun l => { l with lastTarget := some q })
      else e.takeGoto p q

/-- LENS_GOTO (R105). -/
def State.lensGoto (s : State) (h : ReqHeader) (preset : Byte) : State := s.portRequest 0x51 h (Ev.lensGoto preset)

/-- LENS_HOME of a port (R106). -/
def Ev.lensHome (p : PortId) (e : Ev) : Ev × Answer :=
  let x := e.port p
  if x.lensRefused then answerOnly .refusedState e
  else if x.lensBusy then answerOnly .refusedBusy e
  else
    ((e.countLens p fun c => { c with hostHome := bump c.hostHome }).enterMoveWait p .home .host none).answerMove p

/-- LENS_HOME (R106). -/
def State.lensHome (s : State) (h : ReqHeader) : State := s.portRequest 0x52 h Ev.lensHome

/-! ## CAM_ACCESS (R136, R137) -/

/-- The structure of a CAM_ACCESS: its port and kind, with a parameter of at most 4095 (R136). -/
def accessTarget (port : Byte) (f : CamAccessFields) : Option (PortId × AccessKind) :=
  match portOf port, accessKindOf f.kind with
  | some p, some k => if f.param.toNat ≤ 4095 then some (p, k) else none
  | some _, none => none
  | none, _ => none

/-- The entries of a port in QUEUED and SENT (R135). -/
def State.unanswered (s : State) (p : PortId) : Nat := (s.relay.filter fun r => r.waitsAt p).length

/-- The port lets no access through: not FULL, not UP, or HOLD set (R136). -/
def Port.accessRefused (x : Port) : Bool :=
  !decide (x.feed.power = .full) || !decide (x.tether.link = .up) || x.feed.hold

/-- The refusal of R136 after structure, if any: operating state, port state, limit. -/
def State.accessRefusal (s : State) (p : PortId) : Option Status :=
  if s.link.opState ≠ .run then some .refusedState
  else if (s.port p).accessRefused then some .refusedState
  else if 3 ≤ s.unanswered p then some .refusedBusy
  else none

/-- The packet of an access (R137). -/
def accessPacket (kind : AccessKind) (param : Half) (value : Word) (tag : Byte) : DownPacket :=
  match kind with
  | .read => .camRead tag param
  | .write => .camWrite tag param value

/-- The value an entry keeps: that of a WRITE (R135). -/
def accessValue (kind : AccessKind) (value : Word) : Word :=
  match kind with
  | .read => 0
  | .write => value

/-- A CAM_ACCESS is taken: an entry in QUEUED reserves the reply, and the packet is handed in (R137). -/
def Ev.takeAccess (e : Ev) (h : ReqHeader) (f : CamAccessFields) (p : PortId) (kind : AccessKind) : Ev :=
  let r : RelayEntry :=
    { port := p, hostTag := h.tag, portField := h.port, kind := kind, param := f.param
      value := accessValue kind f.value, downTag := (e.port p).tether.nextTag, stage := .queued }
  ((e.setRelay (e.relay ++ [r])).updRelay p fun c => { c with taken := bump c.taken }).handTagged p
    (accessPacket kind f.param f.value)

/-- The reply of a CAM_ACCESS that is not taken: its nine bytes carry the kind and parameter as received (R191). -/
def accessReply (h : ReqHeader) (f : CamAccessFields) (status : Status) : Reply :=
  { code := camAccessCode, tag := h.tag, port := h.port, status := status
    payload := accessPayload f.kind f.param 0 0 false }

/-- CAM_ACCESS in the request event (R136). -/
def Ev.camAccess (e : Ev) (h : ReqHeader) (f : CamAccessFields) : Ev :=
  match accessTarget h.port f with
  | none => e.writeReply (accessReply h f .badArgument)
  | some (p, kind) =>
      match e.accessRefusal p with
      | some status =>
          (e.updRelay p fun c => { c with refused := bump c.refused }).writeReply (accessReply h f status)
      | none => e.takeAccess h f p kind

/-- CAM_ACCESS (R136, R137). -/
def State.camAccess (s : State) (h : ReqHeader) (f : CamAccessFields) : State :=
  s.takeRequest camAccessCode fun e => e.camAccess h f

/-! ## The meanings -/

/-- SET_PRESET. -/
def execSetPreset (h : ReqHeader) (f : SetPresetFields) (s : State) : Host.Outcome State Fault Refusal :=
  .next (s.setPreset h f)

/-- LENS_GOTO. -/
def execLensGoto (h : ReqHeader) (preset : Byte) (s : State) : Host.Outcome State Fault Refusal :=
  .next (s.lensGoto h preset)

/-- LENS_HOME. -/
def execLensHome (h : ReqHeader) (s : State) : Host.Outcome State Fault Refusal := .next (s.lensHome h)

/-- CAM_ACCESS. -/
def execCamAccess (h : ReqHeader) (f : CamAccessFields) (s : State) : Host.Outcome State Fault Refusal :=
  .next (s.camAccess h f)

end Sys2Proof.Machine
end

