-- ==== Sys2Proof/Machine/ControlLink.lean ====
section
/-! DEFINITION. The control link (10): the start and the end of a transaction (R179 to R183), the request frames of R191
and R194, hard reset and self-check (R186, R189). -/

namespace Sys2Proof.Machine

/-! ## The start of a transaction (R183) -/

/-- The outgoing frame: the oldest written reply, else the oldest notice, else idle fill (R183). -/
def Link.choose (l : Link) : Chosen × List Byte :=
  match l.written, l.notices with
  | r :: _, _ => (.reply, r.frame)
  | [], n :: _ => (.notice, n.frame)
  | [], [] => (.idle, [])

/-- More-pending: a written reply or notice waits besides the frame chosen (R183). -/
def Link.morePending (l : Link) : Bool := decide (2 ≤ l.written.length + l.notices.length)

/-- The status byte of a transaction that starts now (R183, R191). -/
def Link.status (l : Link) : Byte :=
  statusByte l.opState l.frameRejected l.requestDropped l.noticesLost l.morePending

/-- The transaction that starts now (R183). -/
def Link.begin (l : Link) : Transaction :=
  { status := l.status, chosen := l.choose.1, frame := l.choose.2
    clearRejected := l.frameRejected, clearDropped := l.requestDropped, clearLost := l.noticesLost }

/-- TRANSACTION_START (R183): while nRESET is asserted SDO floats whatever nCS does (R189); a transaction in progress has
no second start. -/
def State.transactionStart (s : State) : State :=
  if s.nreset || s.link.transaction.isSome then s
  else { s with link := { s.link with transaction := some s.link.begin } }

/-! ## The end of a transaction: the outgoing frame (R179, R183) -/

/-- The bytes driven on SDO while n bytes were clocked: status byte, frame, idle fill (R183, R191). -/
def Transaction.sdo (t : Transaction) (n : Nat) : List Byte := (t.status :: t.frame ++ List.replicate n 0).take n

/-- Whether n bytes clocked the frame out whole (R183). -/
def Transaction.whole (t : Transaction) (n : Nat) : Bool := decide (t.frame.length + 1 ≤ n)

/-- The queues and the sent or resent counter after n bytes were clocked (R183). -/
def Link.settleFrame (l : Link) (t : Transaction) (n : Nat) : Link :=
  match t.chosen, t.whole n with
  | .idle, _ => l
  | .reply, true =>
      { l with written := l.written.tail, counters := { l.counters with repliesSent := bump l.counters.repliesSent } }
  | .notice, true =>
      { l with notices := l.notices.tail, counters := { l.counters with noticesSent := bump l.counters.noticesSent } }
  | .reply, false => { l with counters := { l.counters with resent := bump l.counters.resent } }
  | .notice, false => { l with counters := { l.counters with resent := bump l.counters.resent } }

/-- A status byte clocked out whole clears the flags it reported that no event has set since (R183). -/
def Link.settleFlags (l : Link) (t : Transaction) (n : Nat) : Link :=
  if n = 0 then l
  else
    { l with frameRejected := l.frameRejected && !t.clearRejected
             requestDropped := l.requestDropped && !t.clearDropped
             noticesLost := l.noticesLost && !t.clearLost }

/-- The outgoing side of the end of a transaction (R179). -/
def Link.settle (l : Link) (t : Transaction) (n : Nat) : Link :=
  { (l.settleFrame t n).settleFlags t n with transaction := none, sdo := t.sdo n }

/-! ## The end of a transaction: the request frame (R180) -/

/-- The classes of R180. -/
inductive FrameClass
  | nullFrame | tooLong | mutilated | crcBad | sound
  deriving DecidableEq, Repr

/-- The class of the bytes received on SDI: the first row of R180 that holds. -/
def frameClass (sdi : List Byte) : FrameClass :=
  let n := (byteAt sdi 0).toNat
  if n = 0 then .nullFrame
  else if 250 < n then .tooLong
  else if n < 4 ∨ sdi.length < n + 3 then .mutilated
  else if crc16Bytes (sdi.take (n + 1)) = (sdi.drop (n + 1)).take 2 then .sound
  else .crcBad

/-- The header of a request frame (R191). -/
def frameHeader (sdi : List Byte) : ReqHeader := { tag := halfAt sdi 2, port := byteAt sdi 4 }

/-- The payload of a SOUND frame (R191). -/
def framePayload (sdi : List Byte) : List Byte := (sdi.drop 5).take ((byteAt sdi 0).toNat - 4)

/-- The fixed payload lengths of R194; SET_PROGRAM has no fixed length, and a code that names no request has none. -/
def fixedLength (code : Byte) : Option Nat :=
  [(0x01#8, 0), (0x02#8, 0), (0x03#8, 0), (0x04#8, 0), (0x05#8, 0), (0x06#8, 2), (0x10#8, 13), (0x11#8, 0), (0x12#8, 0),
    (0x20#8, 8), (0x21#8, 0), (0x22#8, 0), (0x23#8, 1), (0x24#8, 0), (0x25#8, 2), (0x26#8, 0), (0x30#8, 22), (0x31#8, 2),
    (0x32#8, 0), (0x33#8, 0), (0x34#8, 0), (0x35#8, 0), (0x36#8, 1), (0x40#8, 12), (0x41#8, 1), (0x50#8, 11), (0x51#8, 1),
    (0x52#8, 0), (0x60#8, 7)].lookup code

/-- Whether a code names a request and its payload has the length of its layout (R181, steps 3 and 4; R194). -/
def payloadFits (code : Byte) (pl : List Byte) : Bool :=
  if code = 0x42 then decide (2 ≤ pl.length) && decide (pl.length = 2 + 5 * (byteAt pl 1).toNat)
  else decide (fixedLength code = some pl.length)

/-- The payload of SET_POOL (R194). -/
def readSetPool (b : List Byte) : SetPoolFields :=
  { mask := byteAt b 0, budget := wordAt b 1, vPool := halfAt b 5, derate := halfAt b 7, kill := halfAt b 9
    trip := halfAt b 11 }

/-- The payload of SET_CABLE_KIND (R194). -/
def readSetCableKind (b : List Byte) : SetCableKindFields :=
  { index := byteAt b 0, mask := byteAt b 1, velocity := halfAt b 2, loop := halfAt b 4, connector := halfAt b 6 }

/-- The payload of SET_PORT (R194). -/
def readSetPort (b : List Byte) : SetPortFields :=
  { mask := halfAt b 0, priority := byteAt b 2, cableKind := byteAt b 3, declaredLength := halfAt b 4
    vMin := halfAt b 6, lensPower := halfAt b 8, retryLimit := byteAt b 10, damagedPolicy := byteAt b 11
    autoHome := byteAt b 12, flexThreshold := byteAt b 13, drift := byteAt b 14, defaultExposure := wordAt b 15
    holdLimit := halfAt b 19, outputGroup := byteAt b 21 }

/-- The payload of SET_SOURCE (R194). -/
def readSetSource (b : List Byte) : SetSourceFields :=
  { source := byteAt b 0, mask := byteAt b 1, edge := byteAt b 2, holdoff := wordAt b 3, period := wordAt b 7
    portMask := byteAt b 11 }

/-- The k-th step of SET_PROGRAM's payload (R194). -/
def readStep (b : List Byte) (k : Nat) : WireStep :=
  { preset := byteAt b (2 + 5 * k), exposure := wordAt b (3 + 5 * k) }

/-- The payload of SET_PRESET (R194). -/
def readSetPreset (b : List Byte) : SetPresetFields :=
  { index := byteAt b 0, mask := byteAt b 1, focus := halfAt b 2, iris := halfAt b 4, zoom := halfAt b 6
    settle := byteAt b 8, tolerance := byteAt b 9, valid := byteAt b 10 }

/-- The payload of CAM_ACCESS (R194). -/
def readCamAccess (b : List Byte) : CamAccessFields := { kind := byteAt b 0, param := halfAt b 1, value := wordAt b 3 }

/-- The request a fitting frame carries (R194); none for a code that names no request. -/
def requestNamed (code : Byte) (h : ReqHeader) (b : List Byte) : Option Instr :=
  if code = 0x01 then some (.identify h)
  else if code = 0x02 then some (.restart h)
  else if code = 0x03 then some (.enterRun h)
  else if code = 0x04 then some (.enterConfig h)
  else if code = 0x05 then some (.readHub h)
  else if code = 0x06 then some (.setNoticeMask h (halfAt b 0))
  else if code = 0x10 then some (.setPool h (readSetPool b))
  else if code = 0x11 then some (.readPool h)
  else if code = 0x12 then some (.feedRestore h)
  else if code = 0x20 then some (.setCableKind h (readSetCableKind b))
  else if code = 0x21 then some (.calibrate h)
  else if code = 0x22 then some (.cableLearn h)
  else if code = 0x23 then some (.diagnose h (byteAt b 0))
  else if code = 0x24 then some (.readCable h)
  else if code = 0x25 then some (.readFindings h (byteAt b 0) (byteAt b 1))
  else if code = 0x26 then some (.clearFindings h)
  else if code = 0x30 then some (.setPort h (readSetPort b))
  else if code = 0x31 then some (.setReaction h (byteAt b 0) (byteAt b 1))
  else if code = 0x32 then some (.portEnable h)
  else if code = 0x33 then some (.portDisable h)
  else if code = 0x34 then some (.portRelease h)
  else if code = 0x35 then some (.readPort h)
  else if code = 0x36 then some (.readCounters h (byteAt b 0))
  else if code = 0x40 then some (.setSource h (readSetSource b))
  else if code = 0x41 then some (.trigger h (byteAt b 0))
  else if code = 0x42 then some (.setProgram h (byteAt b 0) ((List.range (byteAt b 1).toNat).map (readStep b)))
  else if code = 0x50 then some (.setPreset h (readSetPreset b))
  else if code = 0x51 then some (.lensGoto h (byteAt b 0))
  else if code = 0x52 then some (.lensHome h)
  else if code = 0x60 then some (.camAccess h (readCamAccess b))
  else none

/-- The request of a SOUND frame; none where its kind or its payload's length is wrong (R181, steps 3 and 4). -/
def readRequest (sdi : List Byte) : Option Instr :=
  if payloadFits (byteAt sdi 1) (framePayload sdi) then
    requestNamed (byteAt sdi 1) (frameHeader sdi) (framePayload sdi)
  else none

/-! ## Judging a request frame (R180, R181) -/

/-- A request handed to its owning rule (R181). The commands that are no requests come from no frame. -/
def State.carryOut (s : State) : Instr → State
  | .identify h => s.identify h
  | .restart h => s.restart h
  | .enterRun h => s.enterRun h
  | .enterConfig h => s.enterConfig h
  | .readHub h => s.readHub h
  | .setNoticeMask h mask => s.setNoticeMask h mask
  | .setPool h f => s.setPool h f
  | .readPool h => s.readPool h
  | .feedRestore h => s.feedRestore h
  | .setCableKind h f => s.setCableKind h f
  | .calibrate h => s.calibrate h
  | .cableLearn h => s.cableLearn h
  | .diagnose h options => s.diagnose h options
  | .readCable h => s.readCable h
  | .readFindings h offset count => s.readFindings h offset count
  | .clearFindings h => s.clearFindings h
  | .setPort h f => s.setPort h f
  | .setReaction h kind reaction => s.setReaction h kind reaction
  | .portEnable h => s.portEnable h
  | .portDisable h => s.portDisable h
  | .portRelease h => s.portRelease h
  | .readPort h => s.readPort h
  | .readCounters h clear => s.readCounters h clear
  | .setSource h f => s.setSource h f
  | .trigger h mask => s.trigger h mask
  | .setProgram h mode steps => s.setProgram h mode steps
  | .setPreset h f => s.setPreset h f
  | .lensGoto h preset => s.lensGoto h preset
  | .lensHome h => s.lensHome h
  | .camAccess h f => s.camAccess h f
  | .transactionStart | .transactionEnd _ | .hardReset | .nresetRelease | .selfCheckPass | .selfCheckFailure
  | .triggerPinEdge .. | .holdoffTimerExpiry _ | .periodTimerExpiry | .staleTimerExpiry _ | .triggerDispatch _
  | .exposureDeadlineExpiry _ | .upstreamPacketEnd .. | .beacon _ | .lockCheckExpiry _ | .wakeTimerExpiry _
  | .relockTimerExpiry _ | .helloTimerExpiry _ | .wakeSend _ | .creditSend _ | .downQueueStart _ | .downPacketSent _
  | .answerDeadlineExpiry .. | .probeTimerExpiry .. | .reprobeTimerExpiry _ | .inrushTimerExpiry _
  | .sampleTimerExpiry .. | .fullSessionTimerExpiry _ | .backoffTimerExpiry _ | .poolSample _ | .admission
  | .lensPacketHandIn _ | .settleTimerExpiry _ | .holdAsserted | .holdDeasserted | .transmissionStart
  | .transmissionComplete | .watermarkReached _ | .meterGrant | .calibrationComplete .. | .liveShotComplete _
  | .fullMeasurementComplete .. | .calibrationAgeExpiry | .flexWindowExpiry _ | .dischargeTimerExpiry => s

/-- The nine bytes of the reply to a CAM_ACCESS whose payload has the wrong length (R191): access kind and parameter as
received, absent where the payload ends before them. DEDUCED: log entry 20. -/
def malformedAccess (b : List Byte) : List Byte :=
  opt1 (b[0]?.map BitVec.toNat) ++ opt2 (if 3 ≤ b.length then some (halfAt b 1).toNat else none)
    ++ [0, 0, 0, 0, 0, 0]

/-- The payload of a BAD_REQUEST reply: none, but for CAM_ACCESS (R191). -/
def badRequestPayload (code : Byte) (b : List Byte) : List Byte := if code = camAccessCode then malformedAccess b else []

/-- An unknown kind or a payload of the wrong length: BAD_REQUEST, echoing the received code (R181, R191). DEDUCED: log
entry 20. -/
def State.badRequest (s : State) (code : Byte) (h : ReqHeader) (b : List Byte) : State :=
  s.takeRequest code fun e =>
    (e.countLink fun c => { c with badRequest := bump c.badRequest }).writeReply
      (replyOf code h { status := .badRequest, payload := badRequestPayload code b })

/-- A SOUND frame (R181). -/
def State.soundFrame (s : State) (sdi : List Byte) : State :=
  match readRequest sdi with
  | some i => s.carryOut i
  | none => s.badRequest (byteAt sdi 1) (frameHeader sdi) (framePayload sdi)

/-- The counter of a rejected frame's class (R180). -/
def LinkCounters.countRejected (c : LinkCounters) : FrameClass → LinkCounters
  | .tooLong => { c with tooLong := bump c.tooLong }
  | .mutilated => { c with mutilated := bump c.mutilated }
  | .crcBad => { c with crcBad := bump c.crcBad }
  | .nullFrame => c
  | .sound => c

/-- A rejected frame is discarded: its counter, and the frame-rejected flag (R180). -/
def State.rejectFrame (s : State) (k : FrameClass) : State :=
  { s with link := { s.link.setRejected with counters := s.link.counters.countRejected k } }

/-- The request frame of an ended transaction is judged (R180, R181); fewer than eight clock edges carry none (R179). -/
def State.judgeFrame (s : State) (sdi : List Byte) : State :=
  if sdi = [] then s
  else
    match frameClass sdi with
    | .nullFrame => s
    | .tooLong => s.rejectFrame .tooLong
    | .mutilated => s.rejectFrame .mutilated
    | .crcBad => s.rejectFrame .crcBad
    | .sound => s.soundFrame sdi

/-- TRANSACTION_END (R179): the outgoing frame first, then the request frame. -/
def State.transactionEnd (s : State) (sdi : List Byte) : State :=
  match s.link.transaction with
  | none => s
  | some t => ({ s with link := s.link.settle t sdi.length } : State).judgeFrame sdi

/-! ## Hard reset and self-check (R186, R189) -/

/-- The release of nRESET: INIT begins, and with it the 5 ms self-check (R186, R189). -/
def State.nresetRelease (s : State) : State :=
  if s.nreset then { s with nreset := false, selfCheck := some (s.time + Config.selfCheckTime) } else s

/-- The end of the self-check of a hub in INIT. -/
def State.endSelfCheck (s : State) (act : Ev → Ev) : State :=
  if s.nreset then s
  else if s.link.opState = .init then
    s.event fun e => e.onExpiry e.selfCheck fun e => act { e with selfCheck := none }
  else s

/-- The self-check passes: CONFIG, and pool sampling begins (R51, R186). -/
def Ev.passSelfCheck (e : Ev) : Ev :=
  (e.updLink fun l => { l with opState := .config }).updPool fun q =>
    { q with sampleTimer := some (e.time + Config.millisecond) }

/-- The self-check fails: HALTED with the failure flag (R186). -/
def Ev.failSelfCheck (e : Ev) : Ev := e.updLink fun l => { l with opState := .halted, failure := true }

/-! ## The meanings -/

/-- TRANSACTION_START. -/
def execTransactionStart (s : State) : Host.Outcome State Fault Refusal := .next s.transactionStart

/-- TRANSACTION_END. -/
def execTransactionEnd (sdi : List Byte) (s : State) : Host.Outcome State Fault Refusal := .next (s.transactionEnd sdi)

/-- HARD_RESET: the hub while nRESET is asserted (R189). -/
def execHardReset (s : State) : Host.Outcome State Fault Refusal :=
  .next (State.hardReset s.output.holdPin s.pending)

/-- NRESET_RELEASE. -/
def execNresetRelease (s : State) : Host.Outcome State Fault Refusal := .next s.nresetRelease

/-- SELF_CHECK_PASS. -/
def execSelfCheckPass (s : State) : Host.Outcome State Fault Refusal := .next (s.endSelfCheck Ev.passSelfCheck)

/-- SELF_CHECK_FAILURE. -/
def execSelfCheckFailure (s : State) : Host.Outcome State Fault Refusal := .next (s.endSelfCheck Ev.failSelfCheck)

end Sys2Proof.Machine
end

