-- ==== Sys2Proof/Machine/TriggerEvents.lean ====
section
/-! DEFINITION. The events of trigger routing, capture programs, lens control, the frame output port and the relay (04,
05, 07) that no other file holds. -/

namespace Sys2Proof.Machine

/-! ## The trigger router (R74, R75) -/

/-- Whether an edge selection names an edge (R74). -/
def EdgeSelection.names : EdgeSelection → Bool → Bool
  | .off, _ => false
  | .rising, up => up
  | .falling, up => !up
  | .both, _ => true

/-- The pin sources changed at one pin. -/
def Router.updPin (r : Router) (i : Fin 4) (f : PinSource → PinSource) : Router := { r with pins := modifyAt r.pins i f }

/-- The holdoff timer of a pin after an accepted edge (R74). -/
def PinSource.startHoldoff (x : PinSource) (now : Nat) : PinSource :=
  { x with timer := if x.holdoff = 0 then none else some (now + x.holdoff) }

/-- An edge that counts is suppressed while the holdoff timer runs, and gives a trigger otherwise (R74). -/
def Ev.countedEdge (e : Ev) (pin : Fin 4) : Ev :=
  if (e.router.pins.get pin).timer.isSome then
    e.updRouter fun r =>
      { r with counters := modifyAt r.counters (sourceOfPin pin).index fun c => { c with suppressed := bump c.suppressed } }
  else (e.giveTrigger (sourceOfPin pin)).updRouter fun r => r.updPin pin fun x => x.startHoldoff e.time

/-- An edge of a trigger pin: only in RUN, and only where the edge selection names it (R73, R74). -/
def Ev.pinEdge (e : Ev) (pin : Fin 4) (rising : Bool) : Ev :=
  if e.link.opState = .run ∧ (e.router.pins.get pin).edge.names rising then e.countedEdge pin else e

/-- The holdoff timer of a pin expires (R74). -/
def Ev.holdoffEnd (e : Ev) (pin : Fin 4) : Ev :=
  e.onExpiry (e.router.pins.get pin).timer fun e => e.updRouter fun r => r.updPin pin fun x => { x with timer := none }

/-- The period timer expires: its trigger is given, and the period to apply restarts or stops it (R75). -/
def Ev.periodEnd (e : Ev) : Ev :=
  e.onExpiry e.router.periodTimer fun e => (e.updRouter fun r => r.startPeriod e.time).giveTrigger .period

/-! ## The capture sequencer (R85, R89) -/

/-- The stale timer runs to the stale deadline of the queue head (R85). -/
def Capture.staleTimer (c : Capture) : Option Nat :=
  match c.queue with
  | h :: _ => h.stale
  | [] => none

/-- The stale timer of a port expires: its head is examined (R84, R85). -/
def Ev.staleEnd (e : Ev) (p : PortId) : Ev := e.onExpiry (e.port p).capture.staleTimer fun e => e.examine p

/-- The exposure deadline: the record closes MISSED (R89). -/
def Ev.missExposure (e : Ev) (p : PortId) (x : Exposure) : Ev :=
  (e.loseTrigger p x.tag x.source x.step x.preset .missed).closeExposure p

/-- The deadline of an OPEN exposure record expires (R89). -/
def Ev.exposureEnd (e : Ev) (p : PortId) : Ev :=
  match (e.port p).capture.exposure with
  | none => e
  | some x => (e.reach x.deadline).missExposure p x

/-! ## The lens sequencer (R100) -/

/-- The settle timer expires: the lens comes to rest (R100). -/
def Ev.settleEnd (e : Ev) (p : PortId) : Ev :=
  e.onExpiry (e.port p).lens.settleTimer fun e => (e.updLens p fun l => { l with settleTimer := none }).rest p .settling

/-! ## The frame output port (R128, R129, R133, R134) -/

/-- Whether an assertion of HOLD finds an eligible port (R129, R134). -/
def State.heldWork (s : State) : Bool := s.blocksRun && allPorts.any s.eligible

/-- HOLD is asserted: no transmission starts until it is deasserted (R129). The pin's level is that of the outside in
every operating state (R133). DESIGN CHOICE: log entry 13. -/
def State.holdAsserted (s : State) : State :=
  if s.output.holdPin then s
  else
    { s with
      output := { s.output with
        holdPin := true
        counters := { s.output.counters with
          heldWithWork := if s.heldWork then bump s.output.counters.heldWithWork else s.output.counters.heldWithWork } } }

/-- HOLD is deasserted: an idle output port picks at once (R129). -/
def State.holdDeasserted (s : State) : State :=
  if s.output.holdPin then
    ({ s with output := { s.output with holdPin := false } } : State).blockEvent Ev.outputServe
  else s

/-- The counters of a completed transmission (R134). -/
def OutputCounters.countSent (c : OutputCounters) (t : Transmission) : OutputCounters :=
  { c with sent := bump c.sent
           trailers := if t.packet.kind = .trailer then bump c.trailers else c.trailers
           damaged := if t.packet.damaged then bump c.damaged else c.damaged
           flushed := if t.flushed then bump c.flushed else c.flushed }

/-- The slot of the packet sent frees: the egress count rises, a credited slot returns its credit, and the relay tests
its answers (R128, steps 1 to 3). -/
def Ev.freeSlot (e : Ev) (t : Transmission) : Ev :=
  let e := e.updIngress t.port fun i => { i with queue := i.queue.tail, egressCount := i.egressCount + 1 }
  let e := if t.reserve then e else e.creditFreed t.port
  e.relayTest t.port

/-- A transmission completes (R128); after a flush only the output port becomes idle and picks again (R133). -/
def Ev.transmissionDone (e : Ev) : Ev :=
  match e.output.sending with
  | none => e
  | some t =>
      let e := e.updOutput fun o => { o with sending := none, counters := o.counters.countSent t }
      (if t.flushed then e else e.freeSlot t).outputServe

/-! ## The meanings -/

/-- TRIGGER_PIN_EDGE. -/
def execTriggerPinEdge (pin : Fin 4) (rising : Bool) (s : State) : Host.Outcome State Fault Refusal :=
  .next (s.blockEvent fun e => e.pinEdge pin rising)

/-- HOLDOFF_TIMER_EXPIRY. -/
def execHoldoffTimerExpiry (pin : Fin 4) (s : State) : Host.Outcome State Fault Refusal :=
  .next (s.blockEvent fun e => e.holdoffEnd pin)

/-- PERIOD_TIMER_EXPIRY. -/
def execPeriodTimerExpiry (s : State) : Host.Outcome State Fault Refusal := .next (s.blockEvent Ev.periodEnd)

/-- STALE_TIMER_EXPIRY. -/
def execStaleTimerExpiry (p : PortId) (s : State) : Host.Outcome State Fault Refusal :=
  .next (s.blockEvent fun e => e.staleEnd p)

/-- TRIGGER_DISPATCH: the examination that dispatches a head (R84 to R87; DEDUCED, log entry 4). -/
def execTriggerDispatch (p : PortId) (s : State) : Host.Outcome State Fault Refusal :=
  .next (s.blockEvent fun e => e.examine p)

/-- EXPOSURE_DEADLINE_EXPIRY. -/
def execExposureDeadlineExpiry (p : PortId) (s : State) : Host.Outcome State Fault Refusal :=
  .next (s.blockEvent fun e => e.exposureEnd p)

/-- LENS_PACKET_HAND_IN: the hand-in of a waiting packet (R98; DEDUCED, log entry 4). -/
def execLensPacketHandIn (p : PortId) (s : State) : Host.Outcome State Fault Refusal :=
  .next (s.blockEvent fun e => e.handIn p)

/-- SETTLE_TIMER_EXPIRY. -/
def execSettleTimerExpiry (p : PortId) (s : State) : Host.Outcome State Fault Refusal :=
  .next (s.blockEvent fun e => e.settleEnd p)

/-- HOLD_ASSERTED. -/
def execHoldAsserted (s : State) : Host.Outcome State Fault Refusal := .next s.holdAsserted

/-- HOLD_DEASSERTED. -/
def execHoldDeasserted (s : State) : Host.Outcome State Fault Refusal := .next s.holdDeasserted

/-- TRANSMISSION_START: the pick of the output arbiter (R131; DEDUCED, log entry 4). -/
def execTransmissionStart (s : State) : Host.Outcome State Fault Refusal := .next (s.blockEvent Ev.outputServe)

/-- TRANSMISSION_COMPLETE. -/
def execTransmissionComplete (s : State) : Host.Outcome State Fault Refusal := .next (s.blockEvent Ev.transmissionDone)

/-- WATERMARK_REACHED: the relay's test of a port's HELD entries (R138, R139; DEDUCED, log entry 4). -/
def execWatermarkReached (p : PortId) (s : State) : Host.Outcome State Fault Refusal :=
  .next (s.blockEvent fun e => e.relayTest p)

end Sys2Proof.Machine
end

