-- ==== Sys2Proof/Machine/PortEvents.lean ====
section
/-! DEFINITION. The meanings of the events of the tether port, the feed controller, the pool manager, the cable meter and
the break analyser (01, 02, 03, 08, 09): each is its block's operation, run where the blocks run (R186). -/

namespace Sys2Proof.Machine

/-! ## Tether port -/

/-- UPSTREAM_PACKET_END. -/
def execUpstreamPacketEnd (p : PortId) (ending : PacketEnding) (bytes : List Byte) (s : State) :
    Host.Outcome State Fault Refusal :=
  .next (s.blockEvent fun e => e.packetEnd p ending bytes)

/-- BEACON. -/
def execBeacon (p : PortId) (s : State) : Host.Outcome State Fault Refusal := .next (s.blockEvent fun e => e.beacon p)

/-- LOCK_CHECK_EXPIRY. -/
def execLockCheckExpiry (p : PortId) (s : State) : Host.Outcome State Fault Refusal :=
  .next (s.blockEvent fun e => e.lockCheck p)

/-- WAKE_TIMER_EXPIRY. -/
def execWakeTimerExpiry (p : PortId) (s : State) : Host.Outcome State Fault Refusal :=
  .next (s.blockEvent fun e => e.wakeExpired p)

/-- RELOCK_TIMER_EXPIRY. -/
def execRelockTimerExpiry (p : PortId) (s : State) : Host.Outcome State Fault Refusal :=
  .next (s.blockEvent fun e => e.relockExpired p)

/-- HELLO_TIMER_EXPIRY. -/
def execHelloTimerExpiry (p : PortId) (s : State) : Host.Outcome State Fault Refusal :=
  .next (s.blockEvent fun e => e.helloExpired p)

/-- WAKE_SEND. -/
def execWakeSend (p : PortId) (s : State) : Host.Outcome State Fault Refusal := .next (s.blockEvent fun e => e.sendWake p)

/-- CREDIT_SEND. -/
def execCreditSend (p : PortId) (s : State) : Host.Outcome State Fault Refusal :=
  .next (s.blockEvent fun e => e.sendCredit p)

/-- DOWN_QUEUE_START. -/
def execDownQueueStart (p : PortId) (s : State) : Host.Outcome State Fault Refusal :=
  .next (s.blockEvent fun e => e.sendHead p)

/-- DOWN_PACKET_SENT. -/
def execDownPacketSent (p : PortId) (s : State) : Host.Outcome State Fault Refusal :=
  .next (s.blockEvent fun e => e.downSent p)

/-- ANSWER_DEADLINE_EXPIRY. -/
def execAnswerDeadlineExpiry (p : PortId) (tag : Byte) (s : State) : Host.Outcome State Fault Refusal :=
  .next (s.blockEvent fun e => e.answerExpired p tag)

/-! ## Feed controller -/

/-- PROBE_TIMER_EXPIRY. -/
def execProbeTimerExpiry (p : PortId) (at4V at8V : Nat) (s : State) : Host.Outcome State Fault Refusal :=
  .next (s.blockEvent fun e => e.probeDone p at4V at8V)

/-- REPROBE_TIMER_EXPIRY. -/
def execReprobeTimerExpiry (p : PortId) (s : State) : Host.Outcome State Fault Refusal :=
  .next (s.blockEvent fun e => e.reprobe p)

/-- INRUSH_TIMER_EXPIRY. -/
def execInrushTimerExpiry (p : PortId) (s : State) : Host.Outcome State Fault Refusal :=
  .next (s.blockEvent fun e => e.inrushEnd p)

/-- SAMPLE_TIMER_EXPIRY. -/
def execSampleTimerExpiry (p : PortId) (current : Half) (s : State) : Host.Outcome State Fault Refusal :=
  .next (s.blockEvent fun e => e.feedSample p current)

/-- FULL_SESSION_TIMER_EXPIRY. -/
def execFullSessionTimerExpiry (p : PortId) (s : State) : Host.Outcome State Fault Refusal :=
  .next (s.blockEvent fun e => e.sessionEnd p)

/-- BACKOFF_TIMER_EXPIRY. -/
def execBackoffTimerExpiry (p : PortId) (s : State) : Host.Outcome State Fault Refusal :=
  .next (s.blockEvent fun e => e.backoffEnd p)

/-! ## Pool manager -/

/-- POOL_SAMPLE. -/
def execPoolSample (voltage : Half) (s : State) : Host.Outcome State Fault Refusal :=
  .next (s.blockEvent fun e => e.poolSample voltage)

/-- ADMISSION: a serving pass of the admission queue (R60, R61; DEDUCED, log entry 4). -/
def execAdmission (s : State) : Host.Outcome State Fault Refusal := .next (s.blockEvent Ev.serve)

/-! ## Cable meter and break analyser -/

/-- METER_GRANT: the pick of the meter's arbiter (R144; DEDUCED, log entry 4). -/
def execMeterGrant (s : State) : Host.Outcome State Fault Refusal := .next (s.blockEvent Ev.meterServe)

/-- CALIBRATION_COMPLETE. -/
def execCalibrationComplete (ticks loop : Nat) (s : State) : Host.Outcome State Fault Refusal :=
  .next (s.blockEvent fun e => e.calibrationDone ticks loop)

/-- LIVE_SHOT_COMPLETE. -/
def execLiveShotComplete (shot : Samples) (s : State) : Host.Outcome State Fault Refusal :=
  .next (s.blockEvent fun e => e.liveDone shot)

/-- FULL_MEASUREMENT_COMPLETE. -/
def execFullMeasurementComplete (shot1 : Samples) (shot2 shot3 shot4 : Option Samples) (s : State) :
    Host.Outcome State Fault Refusal :=
  .next (s.blockEvent fun e => e.fullShots (shot1 :: [shot2, shot3, shot4].filterMap id))

/-- CALIBRATION_AGE_EXPIRY. -/
def execCalibrationAgeExpiry (s : State) : Host.Outcome State Fault Refusal := .next (s.blockEvent Ev.calibrationAged)

/-- FLEX_WINDOW_EXPIRY. -/
def execFlexWindowExpiry (p : PortId) (s : State) : Host.Outcome State Fault Refusal :=
  .next (s.blockEvent fun e => e.flexEnd p)

/-- DISCHARGE_TIMER_EXPIRY. -/
def execDischargeTimerExpiry (s : State) : Host.Outcome State Fault Refusal := .next (s.blockEvent Ev.dischargeEnd)

end Sys2Proof.Machine
end

