-- ==== Sys2Proof/Machine/Dispatch.lean ====
section
/-! DEFINITION. The meaning of every command: one arm per constructor. -/

namespace Sys2Proof.Machine

/-- The effect of a command on everything but the queue of waiting commands. -/
def exec (i : Instr) (s : State) : Host.Outcome State Fault Refusal :=
  match i with
  | .identify h => Sys2Proof.Machine.execIdentify h s
  | .restart h => Sys2Proof.Machine.execRestart h s
  | .enterRun h => Sys2Proof.Machine.execEnterRun h s
  | .enterConfig h => Sys2Proof.Machine.execEnterConfig h s
  | .readHub h => Sys2Proof.Machine.execReadHub h s
  | .setNoticeMask h mask => Sys2Proof.Machine.execSetNoticeMask h mask s
  | .setPool h f => Sys2Proof.Machine.execSetPool h f s
  | .readPool h => Sys2Proof.Machine.execReadPool h s
  | .feedRestore h => Sys2Proof.Machine.execFeedRestore h s
  | .setCableKind h f => Sys2Proof.Machine.execSetCableKind h f s
  | .calibrate h => Sys2Proof.Machine.execCalibrate h s
  | .cableLearn h => Sys2Proof.Machine.execCableLearn h s
  | .diagnose h options => Sys2Proof.Machine.execDiagnose h options s
  | .readCable h => Sys2Proof.Machine.execReadCable h s
  | .readFindings h offset count => Sys2Proof.Machine.execReadFindings h offset count s
  | .clearFindings h => Sys2Proof.Machine.execClearFindings h s
  | .setPort h f => Sys2Proof.Machine.execSetPort h f s
  | .setReaction h kind reaction => Sys2Proof.Machine.execSetReaction h kind reaction s
  | .portEnable h => Sys2Proof.Machine.execPortEnable h s
  | .portDisable h => Sys2Proof.Machine.execPortDisable h s
  | .portRelease h => Sys2Proof.Machine.execPortRelease h s
  | .readPort h => Sys2Proof.Machine.execReadPort h s
  | .readCounters h clear => Sys2Proof.Machine.execReadCounters h clear s
  | .setSource h f => Sys2Proof.Machine.execSetSource h f s
  | .trigger h mask => Sys2Proof.Machine.execTrigger h mask s
  | .setProgram h mode steps => Sys2Proof.Machine.execSetProgram h mode steps s
  | .setPreset h f => Sys2Proof.Machine.execSetPreset h f s
  | .lensGoto h preset => Sys2Proof.Machine.execLensGoto h preset s
  | .lensHome h => Sys2Proof.Machine.execLensHome h s
  | .camAccess h f => Sys2Proof.Machine.execCamAccess h f s
  | .transactionStart => Sys2Proof.Machine.execTransactionStart s
  | .transactionEnd sdi => Sys2Proof.Machine.execTransactionEnd sdi s
  | .hardReset => Sys2Proof.Machine.execHardReset s
  | .nresetRelease => Sys2Proof.Machine.execNresetRelease s
  | .selfCheckPass => Sys2Proof.Machine.execSelfCheckPass s
  | .selfCheckFailure => Sys2Proof.Machine.execSelfCheckFailure s
  | .triggerPinEdge pin rising => Sys2Proof.Machine.execTriggerPinEdge pin rising s
  | .holdoffTimerExpiry pin => Sys2Proof.Machine.execHoldoffTimerExpiry pin s
  | .periodTimerExpiry => Sys2Proof.Machine.execPeriodTimerExpiry s
  | .staleTimerExpiry p => Sys2Proof.Machine.execStaleTimerExpiry p s
  | .triggerDispatch p => Sys2Proof.Machine.execTriggerDispatch p s
  | .exposureDeadlineExpiry p => Sys2Proof.Machine.execExposureDeadlineExpiry p s
  | .upstreamPacketEnd p ending bytes => Sys2Proof.Machine.execUpstreamPacketEnd p ending bytes s
  | .beacon p => Sys2Proof.Machine.execBeacon p s
  | .lockCheckExpiry p => Sys2Proof.Machine.execLockCheckExpiry p s
  | .wakeTimerExpiry p => Sys2Proof.Machine.execWakeTimerExpiry p s
  | .relockTimerExpiry p => Sys2Proof.Machine.execRelockTimerExpiry p s
  | .helloTimerExpiry p => Sys2Proof.Machine.execHelloTimerExpiry p s
  | .wakeSend p => Sys2Proof.Machine.execWakeSend p s
  | .creditSend p => Sys2Proof.Machine.execCreditSend p s
  | .downQueueStart p => Sys2Proof.Machine.execDownQueueStart p s
  | .downPacketSent p => Sys2Proof.Machine.execDownPacketSent p s
  | .answerDeadlineExpiry p tag => Sys2Proof.Machine.execAnswerDeadlineExpiry p tag s
  | .probeTimerExpiry p at4V at8V => Sys2Proof.Machine.execProbeTimerExpiry p at4V at8V s
  | .reprobeTimerExpiry p => Sys2Proof.Machine.execReprobeTimerExpiry p s
  | .inrushTimerExpiry p => Sys2Proof.Machine.execInrushTimerExpiry p s
  | .sampleTimerExpiry p current => Sys2Proof.Machine.execSampleTimerExpiry p current s
  | .fullSessionTimerExpiry p => Sys2Proof.Machine.execFullSessionTimerExpiry p s
  | .backoffTimerExpiry p => Sys2Proof.Machine.execBackoffTimerExpiry p s
  | .poolSample voltage => Sys2Proof.Machine.execPoolSample voltage s
  | .admission => Sys2Proof.Machine.execAdmission s
  | .lensPacketHandIn p => Sys2Proof.Machine.execLensPacketHandIn p s
  | .settleTimerExpiry p => Sys2Proof.Machine.execSettleTimerExpiry p s
  | .holdAsserted => Sys2Proof.Machine.execHoldAsserted s
  | .holdDeasserted => Sys2Proof.Machine.execHoldDeasserted s
  | .transmissionStart => Sys2Proof.Machine.execTransmissionStart s
  | .transmissionComplete => Sys2Proof.Machine.execTransmissionComplete s
  | .watermarkReached p => Sys2Proof.Machine.execWatermarkReached p s
  | .meterGrant => Sys2Proof.Machine.execMeterGrant s
  | .calibrationComplete ticks loop => Sys2Proof.Machine.execCalibrationComplete ticks loop s
  | .liveShotComplete shot => Sys2Proof.Machine.execLiveShotComplete shot s
  | .fullMeasurementComplete shot1 shot2 shot3 shot4 => Sys2Proof.Machine.execFullMeasurementComplete shot1 shot2 shot3 shot4 s
  | .calibrationAgeExpiry => Sys2Proof.Machine.execCalibrationAgeExpiry s
  | .flexWindowExpiry p => Sys2Proof.Machine.execFlexWindowExpiry p s
  | .dischargeTimerExpiry => Sys2Proof.Machine.execDischargeTimerExpiry s

end Sys2Proof.Machine
end

