-- ==== Sys2Proof/Machine/Step.lean ====
section
/-! DEFINITION. One step of the hub: the command at the front of the queue acts; on an empty queue a microsecond passes.
And what the host asks of a word. -/

namespace Sys2Proof.Machine

/-- A microsecond in which nothing reaches the hub (DESIGN CHOICE, log entry 2). Its clocks stand while nRESET is asserted (R189). -/
def State.tick (s : State) : State := if s.nreset then s else { s with time := s.time + 1 }

/-- One step (log entries 2 and 26). -/
def step (s : State) : Host.Outcome State Fault Refusal :=
  match s.pending with
  | [] => .next s.tick
  | c :: rest => exec c { s with pending := rest }

/-- The command a word spells by the table's bits, put at the front of the queue; the table gives no row bits. -/
def State.withFetchWord (s : State) (nbits w : Nat) : State :=
  match Sys2Proof.decodeTableWord nbits w with
  | none => s
  | some c => { s with pending := c :: s.pending }

end Sys2Proof.Machine
end

