-- ==== Sys2Proof/WellFormed.lean ====
section
/-! DEFINITION. Which terms of Instr stand for something the outside world can bring: a shot has at most 4095 samples,
each from -1000 to +1000 per mille (R146); a FULL measurement has four shots (R148), of which one command brings one or
more; a SET_PROGRAM fits a frame of 250 bytes (R180, R194). Every other operand is bounded by its type. exec has a meaning
for ill-formed terms too; nothing rests on it. -/

namespace Sys2Proof

/-- A deviation lies in -1000 to +1000 per mille (R146). -/
def deviationOk (d : Int) : Bool := decide (-1000 ≤ d) && decide (d ≤ 1000)

/-- A shot samples ticks 1 to 4095 (R146). -/
def shotOk (s : Samples) : Bool := decide (s.length ≤ 4095) && s.all deviationOk

/-- Header and payload of a request count at most 250 bytes (R180): 4 + 2 + 5n with n steps. -/
def programFits (steps : List WireStep) : Bool := decide (steps.length ≤ 48)

/-- A command the outside world can bring. -/
def Instr.wellFormed : Instr → Bool
  | .setProgram _ _ steps => programFits steps
  | .liveShotComplete shot => shotOk shot
  | .fullMeasurementComplete shot1 shot2 shot3 shot4 =>
      shotOk shot1 && shot2.all shotOk && shot3.all shotOk && shot4.all shotOk
  | _ => true

end Sys2Proof
end

