-- ==== Sys2Proof/Safety.lean ====
section
/-! DEFINITION. The terms in which the claims about the hub are stated: when it listens to a request, what a reply, a
notice or a changed port column makes of a state, the laws of the device, and the request frames of the host. -/

namespace Sys2Proof.Machine

/-! ## When a request is taken (R181) -/

/-- The hub is in CONFIG or RUN and not held in reset. -/
abbrev State.running (s : State) : Prop := s.nreset = false ∧ (s.link.opState = .config ∨ s.link.opState = .run)

/-- A reply entry is free (R182). -/
abbrev State.hasRoom (s : State) : Prop := s.relay.length + s.link.written.length < 8

/-- A SOUND request frame of a known kind is taken (R181, steps 1 and 2). -/
abbrev State.listens (s : State) : Prop := s.running ∧ s.hasRoom

/-- The commands that are requests of the host (R194). -/
def isRequest : Instr → Bool
  | .identify _ | .restart _ | .enterRun _ | .enterConfig _ | .readHub _ | .setNoticeMask .. | .setPool .. | .readPool _
  | .feedRestore _ | .setCableKind .. | .calibrate _ | .cableLearn _ | .diagnose .. | .readCable _ | .readFindings ..
  | .clearFindings _ | .setPort .. | .setReaction .. | .portEnable _ | .portDisable _ | .portRelease _ | .readPort _
  | .readCounters .. | .setSource .. | .trigger .. | .setProgram .. | .setPreset .. | .lensGoto .. | .lensHome _
  | .camAccess .. => true
  | .transactionStart | .transactionEnd _ | .hardReset | .nresetRelease | .selfCheckPass | .selfCheckFailure
  | .triggerPinEdge .. | .holdoffTimerExpiry _ | .periodTimerExpiry | .staleTimerExpiry _ | .triggerDispatch _
  | .exposureDeadlineExpiry _ | .upstreamPacketEnd .. | .beacon _ | .lockCheckExpiry _ | .wakeTimerExpiry _
  | .relockTimerExpiry _ | .helloTimerExpiry _ | .wakeSend _ | .creditSend _ | .downQueueStart _ | .downPacketSent _
  | .answerDeadlineExpiry .. | .probeTimerExpiry .. | .reprobeTimerExpiry _ | .inrushTimerExpiry _
  | .sampleTimerExpiry .. | .fullSessionTimerExpiry _ | .backoffTimerExpiry _ | .poolSample _ | .admission
  | .lensPacketHandIn _ | .settleTimerExpiry _ | .holdAsserted | .holdDeasserted | .transmissionStart
  | .transmissionComplete | .watermarkReached _ | .meterGrant | .calibrationComplete .. | .liveShotComplete _
  | .fullMeasurementComplete .. | .calibrationAgeExpiry | .flexWindowExpiry _ | .dischargeTimerExpiry => false

/-! ## Changes of a state -/

/-- One port column changed. -/
def State.onPort (s : State) (p : PortId) (f : Port → Port) : State := { s with ports := modifyAt s.ports p f }

/-- One tether port changed. -/
def State.onTether (s : State) (p : PortId) (f : Tether → Tether) : State := s.onPort p fun x => { x with tether := f x.tether }

/-- One feed controller changed. -/
def State.onFeed (s : State) (p : PortId) (f : Feed → Feed) : State := s.onPort p fun x => { x with feed := f x.feed }

/-- One capture sequencer changed. -/
def State.onCapture (s : State) (p : PortId) (f : Capture → Capture) : State :=
  s.onPort p fun x => { x with capture := f x.capture }

/-- One lens sequencer changed. -/
def State.onLens (s : State) (p : PortId) (f : Lens → Lens) : State := s.onPort p fun x => { x with lens := f x.lens }

/-- One port's break records changed. -/
def State.onCable (s : State) (p : PortId) (f : Cable → Cable) : State := s.onPort p fun x => { x with cable := f x.cable }

/-- The control link changed. -/
def State.onLink (s : State) (f : Link → Link) : State := { s with link := f s.link }

/-- The counter of requests taken rises (R181). -/
def State.counted (s : State) : State :=
  s.onLink fun l => { l with counters := { l.counters with taken := bump l.counters.taken } }

/-- A reply joins the written ones (R182). -/
def State.wrote (s : State) (r : Reply) : State := s.onLink fun l => { l with written := l.written ++ [r] }

/-- A request is taken and answered (R181, R182). -/
def State.replied (s : State) (code : Byte) (h : ReqHeader) (status : Status) (payload : List Byte) : State :=
  s.counted.wrote { code := code, tag := h.tag, port := h.port, status := status, payload := payload }

/-- Notices join the notice queue in order, as R184 tests each. -/
def State.noticed (s : State) (l : List Notice) : State := s.onLink fun k => l.foldl Link.join k

/-- The count of a fault kind at a port (R178). -/
def Cable.faults (c : Cable) (kind : FaultKind) : Nat := c.counters.faults.get kind.index

/-- What a fault answered with CUT or RETRY makes of the port it cuts, t after s: LOCKED_OUT, or BACKOFF with its timer while
the retry count allows (R41); the feed off, its allocation released, the link, the lens, the triggers and the camera
accesses torn down (R29, R90, R107, R141); every other port unchanged. -/
def State.cutBy (s t : State) (p : PortId) (kind : FaultKind) (r : Reaction) : Prop :=
  let x := s.port p
  let y := t.port p
  let again := r = .retry ∧ x.feed.retry + 1 ≤ x.feed.settings.retryLimit
  y.feed.power = (if again then .backoff else .lockedOut)
    ∧ y.feed.retry = (if again then x.feed.retry + 1 else x.feed.retry)
    ∧ (again → y.feed.backoffTimer = some (t.time + 1000000 * 2 ^ x.feed.retry))
    ∧ y.feed.limit = 0 ∧ y.feed.hold = false ∧ y.feed.sampleTimer = none ∧ y.feed.lastCut = some t.time
    ∧ y.feed.settings = x.feed.settings ∧ y.pool.base = 0 ∧ y.pool.surcharge = 0 ∧ p ∉ t.pool.admitted
    ∧ y.tether.link = (if x.tether.link = .quiet then .quiet else .down) ∧ y.tether.session = none
    ∧ y.tether.outstanding = [] ∧ y.tether.queue = [] ∧ y.tether.cameraHeld = 0 ∧ y.lens.state = .absent
    ∧ y.capture.queue = [] ∧ y.capture.exposure = none ∧ (∀ a ∈ t.relay, a.port = p → a.stage.unanswered = false)
    ∧ y.cable.faults kind = bump (x.cable.faults kind) ∧ ∀ q, q ≠ p → t.port q = s.port q

/-- A port that goes through the check of R31 at a moment: DIAGNOSING under a diagnosis, POOL_HALT without the global feed
enable, else PROBING with its 20 ms probe timer. -/
def Port.checked (x : Port) (feedEnable : Bool) (now : Nat) : Port :=
  if x.cable.diag ≠ .clear then { x with feed := x.feed.enter .diagnosing }
  else if feedEnable = false then { x with feed := x.feed.enter .poolHalt }
  else { x with feed := { x.feed.enter .probing with probeTimer := some (now + 20000) } }

/-! ## Lens answers -/

/-- The positions an ANSWER to a lens packet carries on the axes of a lens; one of fewer than 22 bytes carries none
(R192). -/
def LensKind.reachedIn (k : LensKind) (bytes : List Byte) : Option Positions :=
  if 22 ≤ bytes.length then
    some
      { focus := halfAt bytes 12
        iris := if k.hasIris then some (halfAt bytes 14) else none
        zoom := if k.hasZoom then some (halfAt bytes 16) else none }
  else none

/-- Whether the reached positions of an answer match the captured target of a move on every axis the lens carries: the
focus within the tolerance of the target preset, iris and zoom equal (R95, R100). An answer without positions matches
nothing (R101). -/
def Lens.meets (l : Lens) (m : Move) (reached : Option Positions) : Bool :=
  match m.captured, m.target, reached with
  | some (t, _), some q, some r =>
      decide (r.focus.toNat ≤ t.focus.toNat + (l.presets.get q).tolerance)
        && decide (t.focus.toNat ≤ r.focus.toNat + (l.presets.get q).tolerance)
        && (!l.kind.hasIris || decide (r.iris = t.iris)) && (!l.kind.hasZoom || decide (r.zoom = t.zoom))
  | none, _, _ => false
  | some _, none, _ => false
  | some _, some _, none => false

/-- The surcharge of a port is released: its surcharge part is 0 and the class limit is in force (R35, R63). -/
def Port.unsurcharged (x : Port) : Port :=
  { x with pool := { x.pool with surcharge := 0 }, feed := { x.feed with limit := (x.pool.estClass * 5 + 3) / 4 } }

/-- A port whose lens move has ended in STALLED: surcharge released, move record removed, the reached positions and the
answer code taken, the stall or the timeout and the fault counted (R103, R178), and the HOLD flag set where the reaction
is HOLD (R42). -/
def Port.stalled (x : Port) (kind : FaultKind) (reached : Option Positions) (code : Option Byte) (hold : Bool) : Port :=
  let y := x.unsurcharged
  { y with
    lens := { y.lens with
      state := .stalled, move := none, held := reached.or y.lens.held, lastCode := code, settleTimer := none
      counters := { y.lens.counters with
        stalls := if kind = .lensStall then bump y.lens.counters.stalls else y.lens.counters.stalls
        timeouts := if kind = .lensTimeout then bump y.lens.counters.timeouts else y.lens.counters.timeouts } }
    feed := { y.feed with hold := y.feed.hold || hold }
    cable := { y.cable with counters := { y.cable.counters with
      faults := modifyAt y.cable.counters.faults kind.index bump } } }

/-- The end of a lens move in STALLED, its fault answered with HOLD or REPORT: the LENS_CHANGE with the event STALL or
TIMEOUT, the FAULT notice, and a POWER_CHANGE where the HOLD flag changes (R30, R103, R108, R168). -/
def State.lensStalled (s : State) (p : PortId) (kind : FaultKind) (event : LensEvent) (reached : Option Positions)
    (code : Option Byte) (r : Reaction) : State :=
  let x := s.port p
  (s.onPort p fun x => x.stalled kind reached code (decide (r = .hold))).noticed
    ([.lensChange p x.lens.state .stalled event (x.lens.move.map fun m => (m.kind, m.origin, m.target))
        (reached.or x.lens.held) code,
      .fault p kind r x.feed.power x.feed.retry s.msClock]
      ++ if r = .hold ∧ x.feed.hold = false then
          [.powerChange p x.feed.power x.feed.power true x.feed.retry .fault]
        else [])

/-! ## Image packets -/

/-- A GOOD image packet is a mark, is counted and is charged a credit (R5, R19). -/
def Tether.spent (t : Tether) : Tether :=
  { t with
    marks := bump t.marks, cameraHeld := t.cameraHeld - 1
    counters := { t.counters with good := bump t.counters.good } }

/-- A GOOD image packet that is charged and kept occupies a slot (R19). -/
def Tether.kept (t : Tether) : Tether := { t.spent with occupied := t.occupied + 1 }

/-- A charged packet is discarded in UP: its credit is unreturned, and a return falls due at four, or with no slot
occupied (R19, R20). -/
def Tether.returned (t : Tether) : Tether :=
  { t with unreturned := t.unreturned + 1
           creditDue := t.creditDue || decide (3 ≤ t.unreturned) || decide (t.occupied = 0) }

/-- An ingress buffer whose open frame, if any, has been closed as truncated: its synthesized trailer, which bears the
port's allocation, joins the queue in the reserve slot, or is lost where that slot is occupied (R119, R120). -/
def Ingress.truncated (i : Ingress) (allocation : Nat) : Ingress :=
  match i.record with
  | .openFrame f =>
      if ∃ x ∈ i.queue, x.reserve = true then
        { i with
          record := .empty
          counters := { i.counters with
            truncated := bump i.counters.truncated, trailersLost := bump i.counters.trailersLost } }
      else
        { i with
          record := .empty
          queue := i.queue ++
            [{ reserve := true
               packet := { kind := .trailer, frame := f.number, sequence := i.expected, damaged := false
                           payload := trailerBytes { f with flags := { f.flags with truncated := true } } allocation } }]
          ingressCount := i.ingressCount + 1
          counters := { i.counters with truncated := bump i.counters.truncated } }
  | .empty => i
  | .discarding => i

/-- What a GOOD FRAME_START makes of the frame record and of the capture sequencer (R88, R114): without an open exposure
an untriggered frame; with one, which closes, a triggered frame, stated for a port with no trigger pending, no want and no
lens packet waiting. -/
def State.frameOpens (s : State) (p : PortId) (bytes : List Byte) (g : OpenFrame) (c : Capture) : Prop :=
  let x := s.port p
  g.number = halfAt bytes 2 ∧ g.exposureUsed = wordAt bytes 8 ∧ g.start = s.usClock ∧ g.received = 0 ∧ g.lost = 0
    ∧ g.damaged = 0
    ∧ g.held = (if x.lens.state = .absent ∨ x.lens.state = .unreferenced then none else x.lens.held)
    ∧ ((x.capture.exposure = none ∧ g.trigger = none ∧ g.step = .absent ∧ g.preset = none
          ∧ g.flags =
              { untriggered := true
                lensUnreferenced := decide (x.lens.state = .unreferenced ∨ x.lens.state = .stalled) }
          ∧ c = { x.capture with counters := { x.capture.counters with
              untriggered := bump x.capture.counters.untriggered } })
        ∨ ∃ y, x.capture.exposure = some y ∧ x.capture.queue = [] ∧ x.capture.want = none ∧ x.lens.state ≠ .moveWait
          ∧ g.trigger = some (y.tag, y.source) ∧ g.step = y.step ∧ g.preset = y.preset
          ∧ g.flags =
              { tagMismatch := decide (halfAt bytes 6 ≠ y.tag), presetInvalid := y.invalid
                lensUnreferenced := y.unreferenced }
          ∧ c = { x.capture with
              exposure := none
              counters := { x.capture.counters with
                closed := bump x.capture.counters.closed
                tagMismatch := if halfAt bytes 6 = y.tag then x.capture.counters.tagMismatch
                  else bump x.capture.counters.tagMismatch } })

/-! ## Laws of the device -/

/-- The notice queue holds up to 32 notices (R184). -/
def State.noticesFit (s : State) : Prop := s.link.notices.length ≤ 32

/-- The reply queue has 8 entries: those written and those the relay's entries reserve (R135, R182). -/
def State.repliesFit (s : State) : Prop := s.relay.length + s.link.written.length ≤ 8

/-- The findings history holds up to 32 entries (R176). -/
def State.findingsFit (s : State) : Prop := s.breaks.findings.length ≤ 32

/-- A pending trigger queue holds at most 4 entries, with no trigger tag twice (R80). -/
def Capture.queueLaw (c : Capture) : Prop := c.queue.length ≤ 4 ∧ (c.queue.map PendingTrigger.tag).Nodup

/-- The law of R80 at every port. -/
def State.triggersFit (s : State) : Prop := ∀ p, (s.port p).capture.queueLaw

/-- A running or staged program has at most 8 steps, each with an exposure of 1 to 1 000 000 microseconds (R79, R83). -/
def programLaw (l : List ProgramStep) : Prop := l.length ≤ 8 ∧ ∀ x ∈ l, 1 ≤ x.exposure ∧ x.exposure ≤ 1000000

/-- The capture programs of a port lie in their ranges, and the cursor in the running program (R79, R82). -/
def Capture.programsLaw (c : Capture) : Prop :=
  programLaw c.program ∧ (∀ l, c.staged = some l → programLaw l) ∧ (c.cursor = 0 ∨ c.cursor < c.program.length)

/-- The programs of every port lie in their ranges. -/
def State.programsFit (s : State) : Prop := ∀ p, (s.port p).capture.programsLaw

/-- A preset's positions, settle time and tolerance lie in their ranges (R94). -/
def Preset.law (q : Preset) : Prop :=
  q.focus ≤ 4095 ∧ q.iris ≤ 255 ∧ q.zoom ≤ 1023 ∧ q.settle ≤ 100 ∧ q.tolerance ≤ 64

/-- A cable kind lies in its ranges (R153). -/
def CableKind.law (k : CableKind) : Prop :=
  500 ≤ k.velocity ∧ k.velocity ≤ 990 ∧ 1 ≤ k.loop ∧ k.loop ≤ 2000 ∧ k.connector ≤ 5000

/-- The pool settings lie in their ranges, the thresholds at least 500 mV apart (R52). -/
def PoolSettings.law (q : PoolSettings) : Prop :=
  q.budget ≤ 120000 ∧ 12000 ≤ q.vPool ∧ q.vPool ≤ 48000 ∧ 9500 ≤ q.derate ∧ q.derate ≤ 48000 ∧ 9000 ≤ q.kill
    ∧ q.kill + 500 ≤ q.derate ∧ 100 ≤ q.trip ∧ q.trip ≤ 10000

/-- The settings of a port lie in their ranges; V_min is at most V_pool (R48). -/
def PortSettings.law (x : PortSettings) (vPool : Nat) : Prop :=
  x.priority ≤ 3 ∧ x.declaredLength ≤ 9999 ∧ 9000 ≤ x.vMin ∧ x.vMin ≤ vPool ∧ x.lensPower ≤ 5000 ∧ x.retryLimit ≤ 7
    ∧ 1 ≤ x.flexThreshold ∧ x.flexThreshold ≤ 255 ∧ 5 ≤ x.drift ∧ x.drift ≤ 100 ∧ 1 ≤ x.defaultExposure
    ∧ x.defaultExposure ≤ 1000000 ∧ x.holdLimit ≤ 10000

/-- Every setting of the hub lies in the range its rule gives (R48, R52, R73, R94, R153). -/
def State.settingsFit (s : State) : Prop :=
  s.pool.settings.law ∧ (∀ i, (s.kinds.get i).law)
    ∧ (s.router.period = 0 ∨ 100 ≤ s.router.period ∧ s.router.period ≤ 10000000)
    ∧ (∀ i, (s.router.pins.get i).holdoff ≤ 65535)
    ∧ ∀ p, (s.port p).feed.settings.law s.pool.settings.vPool ∧ ∀ q, ((s.port p).lens.presets.get q).law

/-! ## The request frames of the host (R191, R194) -/

/-- A port setting frame's payload and the other payloads of R194, in the order the catalogue lists the fields; none for a
command that is no request. The kind code stands first. -/
def requestBytes : Instr → Option (Byte × ReqHeader × List Byte)
  | .identify h => some (0x01, h, [])
  | .restart h => some (0x02, h, [])
  | .enterRun h => some (0x03, h, [])
  | .enterConfig h => some (0x04, h, [])
  | .readHub h => some (0x05, h, [])
  | .setNoticeMask h mask => some (0x06, h, be2 mask.toNat)
  | .setPool h f =>
      some (0x10, h, [f.mask] ++ be4 f.budget.toNat ++ be2 f.vPool.toNat ++ be2 f.derate.toNat ++ be2 f.kill.toNat
        ++ be2 f.trip.toNat)
  | .readPool h => some (0x11, h, [])
  | .feedRestore h => some (0x12, h, [])
  | .setCableKind h f =>
      some (0x20, h, [f.index, f.mask] ++ be2 f.velocity.toNat ++ be2 f.loop.toNat ++ be2 f.connector.toNat)
  | .calibrate h => some (0x21, h, [])
  | .cableLearn h => some (0x22, h, [])
  | .diagnose h options => some (0x23, h, [options])
  | .readCable h => some (0x24, h, [])
  | .readFindings h offset count => some (0x25, h, [offset, count])
  | .clearFindings h => some (0x26, h, [])
  | .setPort h f =>
      some (0x30, h, be2 f.mask.toNat ++ [f.priority, f.cableKind] ++ be2 f.declaredLength.toNat ++ be2 f.vMin.toNat
        ++ be2 f.lensPower.toNat ++ [f.retryLimit, f.damagedPolicy, f.autoHome, f.flexThreshold, f.drift]
        ++ be4 f.defaultExposure.toNat ++ be2 f.holdLimit.toNat ++ [f.outputGroup])
  | .setReaction h kind reaction => some (0x31, h, [kind, reaction])
  | .portEnable h => some (0x32, h, [])
  | .portDisable h => some (0x33, h, [])
  | .portRelease h => some (0x34, h, [])
  | .readPort h => some (0x35, h, [])
  | .readCounters h clear => some (0x36, h, [clear])
  | .setSource h f =>
      some (0x40, h, [f.source, f.mask, f.edge] ++ be4 f.holdoff.toNat ++ be4 f.period.toNat ++ [f.portMask])
  | .trigger h mask => some (0x41, h, [mask])
  | .setProgram h mode steps =>
      some (0x42, h, [mode] ++ be1 steps.length ++ steps.flatMap fun x => [x.preset] ++ be4 x.exposure.toNat)
  | .setPreset h f =>
      some (0x50, h, [f.index, f.mask] ++ be2 f.focus.toNat ++ be2 f.iris.toNat ++ be2 f.zoom.toNat
        ++ [f.settle, f.tolerance, f.valid])
  | .lensGoto h preset => some (0x51, h, [preset])
  | .lensHome h => some (0x52, h, [])
  | .camAccess h f => some (0x60, h, [f.kind] ++ be2 f.param.toNat ++ be4 f.value.toNat)
  | .transactionStart | .transactionEnd _ | .hardReset | .nresetRelease | .selfCheckPass | .selfCheckFailure
  | .triggerPinEdge .. | .holdoffTimerExpiry _ | .periodTimerExpiry | .staleTimerExpiry _ | .triggerDispatch _
  | .exposureDeadlineExpiry _ | .upstreamPacketEnd .. | .beacon _ | .lockCheckExpiry _ | .wakeTimerExpiry _
  | .relockTimerExpiry _ | .helloTimerExpiry _ | .wakeSend _ | .creditSend _ | .downQueueStart _ | .downPacketSent _
  | .answerDeadlineExpiry .. | .probeTimerExpiry .. | .reprobeTimerExpiry _ | .inrushTimerExpiry _
  | .sampleTimerExpiry .. | .fullSessionTimerExpiry _ | .backoffTimerExpiry _ | .poolSample _ | .admission
  | .lensPacketHandIn _ | .settleTimerExpiry _ | .holdAsserted | .holdDeasserted | .transmissionStart
  | .transmissionComplete | .watermarkReached _ | .meterGrant | .calibrationComplete .. | .liveShotComplete _
  | .fullMeasurementComplete .. | .calibrationAgeExpiry | .flexWindowExpiry _ | .dischargeTimerExpiry => none

/-- A request frame (R191): the length byte, the kind, the host tag, the port field, the payload, the CRC-16. -/
def requestFrame (x : Byte × ReqHeader × List Byte) : List Byte :=
  let body := [x.1] ++ be2 x.2.1.tag.toNat ++ [x.2.1.port] ++ x.2.2
  let l := be1 body.length ++ body
  l ++ crc16Bytes l

end Sys2Proof.Machine
end

