-- ==== Sys2Proof/Certificates/Slice0/Obligations.lean ====
section
/-! DEFINITION. The statements about the hub. -/

section Statements

open Sys2Proof Sys2Proof.Machine

/-! ## The machine -/

/-- A step takes the command at the front of the queue and is its meaning on the state with the queue's rest. On an empty
queue a microsecond passes, and nothing else; the clocks stand while nRESET is asserted. That a step without a command is a
microsecond is the model's choice (log entries 2 and 26). -/
def Obligations.StepRunsTheFrontCommand : Prop :=
  (∀ (c : Instr) (rest : List Instr) (s : State),
    s.pending = c :: rest → step s = exec c { s with pending := rest })
  ∧ ∀ s : State, s.pending = [] → step s = .next (if s.nreset then s else { s with time := s.time + 1 })

/-! ## Reset (R27, R50, R72, R73, R79, R92, R126, R130, R133, R142, R150, R160, R167, R186, R189) -/

/-- HARD_RESET brings every block to its hard-reset values, the cable knowledge included; the clocks are 0, the queues
empty and ATTN deasserted while nRESET is asserted (R189). The HOLD input is a pin and keeps its level (log entry 13). The
release of nRESET begins INIT with its 5 ms self-check. A pass enters CONFIG and begins pool sampling; a failure enters
HALTED with the failure flag (R186, R189). A timer's expiry brings the time base to its end (log entry 2). -/
def Obligations.ResetAndSelfCheck : Prop :=
  (∀ s : State, ∃ t, exec .hardReset s = .next t ∧ t.nreset = true ∧ t.usClock = 0 ∧ t.msClock = 0 ∧ t.attn = false
    ∧ t.selfCheck = none ∧ t.ports = Vector.replicate 8 {} ∧ t.pool = {} ∧ t.router = {}
    ∧ t.output = { holdPin := s.output.holdPin } ∧ t.relay = [] ∧ t.meter = {} ∧ t.kinds = Vector.replicate 8 {}
    ∧ t.breaks = {} ∧ t.link = {} ∧ t.pending = s.pending)
  ∧ (∀ s : State, s.nreset = true →
    exec .nresetRelease s = .next { s with nreset := false, selfCheck := some (s.time + 5000) })
  ∧ (∀ (s : State) (d : Nat), s.nreset = false → s.link.opState = .init → s.selfCheck = some d →
    exec .selfCheckPass s = .next { s with
      time := max s.time d, selfCheck := none, link := { s.link with opState := .config }
      pool := { s.pool with sampleTimer := some (max s.time d + 1000) } })
  ∧ (∀ (s : State) (d : Nat), s.nreset = false → s.link.opState = .init → s.selfCheck = some d →
    exec .selfCheckFailure s = .next { s with
      time := max s.time d, selfCheck := none, link := { s.link with opState := .halted, failure := true } })

/-- The values the spec gives the hub after a hard reset. -/
def Obligations.ResetValues : Prop :=
  State.reset.link.opState = .init ∧ State.reset.link.failure = false ∧ State.reset.usClock = 0 ∧ State.reset.msClock = 0
    ∧ State.reset.link.mask = BitVec.allOnes 9 ∧ State.reset.link.written = [] ∧ State.reset.link.notices = []
    ∧ State.reset.link.frameRejected = false ∧ State.reset.link.requestDropped = false
    ∧ State.reset.link.noticesLost = false ∧ State.reset.link.counters = {}
    ∧ State.reset.pool.settings = { budget := 0, vPool := 24000, derate := 21500, kill := 19000, trip := 5000 }
    ∧ State.reset.pool.derate = false ∧ State.reset.pool.feedEnable = true ∧ State.reset.pool.queue = []
    ∧ State.reset.pool.admitted = [] ∧ State.reset.router.period = 0 ∧ State.reset.router.tagCounter = 0
    ∧ State.reset.output.sending = none ∧ State.reset.output.highPtr = 8 ∧ State.reset.output.lowPtr = 7
    ∧ State.reset.relay = [] ∧ State.reset.meter.holder = none ∧ State.reset.meter.livePtr = 7
    ∧ State.reset.meter.timebase.p = 125 ∧ State.reset.meter.timebase.valid = false ∧ State.reset.breaks.findings = []
    ∧ (∀ i, State.reset.kinds.get i = { velocity := 660, loop := 150, connector := 200 })
    ∧ (∀ i, State.reset.router.pins.get i = { edge := .off, holdoff := 0, timer := none })
    ∧ ∀ p, (State.reset.port p).tether.link = .down ∧ (State.reset.port p).tether.downTag = 0
        ∧ (State.reset.port p).feed.power = .disabled ∧ (State.reset.port p).feed.enabled = false
        ∧ (State.reset.port p).feed.settings =
            { priority := 1, cableKind := 0, declaredLength := 0, vMin := 18000, lensPower := 0, retryLimit := 3
              damagedPolicy := .drop, autoHome := true, flexThreshold := 12, drift := 25, defaultExposure := 1000
              holdLimit := 100, outputGroup := .low }
        ∧ (State.reset.port p).capture.program = [] ∧ (State.reset.port p).capture.exposure = none
        ∧ (State.reset.port p).lens.kind = .noLens ∧ (State.reset.port p).lens.state = .absent
        ∧ (∀ q, ((State.reset.port p).lens.presets.get q).valid = false)
        ∧ (State.reset.port p).ingress.queue = [] ∧ (State.reset.port p).ingress.record = .empty
        ∧ (State.reset.port p).ingress.expected = 1 ∧ (State.reset.port p).cable.echoBase = none
        ∧ (State.reset.port p).cable.diag = .clear
        ∧ (State.reset.port p).cable.reactions.toList =
            [.diagnose, .retry, .retry, .diagnose, .diagnose, .retry, .diagnose, .retry, .cut, .report, .report, .hold,
              .hold, .cut]

/-! ## Transactions (R179 to R183) -/

/-- At its start a transaction takes the oldest written reply, else the oldest notice, else idle fill, and a status byte
that tells the operating state, the three flags and whether more waits; nothing else changes (R183, R191). -/
def Obligations.TransactionStartChoosesTheFrame : Prop :=
  ∀ s : State, s.nreset = false → s.link.transaction = none →
    ∃ x : Transaction, exec .transactionStart s = .next (s.onLink fun l => { l with transaction := some x })
      ∧ (∀ r rest, s.link.written = r :: rest → x.chosen = .reply ∧ x.frame = r.frame)
      ∧ (s.link.written = [] → ∀ n rest, s.link.notices = n :: rest → x.chosen = .notice ∧ x.frame = n.frame)
      ∧ (s.link.written = [] → s.link.notices = [] → x.chosen = .idle ∧ x.frame = [])
      ∧ x.status.toNat / 64 = (match s.link.opState with | .init => 0 | .config => 1 | .run => 2 | .halted => 3)
      ∧ x.status.getLsbD 5 = s.link.frameRejected ∧ x.status.getLsbD 4 = s.link.requestDropped
      ∧ x.status.getLsbD 3 = s.link.noticesLost
      ∧ x.status.getLsbD 2 = decide (2 ≤ s.link.written.length + s.link.notices.length)
      ∧ x.status.getLsbD 1 = false ∧ x.status.getLsbD 0 = false
      ∧ x.clearRejected = s.link.frameRejected ∧ x.clearDropped = s.link.requestDropped
      ∧ x.clearLost = s.link.noticesLost

/-- The end of a transaction that carries a NULL frame, or in which no byte was clocked in: a frame clocked out whole
leaves its queue, one cut off stays and counts as resent, and the flags that a status byte clocked out whole reported are
cleared (R179, R183). -/
def Obligations.TransactionEndSettlesTheFrame : Prop :=
  ∀ (s : State) (x : Transaction) (sdi : List Byte), s.link.transaction = some x → (∀ n ∈ sdi.head?, n = 0) →
    ∃ l : Link,
      exec (.transactionEnd sdi) s = .next { s with link := { l with
        transaction := none, sdo := (x.status :: x.frame ++ List.replicate sdi.length 0).take sdi.length
        frameRejected := s.link.frameRejected && !(x.clearRejected && decide (sdi ≠ []))
        requestDropped := s.link.requestDropped && !(x.clearDropped && decide (sdi ≠ []))
        noticesLost := s.link.noticesLost && !(x.clearLost && decide (sdi ≠ [])) } }
      ∧ (x.chosen = .idle → l = s.link)
      ∧ (x.chosen ≠ .idle → sdi.length ≤ x.frame.length →
          l = { s.link with counters := { s.link.counters with resent := bump s.link.counters.resent } })
      ∧ (x.chosen = .reply → x.frame.length < sdi.length →
          l = { s.link with
                written := s.link.written.tail
                counters := { s.link.counters with repliesSent := bump s.link.counters.repliesSent } })
      ∧ (x.chosen = .notice → x.frame.length < sdi.length →
          l = { s.link with
                notices := s.link.notices.tail
                counters := { s.link.counters with noticesSent := bump s.link.counters.noticesSent } })

/-- A rejected request frame raises the counter of its class and the frame-rejected flag, and does nothing else, after
the outgoing frame has been settled: a length above 250 is TOO_LONG; a length of 1 to 3, or fewer bytes than the length
and the CRC ask for, is MUTILATED; a differing CRC-16 is CRC_BAD (R180). -/
def Obligations.BadRequestFramesAreRejected : Prop :=
  ∀ (s : State) (x : Transaction) (n : Byte) (rest : List Byte), s.link.transaction = some x →
    (250 < n.toNat →
      exec (.transactionEnd (n :: rest)) s = .next { s with link := { s.link.settle x (rest.length + 1) with
        frameRejected := true
        counters := { (s.link.settle x (rest.length + 1)).counters with
          tooLong := bump (s.link.settle x (rest.length + 1)).counters.tooLong } } })
    ∧ (1 ≤ n.toNat → n.toNat ≤ 250 → (n.toNat < 4 ∨ rest.length < n.toNat + 2) →
      exec (.transactionEnd (n :: rest)) s = .next { s with link := { s.link.settle x (rest.length + 1) with
        frameRejected := true
        counters := { (s.link.settle x (rest.length + 1)).counters with
          mutilated := bump (s.link.settle x (rest.length + 1)).counters.mutilated } } })
    ∧ (4 ≤ n.toNat → n.toNat ≤ 250 → n.toNat + 2 ≤ rest.length →
        crc16Bytes (n :: rest.take n.toNat) ≠ (rest.drop n.toNat).take 2 →
      exec (.transactionEnd (n :: rest)) s = .next { s with link := { s.link.settle x (rest.length + 1) with
        frameRejected := true
        counters := { (s.link.settle x (rest.length + 1)).counters with
          crcBad := bump (s.link.settle x (rest.length + 1)).counters.crcBad } } })

/-- A SOUND frame is judged after the outgoing frame has been settled: a request it carries has its own effect, and a
kind that names no request or a payload of another length is answered BAD_REQUEST with the kind, host tag and port field
as received (R179, R181, R191). That such a frame counts as a request taken, and what the nine bytes of the reply to a
CAM_ACCESS of another length hold, are the model's reading (log entry 20). -/
def Obligations.SoundFramesAreCarriedOut : Prop :=
  ∀ (s : State) (x : Transaction) (sdi : List Byte), s.link.transaction = some x → frameClass sdi = .sound →
    (∀ i, readRequest sdi = some i →
      exec (.transactionEnd sdi) s = exec i { s with link := s.link.settle x sdi.length })
    ∧ (readRequest sdi = none → ({ s with link := s.link.settle x sdi.length } : State).listens →
      exec (.transactionEnd sdi) s =
        .next ((({ s with link := s.link.settle x sdi.length } : State).onLink fun l =>
          { l with counters := { l.counters with badRequest := bump l.counters.badRequest } }).replied (byteAt sdi 1)
            { tag := halfAt sdi 2, port := byteAt sdi 4 } .badRequest
              (if byteAt sdi 1 ≠ 0x60 then []
               else (if (byteAt sdi 0).toNat = 4 then [0xFF] else [byteAt sdi 5])
                 ++ (if (byteAt sdi 0).toNat < 7 then [0xFF, 0xFF] else [byteAt sdi 6, byteAt sdi 7])
                 ++ [0, 0, 0, 0, 0, 0])))

/-- Every request the host can send, laid out as R191 and R194 say, is read back as itself from a frame that is SOUND:
no bit of a request is dropped. -/
def Obligations.RequestFramesReadBack : Prop :=
  ∀ (i : Instr) (x : Byte × ReqHeader × List Byte), i.wellFormed = true → requestBytes i = some x →
    frameClass (requestFrame x) = .sound ∧ readRequest (requestFrame x) = some i

/-- A request that arrives in INIT, in HALTED (IDENTIFY apart) or while no reply entry is free is not taken: it sets the
request-dropped flag, raises the dropped counter, and has no other effect (R181). -/
def Obligations.UntakenRequestsAreDropped : Prop :=
  ∀ (i : Instr) (s : State), isRequest i = true → s.nreset = false →
    (s.link.opState = .init ∨ (s.link.opState = .halted ∧ ∀ h, i ≠ .identify h) ∨ ¬ s.hasRoom) →
    exec i s = .next (s.onLink fun l =>
      { l with
        requestDropped := true
        transaction := l.transaction.map fun t => { t with clearDropped := false }
        counters := { l.counters with dropped := bump l.counters.dropped } })


/-! ## Requests that read -/

/-- IDENTIFY, in CONFIG, RUN and HALTED, answers DONE with the identity fields of R191 and changes nothing else; the
hardware step is a free value (log entry 12). The reading requests answer DONE, or ADJUSTED for a clamped READ_FINDINGS
count, and change nothing else: READ_HUB, READ_POOL, READ_CABLE, READ_PORT and READ_COUNTERS without its clear option
with the payload their rules list (laid out by the functions named here), READ_FINDINGS with the number of entries, the
number of records and the records, newest first (R26, R49, R71, R159, R177, R178, R186, R193). The port status record
has 83 bytes, 10 more for each pending trigger and 12 more for each relay entry of the port; a finding record has 20
bytes, and a latest finding of none is 20 bytes of 0xFF (R193). Payloads without a layout of their own, among them that
of READ_COUNTERS, are read from R190 (log entry 9). -/
def Obligations.ReadingRequestsOnlyReply : Prop :=
  (∀ (h : ReqHeader) (s : State), s.nreset = false → s.link.opState ≠ .init → s.hasRoom →
    exec (.identify h) s = .next (s.replied 0x01 h .done
      ([0x5C#8, 0x08#8, Config.hardwareStep, 8#8,
          match s.link.opState with | .init => 0#8 | .config => 1#8 | .run => 2#8 | .halted => 3#8,
          if s.link.failure then 1#8 else 0#8]
        ++ be4 s.usClock.toNat ++ be4 s.msClock.toNat)))
  ∧ (∀ (h : ReqHeader) (s : State), s.listens →
    exec (.readHub h) s = .next (s.replied 0x05 h .done s.counted.hubBytes)
    ∧ exec (.readPool h) s = .next (s.replied 0x11 h .done s.poolBytes)
    ∧ (∀ offset count : Byte, exec (.readFindings h offset count) s =
        .next (s.replied 0x25 h (if count.toNat = 0 ∨ 8 < count.toNat then .adjusted else .done)
          (be1 s.breaks.findings.length
            ++ be1 ((s.breaks.findings.reverse.drop offset.toNat).take (max 1 (min 8 count.toNat))).length
            ++ ((s.breaks.findings.reverse.drop offset.toNat).take (max 1 (min 8 count.toNat))).flatMap Finding.bytes)))
    ∧ ∀ p, portOf h.port = some p →
        exec (.readCable h) s = .next (s.replied 0x24 h .done (s.cableBytes p))
        ∧ exec (.readPort h) s = .next (s.replied 0x35 h .done (s.portBytes p))
        ∧ exec (.readCounters h 0) s = .next (s.replied 0x36 h .done ((s.port p).counterValues.flatMap be4)))
  ∧ (∀ (s : State) (p : PortId),
    (s.portBytes p).length
      = 83 + 10 * (s.port p).capture.queue.length + 12 * (s.relay.filter fun r => decide (r.port = p)).length)
  ∧ (∀ f : Finding, f.bytes.length = 20) ∧ latestBytes none = List.replicate 20 0xFF

/-- A request that names a port and carries a port field of 8 or more, or 0xFF, is answered BAD_ARGUMENT and changes
nothing else (R181, R191); the reply to a CAM_ACCESS carries its nine bytes. So is a field that names no member of its
list: a cable kind index above 7 (R153); a cable kind, damaged policy, auto-home value or output group of SET_PORT
(R48); a fault kind or a reaction (R167); a source, an edge selection, an edge selection or holdoff of PERIOD and a
period of a pin source (R77); a preset index (R105); an access kind, or a parameter above 4095 (R136). That auto-home is
coded by its place in the table of R48 is the model's reading (log entry 36). -/
def Obligations.StructuralErrorsAreBadArgument : Prop :=
  (∀ (h : ReqHeader) (s : State), s.listens → 8 ≤ h.port.toNat →
    (∀ c code, (c, code) ∈ [(Instr.cableLearn h, 0x22#8), (.readCable h, 0x24#8), (.portEnable h, 0x32#8),
        (.portDisable h, 0x33#8), (.portRelease h, 0x34#8), (.readPort h, 0x35#8), (.lensHome h, 0x52#8)] →
      exec c s = .next (s.replied code h .badArgument []))
    ∧ (∀ b, exec (.diagnose h b) s = .next (s.replied 0x23 h .badArgument []))
    ∧ (∀ f, exec (.setPort h f) s = .next (s.replied 0x30 h .badArgument []))
    ∧ (∀ k r, exec (.setReaction h k r) s = .next (s.replied 0x31 h .badArgument []))
    ∧ (∀ b, exec (.readCounters h b) s = .next (s.replied 0x36 h .badArgument []))
    ∧ (∀ m l, exec (.setProgram h m l) s = .next (s.replied 0x42 h .badArgument []))
    ∧ (∀ f, exec (.setPreset h f) s = .next (s.replied 0x50 h .badArgument []))
    ∧ (∀ b, exec (.lensGoto h b) s = .next (s.replied 0x51 h .badArgument []))
    ∧ ∀ f, exec (.camAccess h f) s =
        .next (s.replied 0x60 h .badArgument ([f.kind] ++ be2 f.param.toNat ++ [0, 0, 0, 0, 0, 0])))
  ∧ ∀ (h : ReqHeader) (s : State), s.listens →
    (∀ f : SetCableKindFields, 8 ≤ f.index.toNat →
      exec (.setCableKind h f) s = .next (s.replied 0x20 h .badArgument []))
    ∧ (∀ f : SetPortFields, (named f.mask 1 = true ∧ 8 ≤ f.cableKind.toNat)
          ∨ (named f.mask 6 = true ∧ 2 ≤ f.damagedPolicy.toNat) ∨ (named f.mask 7 = true ∧ 2 ≤ f.autoHome.toNat)
          ∨ (named f.mask 12 = true ∧ 2 ≤ f.outputGroup.toNat) →
        exec (.setPort h f) s = .next (s.replied 0x30 h .badArgument []))
    ∧ (∀ kind reaction : Byte, 14 ≤ kind.toNat ∨ 5 ≤ reaction.toNat →
        exec (.setReaction h kind reaction) s = .next (s.replied 0x31 h .badArgument []))
    ∧ (∀ f : SetSourceFields, 5 ≤ f.source.toNat ∨ (named f.mask 0 = true ∧ 4 ≤ f.edge.toNat)
          ∨ (f.source.toNat = 4 ∧ (named f.mask 0 = true ∨ named f.mask 1 = true))
          ∨ (f.source.toNat < 4 ∧ named f.mask 2 = true) →
        exec (.setSource h f) s = .next (s.replied 0x40 h .badArgument []))
    ∧ (∀ preset : Byte, 16 ≤ preset.toNat → exec (.lensGoto h preset) s = .next (s.replied 0x51 h .badArgument []))
    ∧ ∀ f : CamAccessFields, 2 ≤ f.kind.toNat ∨ 4095 < f.param.toNat →
        exec (.camAccess h f) s =
          .next (s.replied 0x60 h .badArgument ([f.kind] ++ be2 f.param.toNat ++ [0, 0, 0, 0, 0, 0]))

/-! ## Requests that write settings -/

/-- SET_NOTICE_MASK writes the whole mask and leaves the notices already queued. An offered notice whose kind is masked off
is counted as masked; one that finds 32 notices queued is lost, with the notices-lost flag and its counter; any other joins
the tail (R184). -/
def Obligations.NoticesPassTheMaskAndTheQueue : Prop :=
  (∀ (h : ReqHeader) (mask : Half) (s : State), s.listens →
    exec (.setNoticeMask h mask) s =
      .next ((s.onLink fun l => { l with mask := mask.setWidth 9 }).replied 0x06 h .done []))
  ∧ ∀ (l : Link) (n : Notice),
    (l.mask.getLsbD n.kindIndex.val = false →
      l.join n = { l with counters := { l.counters with masked := bump l.counters.masked } })
    ∧ (l.mask.getLsbD n.kindIndex.val = true → 32 ≤ l.notices.length →
      l.join n = { l with
        noticesLost := true
        transaction := l.transaction.map fun t => { t with clearLost := false }
        counters := { l.counters with lost := bump l.counters.lost } })
    ∧ (l.mask.getLsbD n.kindIndex.val = true → l.notices.length < 32 → l.join n = { l with notices := l.notices ++ [n] })

/-- SET_POOL in CONFIG writes the named settings, each clamped to its range, holds the kill threshold 500 mV under the
derate threshold, and brings every V_min down to a written V_pool; the reply is ADJUSTED exactly when one of these changed
a value (R52). -/
def Obligations.SetPoolWritesThePoolSettings : Prop :=
  ∀ (h : ReqHeader) (f : SetPoolFields) (s : State), s.listens → s.link.opState = .config →
    ∃ (q : PoolSettings) (st : Status),
      exec (.setPool h f) s = .next
        (({ s with
            pool := { s.pool with settings := q }
            ports :=
              if named f.mask 1 then
                s.ports.map (fun x => { x with feed := { x.feed with
                  settings := { x.feed.settings with vMin := min x.feed.settings.vMin q.vPool } } })
              else s.ports } : State).replied 0x10 h st [])
      ∧ q.budget = (if named f.mask 0 then clampTo 0 120000 f.budget.toNat else s.pool.settings.budget)
      ∧ q.vPool = (if named f.mask 1 then clampTo 12000 48000 f.vPool.toNat else s.pool.settings.vPool)
      ∧ q.derate = (if named f.mask 2 then clampTo 9500 48000 f.derate.toNat else s.pool.settings.derate)
      ∧ q.kill = min (if named f.mask 3 then clampTo 9000 47500 f.kill.toNat else s.pool.settings.kill) (q.derate - 500)
      ∧ q.trip = (if named f.mask 4 then clampTo 100 10000 f.trip.toNat else s.pool.settings.trip)
      ∧ (st = .done ∨ st = .adjusted)
      ∧ (st = .adjusted ↔
          (named f.mask 0 = true ∧ q.budget ≠ f.budget.toNat) ∨ (named f.mask 1 = true ∧ q.vPool ≠ f.vPool.toNat)
          ∨ (named f.mask 2 = true ∧ q.derate ≠ f.derate.toNat) ∨ (named f.mask 4 = true ∧ q.trip ≠ f.trip.toNat)
          ∨ (named f.mask 3 = true ∧ clampTo 9000 47500 f.kill.toNat ≠ f.kill.toNat)
          ∨ q.derate - 500 < (if named f.mask 3 then clampTo 9000 47500 f.kill.toNat else s.pool.settings.kill)
          ∨ (named f.mask 1 = true ∧ ∃ p, q.vPool < (s.port p).feed.settings.vMin))

/-- SET_CABLE_KIND in CONFIG writes the named fields of one cable kind, each clamped to its range (R153). -/
def Obligations.SetCableKindWritesOneKind : Prop :=
  ∀ (h : ReqHeader) (f : SetCableKindFields) (s : State) (i : Fin 8), s.listens → s.link.opState = .config →
    f.index.toNat = i.val →
    exec (.setCableKind h f) s = .next
      (({ s with kinds := modifyAt s.kinds i fun k =>
          { velocity := if named f.mask 0 then clampTo 500 990 f.velocity.toNat else k.velocity
            loop := if named f.mask 1 then clampTo 1 2000 f.loop.toNat else k.loop
            connector := if named f.mask 2 then clampTo 0 5000 f.connector.toNat else k.connector } } : State).replied 0x20 h
        (if (named f.mask 0 = true ∧ ¬ (500 ≤ f.velocity.toNat ∧ f.velocity.toNat ≤ 990))
            ∨ (named f.mask 1 = true ∧ ¬ (1 ≤ f.loop.toNat ∧ f.loop.toNat ≤ 2000))
            ∨ (named f.mask 2 = true ∧ 5000 < f.connector.toNat) then .adjusted else .done) [])

/-- In RUN, SET_POOL, a SET_CABLE_KIND of an index that exists, and a SET_PORT that names the cable kind, declared length,
V_min, lens power or retry limit are refused REFUSED_STATE, and nothing is written (R48, R52, R153, R187). -/
def Obligations.LockedSettingsAreRefusedInRun : Prop :=
  ∀ (h : ReqHeader) (s : State), s.listens → s.link.opState = .run →
    (∀ f, exec (.setPool h f) s = .next (s.replied 0x10 h .refusedState []))
    ∧ (∀ f : SetCableKindFields, f.index.toNat < 8 →
        exec (.setCableKind h f) s = .next (s.replied 0x20 h .refusedState []))
    ∧ (∀ f : SetPortFields, h.port.toNat < 8 → setPortBad f = false →
        (named f.mask 1 = true ∨ named f.mask 2 = true ∨ named f.mask 3 = true ∨ named f.mask 4 = true
          ∨ named f.mask 5 = true) →
        exec (.setPort h f) s = .next (s.replied 0x30 h .refusedState []))

/-- SET_PORT writes the named settings of a port, each clamped to its range, and leaves the others; the reply is
ADJUSTED exactly when a named value lay outside its range (R48). It is stated for a port without an entry in the
admission queue, which a changed priority would re-sort (R62); in RUN, for a request that names no locked setting. That
auto-home is coded by its place in the table of R48, on 0 and off 1, is the model's reading (log entry 36). -/
def Obligations.SetPortWritesThePortSettings : Prop :=
  ∀ (h : ReqHeader) (f : SetPortFields) (s : State) (p : PortId), s.listens → portOf h.port = some p →
    (s.link.opState = .run → setPortLocked f = false) → setPortBad f = false → (∀ a ∈ s.pool.queue, a.port ≠ p) →
    ∃ (x : PortSettings) (st : Status),
      exec (.setPort h f) s = .next ((s.onFeed p fun y => { y with settings := x }).replied 0x30 h st [])
      ∧ x.priority = (if named f.mask 0 then clampTo 0 3 f.priority.toNat else (s.port p).feed.settings.priority)
      ∧ (if named f.mask 1 then x.cableKind.val = f.cableKind.toNat else x.cableKind = (s.port p).feed.settings.cableKind)
      ∧ x.declaredLength = (if named f.mask 2 then clampTo 0 9999 f.declaredLength.toNat
          else (s.port p).feed.settings.declaredLength)
      ∧ x.vMin = (if named f.mask 3 then clampTo 9000 s.pool.settings.vPool f.vMin.toNat
          else (s.port p).feed.settings.vMin)
      ∧ x.lensPower = (if named f.mask 4 then clampTo 0 5000 f.lensPower.toNat
          else (s.port p).feed.settings.lensPower)
      ∧ x.retryLimit = (if named f.mask 5 then clampTo 0 7 f.retryLimit.toNat
          else (s.port p).feed.settings.retryLimit)
      ∧ x.damagedPolicy = (if named f.mask 6 then (if f.damagedPolicy = 0 then .drop else .forward)
          else (s.port p).feed.settings.damagedPolicy)
      ∧ x.autoHome = (if named f.mask 7 then decide (f.autoHome = 0) else (s.port p).feed.settings.autoHome)
      ∧ x.flexThreshold = (if named f.mask 8 then clampTo 1 255 f.flexThreshold.toNat
          else (s.port p).feed.settings.flexThreshold)
      ∧ x.drift = (if named f.mask 9 then clampTo 5 100 f.drift.toNat else (s.port p).feed.settings.drift)
      ∧ x.defaultExposure = (if named f.mask 10 then clampTo 1 1000000 f.defaultExposure.toNat
          else (s.port p).feed.settings.defaultExposure)
      ∧ x.holdLimit = (if named f.mask 11 then clampTo 0 10000 f.holdLimit.toNat
          else (s.port p).feed.settings.holdLimit)
      ∧ x.outputGroup = (if named f.mask 12 then (if f.outputGroup = 0 then .high else .low)
          else (s.port p).feed.settings.outputGroup)
      ∧ (st = .done ∨ st = .adjusted)
      ∧ (st = .adjusted ↔
          (named f.mask 0 = true ∧ x.priority ≠ f.priority.toNat)
          ∨ (named f.mask 2 = true ∧ x.declaredLength ≠ f.declaredLength.toNat)
          ∨ (named f.mask 3 = true ∧ x.vMin ≠ f.vMin.toNat) ∨ (named f.mask 4 = true ∧ x.lensPower ≠ f.lensPower.toNat)
          ∨ (named f.mask 5 = true ∧ x.retryLimit ≠ f.retryLimit.toNat)
          ∨ (named f.mask 8 = true ∧ x.flexThreshold ≠ f.flexThreshold.toNat)
          ∨ (named f.mask 9 = true ∧ x.drift ≠ f.drift.toNat)
          ∨ (named f.mask 10 = true ∧ x.defaultExposure ≠ f.defaultExposure.toNat)
          ∨ (named f.mask 11 = true ∧ x.holdLimit ≠ f.holdLimit.toNat))

/-- SET_REACTION writes one entry of a port's reaction table; a reaction that the kind does not allow is replaced by the
kind's default and answered ADJUSTED (R167). -/
def Obligations.SetReactionWritesTheTable : Prop :=
  ∀ (h : ReqHeader) (kind reaction : Byte) (s : State) (p : PortId) (k : FaultKind) (r : Reaction), s.listens →
    portOf h.port = some p → k.index.val = kind.toNat → r.code = reaction.toNat →
    exec (.setReaction h kind reaction) s = .next
      ((s.onCable p fun c => { c with
          reactions := c.reactions.set k.index.val
            (if r ∈ k.allowed then r else defaultReactions.get k.index) k.index.isLt }).replied 0x31 h
        (if r ∈ k.allowed then .done else .adjusted) [])

/-- SET_SOURCE writes the named settings of one source, each clamped to its range, and leaves the others; a running
holdoff timer runs on, and a nonzero period written in RUN while the period timer is stopped starts it; a period that is
not named stays, and its timer with it (R74, R75, R77). -/
def Obligations.SetSourceWritesOneSource : Prop :=
  (∀ (h : ReqHeader) (f : SetSourceFields) (s : State) (i : Fin 4), s.listens → f.source.toNat = i.val →
    (named f.mask 0 = true → f.edge.toNat < 4) → named f.mask 2 = false →
    exec (.setSource h f) s = .next
      (({ s with router := { s.router with
          pins := modifyAt s.router.pins i fun x => { x with
            edge := if named f.mask 0 then
                (match f.edge.toNat with | 0 => .off | 1 => .rising | 2 => .falling | _ => .both) else x.edge
            holdoff := if named f.mask 1 then min 65535 f.holdoff.toNat else x.holdoff }
          map := if named f.mask 3 then s.router.map.set i.val f.portMask (by omega) else s.router.map } } : State).replied
        0x40 h (if named f.mask 1 = true ∧ 65535 < f.holdoff.toNat then .adjusted else .done) []))
  ∧ (∀ (h : ReqHeader) (f : SetSourceFields) (s : State) (period : Nat), s.listens → f.source = 4 →
    named f.mask 0 = false → named f.mask 1 = false →
    period = (if named f.mask 2 = false then s.router.period
      else if f.period = 0 then 0 else clampTo 100 10000000 f.period.toNat) →
    exec (.setSource h f) s = .next
      (({ s with router := { s.router with
          period := period
          periodTimer :=
            if named f.mask 2 = true ∧ s.link.opState = .run ∧ s.router.periodTimer = none ∧ period ≠ 0 then
              some (s.time + period)
            else s.router.periodTimer
          map := if named f.mask 3 then s.router.map.set 4 f.portMask else s.router.map } } : State).replied 0x40 h
        (if named f.mask 2 = true ∧ period ≠ f.period.toNat then .adjusted else .done) []))

/-- SET_PROGRAM writes a port's capture program with its exposures clamped: as the running program with the cursor at 0 and
no staged program in mode NOW or without a running program, as the staged program otherwise (R83). A step count above 8, a
preset byte that is neither 0 to 15 nor NONE, or a mode that names no member gives BAD_ARGUMENT, and nothing is written. -/
def Obligations.SetProgramWritesTheProgram : Prop :=
  ∀ (h : ReqHeader) (mode : Byte) (steps : List WireStep) (s : State) (p : PortId), s.listens → portOf h.port = some p →
    (mode.toNat < 2 → steps.length ≤ 8 → (∀ x ∈ steps, x.preset.toNat < 16 ∨ x.preset = 0xFF) →
      ∃ l : List ProgramStep,
        l.length = steps.length
        ∧ (∀ (k : Nat) (x : WireStep) (y : ProgramStep), steps[k]? = some x → l[k]? = some y →
            y.exposure = clampTo 1 1000000 x.exposure.toNat
            ∧ y.preset.map Fin.val = if x.preset = 0xFF then none else some x.preset.toNat)
        ∧ exec (.setProgram h mode steps) s = .next
            ((s.onCapture p fun c =>
                if mode = 1 ∧ c.program ≠ [] then { c with staged := some l }
                else { c with program := l, cursor := 0, staged := none }).replied 0x42 h
              (if ∃ x ∈ steps, x.exposure.toNat = 0 ∨ 1000000 < x.exposure.toNat then .adjusted else .done) []))
    ∧ ((2 ≤ mode.toNat ∨ 8 < steps.length ∨ ∃ x ∈ steps, 16 ≤ x.preset.toNat ∧ x.preset ≠ 0xFF) →
      exec (.setProgram h mode steps) s = .next (s.replied 0x42 h .badArgument []))

/-- SET_PRESET writes the named fields of one preset, each brought down to the top of its range, and leaves the others; an
index above 15 gives BAD_ARGUMENT, and nothing is written (R94). -/
def Obligations.SetPresetWritesOnePreset : Prop :=
  ∀ (h : ReqHeader) (f : SetPresetFields) (s : State) (p : PortId), s.listens → portOf h.port = some p →
    (∀ i : Fin 16, f.index.toNat = i.val →
      exec (.setPreset h f) s = .next
        ((s.onLens p fun l => { l with presets := modifyAt l.presets i fun q =>
            { focus := if named f.mask 0 then min 4095 f.focus.toNat else q.focus
              iris := if named f.mask 1 then min 255 f.iris.toNat else q.iris
              zoom := if named f.mask 2 then min 1023 f.zoom.toNat else q.zoom
              settle := if named f.mask 3 then min 100 f.settle.toNat else q.settle
              tolerance := if named f.mask 4 then min 64 f.tolerance.toNat else q.tolerance
              valid := if named f.mask 5 then decide (f.valid ≠ 0) else q.valid } }).replied 0x50 h
          (if (named f.mask 0 = true ∧ 4095 < f.focus.toNat) ∨ (named f.mask 1 = true ∧ 255 < f.iris.toNat)
              ∨ (named f.mask 2 = true ∧ 1023 < f.zoom.toNat) ∨ (named f.mask 3 = true ∧ 100 < f.settle.toNat)
              ∨ (named f.mask 4 = true ∧ 64 < f.tolerance.toNat) then .adjusted else .done) []))
    ∧ (16 ≤ f.index.toNat → exec (.setPreset h f) s = .next (s.replied 0x50 h .badArgument []))

/-! ## Requests that move the hub and its ports -/

/-- ENTER_RUN in RUN changes nothing; with a pool budget of 0 it is answered BAD_CONFIG and changes nothing; otherwise the
hub enters RUN with the three sample counts at 0 and the period timer started, and each enabled port goes through the check
of R31, in port order, with cause ENABLE (R31, R64, R75, R187). -/
def Obligations.EnterRunStartsTheHub : Prop :=
  ∀ (h : ReqHeader) (s : State), s.listens →
    (s.link.opState = .run → exec (.enterRun h) s = .next (s.replied 0x03 h .done []))
    ∧ (s.link.opState = .config → s.pool.settings.budget = 0 →
        exec (.enterRun h) s = .next (s.replied 0x03 h .badConfig []))
    ∧ (s.link.opState = .config → s.pool.settings.budget ≠ 0 → ∃ ports : Vector Port 8,
        exec (.enterRun h) s = .next
          ((({ s with
              link := { s.link with opState := .run }
              pool := { s.pool with lowCount := 0, recoveryCount := 0, tripCount := 0 }
              router := { s.router with
                periodTimer := if s.router.period = 0 then none else some (s.time + s.router.period) }
              ports := ports } : State).replied 0x03 h .done []).noticed
            (allPorts.filterMap fun p => powerNotice (s.port p) (ports.get p) p .enable))
        ∧ ∀ p, ports.get p =
            if (s.port p).feed.enabled = false then s.port p else (s.port p).checked s.pool.feedEnable s.time)

/-- ENTER_CONFIG in CONFIG changes nothing. In RUN it leaves every port DISABLED, its lens ABSENT, no trigger pending, no
exposure open, no slot occupied and no frame open; no camera access is unanswered, the admission queue and the diagnosis
queue are empty, DERATE is off and the router's timers stand; every setting, program, preset, enabled flag and the echo
baselines are kept, and DONE is the last reply written (R50, R72, R73, R91, R124, R141, R174, R188). A port that a
diagnosis held is CLEAR (R174). The link of a port whose feed was on, that a diagnosis held or that was DOWN with nothing
to send is DOWN, its channel idle, its downstream queue and answer table empty (R16, R27). The relay is empty, where the
two counts of each port enclose its queue and no watermark lies beyond the ingress count (R111, R124, R138). -/
def Obligations.EnterConfigQuietsTheHub : Prop :=
  ∀ (h : ReqHeader) (s : State), s.listens →
    (s.link.opState = .config → exec (.enterConfig h) s = .next (s.replied 0x04 h .done []))
    ∧ (s.link.opState = .run → ∃ t, exec (.enterConfig h) s = .next t
        ∧ t.link.opState = .config ∧ t.pool.derate = false ∧ t.pool.lowCount = 0 ∧ t.pool.recoveryCount = 0
        ∧ t.pool.tripCount = 0 ∧ t.pool.queue = [] ∧ t.pool.feedEnable = s.pool.feedEnable
        ∧ t.pool.settings = s.pool.settings ∧ t.router.periodTimer = none
        ∧ (∀ i, t.router.pins.get i = { s.router.pins.get i with timer := none })
        ∧ t.router.period = s.router.period ∧ t.router.map = s.router.map ∧ t.router.tagCounter = s.router.tagCounter
        ∧ t.breaks.queue = [] ∧ t.breaks.findings = s.breaks.findings ∧ t.kinds = s.kinds
        ∧ (∀ r ∈ t.relay, r.stage.unanswered = false)
        ∧ ((∀ p, (s.port p).ingress.egressCount + BitVec.ofNat 32 (s.port p).ingress.queue.length
                = (s.port p).ingress.ingressCount) →
            (∀ r ∈ s.relay, ∀ code value w cut, r.stage = .held code value w cut →
              ((s.port r.port).ingress.ingressCount - w).toNat < 2 ^ 30) →
            t.relay = [])
        ∧ (∃ l, t.link.written = l ++ [{ code := 0x04, tag := h.tag, port := h.port, status := .done, payload := [] }])
        ∧ ∀ p, (t.port p).feed.power = .disabled ∧ (t.port p).feed.hold = false ∧ (t.port p).feed.retry = 0
            ∧ (t.port p).feed.invalidCount = 0 ∧ (t.port p).feed.settings = (s.port p).feed.settings
            ∧ (t.port p).feed.enabled = (s.port p).feed.enabled ∧ (t.port p).capture.queue = []
            ∧ (t.port p).capture.exposure = none ∧ (t.port p).capture.program = (s.port p).capture.program
            ∧ (t.port p).lens.state = .absent ∧ (t.port p).lens.presets = (s.port p).lens.presets
            ∧ (t.port p).ingress.queue = [] ∧ (t.port p).ingress.record = .empty
            ∧ (t.port p).cable.echoBase = (s.port p).cable.echoBase
            ∧ ((s.port p).cable.diag = .clear ∨ (∃ x ∈ s.breaks.queue, x.port = p) → (t.port p).cable.diag = .clear)
            ∧ (((s.port p).feed.power.feedOn = true ∧ (s.port p).tether.link ≠ .quiet)
                  ∨ (∃ x ∈ s.breaks.queue, x.port = p)
                  ∨ ((s.port p).tether.link = .down ∧ (s.port p).tether.channel = none
                      ∧ (s.port p).tether.queue = [] ∧ (s.port p).tether.outstanding = []) →
                (t.port p).tether.link = .down ∧ (t.port p).tether.channel = none ∧ (t.port p).tether.queue = []
                ∧ (t.port p).tether.outstanding = []))

/-- RESTART leaves the hub in CONFIG with hard-reset values, both clocks at 0, both queues empty but for its own reply DONE,
and ATTN asserted. It keeps the cable knowledge: the cable kinds, each port's baseline and latest finding, the timebase
record and the findings history. Pool sampling goes on (R189); the discharge of a cable counts from the reset (R50). That
the HOLD input keeps its level is the model's choice (log entry 13). -/
def Obligations.RestartKeepsTheCableKnowledge : Prop :=
  ∀ (h : ReqHeader) (s : State), s.listens → ∃ t, exec (.restart h) s = .next t
    ∧ t.link.opState = .config ∧ t.usClock = 0 ∧ t.msClock = 0 ∧ t.attn = true
    ∧ t.link.written = [{ code := 0x02, tag := h.tag, port := h.port, status := .done, payload := [] }]
    ∧ t.link.notices = [] ∧ t.link.mask = BitVec.allOnes 9 ∧ t.link.frameRejected = false
    ∧ t.link.requestDropped = false ∧ t.link.noticesLost = false ∧ t.link.counters = {} ∧ t.relay = []
    ∧ t.router = {} ∧ t.pool = { sampleTimer := s.pool.sampleTimer } ∧ t.kinds = s.kinds
    ∧ t.meter.timebase = s.meter.timebase ∧ t.meter.counters = {} ∧ t.meter.pendingCal = false
    ∧ t.meter.offered = none ∧ t.breaks = { findings := s.breaks.findings } ∧ t.output.counters = {}
    ∧ t.output.highPtr = 8 ∧ t.output.lowPtr = 7 ∧ t.output.holdPin = s.output.holdPin ∧ t.pending = s.pending
    ∧ ∀ p, t.port p =
        { feed := { lastCut := some s.time, lastProbeEnd := some s.time }
          cable := { echoBase := (s.port p).cable.echoBase, resistanceBase := (s.port p).cable.resistanceBase
                     latest := (s.port p).cable.latest } }

/-- FEED_RESTORE is refused while the latest sample meets the kill condition, changes nothing while the global feed enable
is set, and otherwise sets it and sends every POOL_HALT port through the check of R31 with cause RESTORE; the POOL_EVENT
notice follows the others (R31, R45, R69, R70). -/
def Obligations.FeedRestoreBringsThePortsBack : Prop :=
  ∀ (h : ReqHeader) (s : State), s.listens →
    ((s.pool.sampleMv < s.pool.settings.kill ∨ s.pool.settings.trip < s.pool.sampleMa) →
      exec (.feedRestore h) s = .next
        (({ s with pool := { s.pool with counters := { s.pool.counters with
            restoresRefused := bump s.pool.counters.restoresRefused } } } : State).replied 0x12 h .refusedState []))
    ∧ (s.pool.settings.kill ≤ s.pool.sampleMv → s.pool.sampleMa ≤ s.pool.settings.trip →
        (s.pool.feedEnable = true → exec (.feedRestore h) s = .next (s.replied 0x12 h .done []))
        ∧ (s.pool.feedEnable = false → ∃ (ports : Vector Port 8) (halted : List PortId),
            halted = (allPorts.filter fun p => decide ((s.port p).feed.power = .poolHalt))
            ∧ exec (.feedRestore h) s = .next
                ((({ s with pool := { s.pool with feedEnable := true }, ports := ports } : State).replied 0x12 h .done
                  []).noticed
                  ((halted.filterMap fun p => powerNotice (s.port p) (ports.get p) p .restore)
                    ++ [.poolEvent .restored s.pool.sampleMv s.pool.sampleMa s.pool.effectiveBudget s.allocationSum
                          halted]))
            ∧ ∀ p, ports.get p =
                if (s.port p).feed.power ≠ .poolHalt then s.port p
                else if (s.port p).cable.diag ≠ .clear then
                  { s.port p with feed := (s.port p).feed.enter .diagnosing }
                else { s.port p with feed :=
                  { (s.port p).feed.enter .probing with probeTimer := some (s.time + 20000) } }))

/-- PORT_ENABLE sets the enabled flag: in CONFIG nothing more, in RUN a DISABLED port goes through the check of R31, and
a port in any other state is left as it is (R31). PORT_RELEASE takes a LOCKED_OUT port, its retry count at 0, through
the same check, clears the HOLD flag of a port with no trigger pending and no lens packet waiting, and changes nothing
otherwise (R42, R47). -/
def Obligations.EnableAndReleaseActOnThePort : Prop :=
  ∀ (h : ReqHeader) (s : State) (p : PortId), s.listens → portOf h.port = some p →
    (s.link.opState = .config →
      exec (.portEnable h) s = .next ((s.onFeed p fun f => { f with enabled := true }).replied 0x32 h .done []))
    ∧ (s.link.opState = .run → (s.port p).feed.power ≠ .disabled →
        exec (.portEnable h) s = .next (s.replied 0x32 h .done []))
    ∧ (∀ f : Feed, f = (if (s.port p).cable.diag ≠ .clear then (s.port p).feed.enter .diagnosing
            else if s.pool.feedEnable = false then (s.port p).feed.enter .poolHalt
            else { (s.port p).feed.enter .probing with probeTimer := some (s.time + 20000) }) →
        (s.link.opState = .run → (s.port p).feed.power = .disabled →
          exec (.portEnable h) s = .next
            (((s.onFeed p fun _ => { f with enabled := true }).replied 0x32 h .done []).noticed
              [.powerChange p .disabled f.power f.hold f.retry .enable]))
        ∧ ((s.port p).feed.power = .lockedOut →
          exec (.portRelease h) s = .next
            (((s.onFeed p fun _ => { f with retry := 0 }).replied 0x34 h .done []).noticed
              [.powerChange p .lockedOut f.power f.hold 0 .release])))
    ∧ ((s.port p).feed.power ≠ .lockedOut → (s.port p).feed.hold = false →
        exec (.portRelease h) s = .next (s.replied 0x34 h .done []))
    ∧ ((s.port p).feed.power ≠ .lockedOut → (s.port p).feed.hold = true → (s.port p).lens.state ≠ .moveWait →
        (s.port p).capture.queue = [] → (s.port p).capture.want = none →
        exec (.portRelease h) s = .next
          (((s.onFeed p fun f => { f with hold := false }).replied 0x34 h .done []).noticed
            [.powerChange p (s.port p).feed.power (s.port p).feed.power false (s.port p).feed.retry .release]))

/-- PORT_DISABLE of a DISABLED port without a diagnosis clears its enabled flag only. A port without feed and without a
diagnosis, lens, trigger, camera access, frame or admission entry enters DISABLED with its timers stopped and its retry
count, consecutive-INVALID count and HOLD flag cleared (R46). -/
def Obligations.PortDisableEndsThePort : Prop :=
  ∀ (h : ReqHeader) (s : State) (p : PortId), s.listens → portOf h.port = some p →
    (∀ x ∈ s.breaks.queue, x.port ≠ p) →
    ((s.port p).feed.power = .disabled →
      exec (.portDisable h) s = .next ((s.onFeed p fun f => { f with enabled := false }).replied 0x33 h .done []))
    ∧ ((s.port p).feed.power ≠ .disabled → (s.port p).feed.power.feedOn = false → (s.port p).feed.power ≠ .bootWait →
        (s.port p).lens = { (s.port p).lens with
          state := .absent, move := none, want := none, held := none, lastTarget := none, settleTimer := none } →
        (s.port p).capture.queue = [] → (s.port p).capture.exposure = none → (s.port p).capture.want = none →
        (s.port p).ingress.record = .empty → (s.port p).ingress.queue = [] → (s.port p).ingress.expected = 1 →
        (s.port p).ingress.counters.flushed ≤ 4294967295 →
        (s.port p).tether.occupied = 0 → (s.port p).tether.unreturned = 0 →
        (∀ x ∈ s.pool.queue, x.port ≠ p) → (∀ r ∈ s.relay, r.port ≠ p) →
        (∀ x, s.output.sending = some x → x.port ≠ p) →
        exec (.portDisable h) s = .next
          (((s.onFeed p fun f => { f.enter .disabled with
              enabled := false, retry := 0, invalidCount := 0, hold := false
              probeTimer := if f.power = .probing then none else f.probeTimer
              lastProbeEnd := if f.power = .probing then some s.time else f.lastProbeEnd
              reprobeTimer := if f.power = .vacant then none else f.reprobeTimer
              backoffTimer := if f.power = .backoff then none else f.backoffTimer }).replied 0x33 h .done []).noticed
            [.powerChange p (s.port p).feed.power .disabled false 0 .disable]))

/-! ## Requests of the cable meter and the break analyser -/

/-- DIAGNOSE and CABLE_LEARN are refused in the order their rules give: a port with a diagnosis is busy, a fed port needs
FORCE, a learn in RUN needs a DISABLED or LOCKED_OUT port. One taken at a port without feed joins the diagnosis queue
behind its head: the link enters QUIET, a probing or VACANT port becomes DIAGNOSING, and the entry is appended (R155, R169,
R170). -/
def Obligations.DiagnosesJoinTheQueue : Prop :=
  ∀ (h : ReqHeader) (options : Byte) (s : State) (p : PortId), s.listens → portOf h.port = some p →
    ((s.port p).cable.diag ≠ .clear → exec (.diagnose h options) s = .next (s.replied 0x23 h .refusedBusy []))
    ∧ ((s.port p).cable.diag = .clear → (s.port p).feed.power.feedOn = true → named options 0 = false →
        exec (.diagnose h options) s = .next (s.replied 0x23 h .refusedState []))
    ∧ (s.link.opState = .run → (s.port p).feed.power ≠ .disabled → (s.port p).feed.power ≠ .lockedOut →
        exec (.cableLearn h) s = .next (s.replied 0x22 h .refusedState []))
    ∧ ((s.link.opState = .config ∨ (s.port p).feed.power = .disabled ∨ (s.port p).feed.power = .lockedOut) →
        (s.port p).cable.diag ≠ .clear → exec (.cableLearn h) s = .next (s.replied 0x22 h .refusedBusy []))
    ∧ ((s.port p).cable.diag = .clear → (s.port p).feed.power.feedOn = false → (s.port p).feed.power ≠ .bootWait →
        (s.port p).tether.link = .down → s.breaks.queue ≠ [] →
        ∃ (moved : Purpose → State) (f : Feed),
          f = (if (s.port p).feed.power = .probing then
                { (s.port p).feed.enter .diagnosing with probeTimer := none, lastProbeEnd := some s.time }
              else if (s.port p).feed.power = .vacant then
                { (s.port p).feed.enter .diagnosing with reprobeTimer := none }
              else (s.port p).feed)
          ∧ (∀ u, moved u =
              { s.onPort p (fun x => { x with
                  feed := f, tether := { x.tether.torn with link := .quiet }, lens := { x.lens with kind := .noLens }
                  cable := { x.cable with diag := .queued } }) with
                breaks := { s.breaks with queue := s.breaks.queue ++ [{ port := p, purpose := u, joined := s.msClock }] } })
          ∧ exec (.diagnose h options) s = .next (((moved .host).replied 0x23 h .done []).noticed
              (.linkChange p .down .quiet s.usClock ::
                (powerNotice (s.port p) { s.port p with feed := f } p .diagnose).toList))
          ∧ ((s.link.opState = .config ∨ (s.port p).feed.power = .disabled ∨ (s.port p).feed.power = .lockedOut) →
              exec (.cableLearn h) s = .next (((moved .learn).replied 0x22 h .done []).noticed
                (.linkChange p .down .quiet s.usClock ::
                  (powerNotice (s.port p) { s.port p with feed := f } p .diagnose).toList))))

/-- CLEAR_FINDINGS empties the findings history and every port's latest finding and leaves the counters (R177).
READ_COUNTERS with its clear option replies with the port's counters as they stood and sets each of them to 0 (R26). -/
def Obligations.ClearingRequestsEmptyTheirRecords : Prop :=
  ∀ (h : ReqHeader) (s : State), s.listens →
    exec (.clearFindings h) s = .next
      (({ s with
          breaks := { s.breaks with findings := [] }
          ports := s.ports.map (fun x => { x with cable := { x.cable with latest := none } }) } : State).replied 0x26 h
        .done [])
    ∧ ∀ (p : PortId) (clear : Byte), portOf h.port = some p → clear ≠ 0 → ∃ x : Port,
        exec (.readCounters h clear) s = .next
          ((s.onPort p fun _ => x).replied 0x36 h .done ((s.port p).counterValues.flatMap be4))
        ∧ (∀ v ∈ x.counterValues, v = 0)
        ∧ x = { s.port p with
            tether := { (s.port p).tether with counters := x.tether.counters }
            feed := { (s.port p).feed with counters := x.feed.counters }
            capture := { (s.port p).capture with counters := x.capture.counters }
            lens := { (s.port p).lens with counters := x.lens.counters }
            ingress := { (s.port p).ingress with counters := x.ingress.counters }
            relay := x.relay
            cable := { (s.port p).cable with counters := x.cable.counters } }

/-- A calibration takes an idle meter for 1 ms, at once when CALIBRATE asks for it and before any LIVE shot or FULL
measurement, and otherwise waits as the pending flag; its completion records the timebase, restarts its 60 s of age and
frees a meter no one waits for; its age alone changes nothing else (R144, R145, R150, R151). That a completion brings
the time base to its end is the model's choice (log entry 2). -/
def Obligations.CalibrationsSetTheTimebase : Prop :=
  (∀ (h : ReqHeader) (s : State), s.listens →
    (s.meter.holder = none → exec (.calibrate h) s = .next
      (({ s with meter := { s.meter with pendingCal := false, holder := some (.calibration, s.time + 1000) } } :
        State).replied 0x21 h .done []))
    ∧ (s.meter.holder ≠ none → exec (.calibrate h) s = .next
        (({ s with meter := { s.meter with pendingCal := true } } : State).replied 0x21 h .done [])))
  ∧ (∀ s : State, s.running → s.meter.holder = none → s.meter.pendingCal = true →
      exec .meterGrant s = .next
        { s with meter := { s.meter with pendingCal := false, holder := some (.calibration, s.time + 1000) } })
  ∧ (∀ (s : State) (d n loop : Nat), s.running → s.meter.holder = some (.calibration, d) → s.meter.pendingCal = false →
      s.meter.livePlaces = Vector.replicate 8 false → s.meter.offered = none → 960 ≤ n → n ≤ 1600 → loop ≤ 255 →
      exec (.calibrationComplete n loop) s = .next { s with
        time := max s.time d
        meter := { s.meter with
          holder := none
          timebase := { p := roundHalfUp 160000 n, t0 := loop, valid := true, cause := .noCause, n := n, loopCount := loop
                        everCompleted := true, ageTimer := some (max s.time d + 60000000)
                        completedAt := some (max s.time d) }
          counters := { s.meter.counters with calValid := bump s.meter.counters.calValid } } })
  ∧ (∀ (s : State) (d n loop : Nat), s.running → s.meter.holder = some (.calibration, d) → s.meter.pendingCal = false →
      s.meter.livePlaces = Vector.replicate 8 false → s.meter.offered = none → (n < 960 ∨ 1600 < n) ∨ 255 < loop →
      ∃ (cause : TimebaseCause) (t0 : Nat), exec (.calibrationComplete n loop) s = .next { s with
        time := max s.time d
        meter := { s.meter with
          holder := none
          timebase := { p := 125, t0 := t0, valid := false, cause := cause, n := min n 4095, loopCount := min loop 256
                        everCompleted := true, ageTimer := some (max s.time d + 60000000)
                        completedAt := some (max s.time d) }
          counters := { s.meter.counters with calInvalid := bump s.meter.counters.calInvalid } } }
        ∧ t0 = (if 255 < loop then 0 else loop)
        ∧ cause = (if n = 0 then .noReference else if 4095 ≤ n then .overflow else if n < 960 ∨ 1600 < n then .outOfRange
            else .loopOverflow))
  ∧ (∀ (s : State) (d : Nat), s.running → s.meter.timebase.ageTimer = some d →
      exec .calibrationAgeExpiry s = .next { s with
        time := max s.time d, meter := { s.meter with timebase := { s.meter.timebase with ageTimer := none } } })

/-! ## Trigger routing and capture programs (04) -/

/-- TRIGGER with a mask that names no source or more than the five is answered BAD_ARGUMENT, in CONFIG REFUSED_STATE; in
RUN each named source gives a soft trigger, in the order TRIG0 to PERIOD, with consecutive tags, which the reply
carries. Here the named sources' port masks are empty (R76, R78). The layout of the tags in the reply is read from R190
(log entry 9). -/
def Obligations.TriggerGivesConsecutiveTags : Prop :=
  ∀ (h : ReqHeader) (mask : Byte) (s : State), s.listens →
    ((mask = 0 ∨ 32 ≤ mask.toNat) → exec (.trigger h mask) s = .next (s.replied 0x41 h .badArgument []))
    ∧ (mask ≠ 0 → mask.toNat < 32 → s.link.opState = .config →
        exec (.trigger h mask) s = .next (s.replied 0x41 h .refusedState []))
    ∧ (mask ≠ 0 → mask.toNat < 32 → s.link.opState = .run →
        (∀ i : Fin 5, mask.getLsbD i.val = true → s.router.map.get i = 0) →
        ∃ (n : Nat) (counters : Vector SourceCounters 5),
          n = ((List.range 5).filter fun k => mask.getLsbD k).length
          ∧ (∀ i, counters.get i =
              if mask.getLsbD i.val = true then
                { s.router.counters.get i with
                  accepted := bump (s.router.counters.get i).accepted, soft := bump (s.router.counters.get i).soft }
              else s.router.counters.get i)
          ∧ exec (.trigger h mask) s = .next
              (({ s with router := { s.router with
                  tagCounter := s.router.tagCounter + BitVec.ofNat 16 n, counters := counters } } : State).replied 0x41 h
                .done (be1 n ++ (List.range n).flatMap fun k => be2 (s.router.tagCounter + BitVec.ofNat 16 k).toNat)))

/-- Outside RUN, and where its edge selection does not name it, an edge of a trigger pin does nothing. In RUN an edge
that counts is suppressed while the holdoff timer runs; otherwise its source gives a trigger with the tag counter's
value and a holdoff above 0 starts the timer. The holdoff timer's expiry stops it. The period timer's expiry gives a
PERIOD trigger and restarts the timer with the period to apply, or stops it for 0. Here the sources' port masks are
empty (R73 to R75, R78). That an expiry brings the time base to the timer's end is the model's choice (log entry 2). -/
def Obligations.PinsAndPeriodGiveTriggers : Prop :=
  (∀ (s : State) (pin : Fin 4) (rising : Bool), s.running →
    (s.link.opState = .config
      ∨ (match (s.router.pins.get pin).edge with
          | .off => True | .rising => rising = false | .falling => rising = true | .both => False) →
      exec (.triggerPinEdge pin rising) s = .next s)
    ∧ (s.link.opState = .run →
        (match (s.router.pins.get pin).edge with
          | .off => False | .rising => rising = true | .falling => rising = false | .both => True) →
        ((s.router.pins.get pin).timer ≠ none →
          exec (.triggerPinEdge pin rising) s = .next { s with router := { s.router with
            counters := modifyAt s.router.counters pin.castSucc fun c => { c with suppressed := bump c.suppressed } } })
        ∧ ((s.router.pins.get pin).timer = none → s.router.map.get pin.castSucc = 0 →
          exec (.triggerPinEdge pin rising) s = .next { s with router := { s.router with
            tagCounter := s.router.tagCounter + 1
            counters := modifyAt s.router.counters pin.castSucc fun c => { c with accepted := bump c.accepted }
            pins := modifyAt s.router.pins pin fun x =>
              { x with timer := if x.holdoff = 0 then none else some (s.time + x.holdoff) } } })))
  ∧ (∀ (s : State) (pin : Fin 4) (d : Nat), s.running → (s.router.pins.get pin).timer = some d →
      exec (.holdoffTimerExpiry pin) s = .next { s with
        time := max s.time d
        router := { s.router with pins := modifyAt s.router.pins pin fun x => { x with timer := none } } })
  ∧ (∀ (s : State) (d : Nat), s.running → s.router.periodTimer = some d → s.router.map.get 4 = 0 →
      exec .periodTimerExpiry s = .next { s with
        time := max s.time d
        router := { s.router with
          tagCounter := s.router.tagCounter + 1
          counters := modifyAt s.router.counters 4 fun c => { c with accepted := bump c.accepted }
          periodTimer := if s.router.period = 0 then none else some (max s.time d + s.router.period) } })

/-- The step a trigger resolves to is the default step with the port's default exposure where no program runs, else the
step at the cursor, which then goes on; at the wrap the cursor returns to 0 and a staged program takes over (R79, R82). A
trigger of a pin that goes to one port is dropped UNAVAILABLE where the port is not FULL, its link not UP or HOLD is set,
and OVERRUN where four triggers are pending. Accepted, it takes the next program step, a preset that is invalid
giving the PRESET_INVALID mark and preset NONE (log entry 46), and a stale deadline; with no other
trigger pending and no exposure open it is dispatched at once to a camera without a motorized lens: a TRIGGER packet joins
the downstream queue and the exposure record opens; with an exposure open it waits (R78, R80, R84 to R88). -/
def Obligations.TriggersAreAcceptedAndDispatched : Prop :=
  (∀ (c : Capture) (exposure : Nat),
    (c.program = [] → c.resolve exposure = ((.default, none, exposure), c))
    ∧ ∀ x, c.program[c.cursor]? = some x →
        (c.cursor + 1 < c.program.length →
          c.resolve exposure = ((.index c.cursor, x.preset, x.exposure), { c with cursor := c.cursor + 1 }))
        ∧ (c.cursor + 1 = c.program.length →
          (c.staged = none → c.resolve exposure = ((.index c.cursor, x.preset, x.exposure), { c with cursor := 0 }))
          ∧ ∀ l, c.staged = some l →
              c.resolve exposure =
                ((.index c.cursor, x.preset, x.exposure), { c with cursor := 0, program := l, staged := none })))
  ∧ ∀ (s : State) (pin : Fin 4) (p : PortId), s.running → s.link.opState = .run → (s.router.pins.get pin).edge = .both →
    (s.router.pins.get pin).timer = none → (s.router.pins.get pin).holdoff = 0 →
    maskPorts (s.router.map.get pin.castSucc) = [p] →
    ∀ (given : State) (source : Source),
      given = { s with router := { s.router with
        tagCounter := s.router.tagCounter + 1
        counters := modifyAt s.router.counters pin.castSucc fun c => { c with accepted := bump c.accepted } } } →
      source.index = pin.castSucc →
      ((s.port p).feed.power ≠ .full ∨ (s.port p).tether.link ≠ .up ∨ (s.port p).feed.hold = true →
        exec (.triggerPinEdge pin true) s = .next
          ((given.onCapture p fun c => { c with counters := { c.counters with
              unavailable := bump c.counters.unavailable } }).noticed
            [.triggerLoss p s.router.tagCounter source .absent none .unavailable s.usClock]))
      ∧ ((s.port p).feed.power = .full → (s.port p).tether.link = .up → (s.port p).feed.hold = false →
          (4 ≤ (s.port p).capture.queue.length →
            exec (.triggerPinEdge pin true) s = .next
              ((given.onCapture p fun c => { c with counters := { c.counters with
                  overrun := bump c.counters.overrun } }).noticed
                [.triggerLoss p s.router.tagCounter source .absent none .overrun s.usClock]))
          ∧ ∀ (step : StepRef) (preset : Option PresetId) (exposure : Nat) (c : Capture) (invalid : Bool)
                (kept : Option PresetId),
              (s.port p).capture.resolve (s.port p).feed.settings.defaultExposure = ((step, preset, exposure), c) →
              (s.port p).lens.state = .absent → (s.port p).capture.want = none → (s.port p).capture.queue = [] →
              invalid = (match preset with | some q => !((s.port p).lens.presets.get q).valid | none => false) →
              kept = (if invalid then none else preset) →
              ((s.port p).capture.exposure = none → (s.port p).tether.camWriteStands = false →
                (s.port p).tether.channel ≠ none →
                exec (.triggerPinEdge pin true) s = .next (given.onPort p fun x => { x with
                  tether := { x.tether with queue := x.tether.queue ++ [.trigger s.router.tagCounter exposure] }
                  capture := { c with
                    exposure := some
                      { tag := s.router.tagCounter, source := source, step := step, preset := kept, invalid := invalid
                        unreferenced := false, exposure := exposure, dispatch := s.time
                        deadline := s.time + exposure + 50000 }
                    counters := { c.counters with
                      accepted := bump c.counters.accepted, dispatched := bump c.counters.dispatched } } }))
              ∧ ((s.port p).capture.exposure ≠ none →
                exec (.triggerPinEdge pin true) s = .next (given.onPort p fun x => { x with
                  capture := { c with
                    queue := [{ tag := s.router.tagCounter, source := source, step := step, preset := kept
                                invalid := invalid, exposure := exposure, arrival := s.time
                                stale := if x.feed.settings.holdLimit = 0 then none
                                  else some (s.time + x.feed.settings.holdLimit * 1000) }]
                    counters := { c.counters with accepted := bump c.counters.accepted } } })))

/-- The stale timer drops the queue head STALE (R85). A head that nothing holds back is dispatched (R84, R86, R87). The
deadline of an open exposure closes it MISSED (R89). Each here with no other trigger pending and no preset wanted. That
an expiry brings the time base to the timer's end is the model's choice (log entry 2). -/
def Obligations.PendingTriggersAndExposuresEnd : Prop :=
  (∀ (s : State) (p : PortId) (x : PendingTrigger) (d : Nat), s.running → (s.port p).capture.queue = [x] →
    x.stale = some d → (s.port p).capture.want = none →
    exec (.staleTimerExpiry p) s = .next
      ((({ s with time := max s.time d } : State).onCapture p fun c =>
          { c with queue := [], counters := { c.counters with stale := bump c.counters.stale } }).noticed
        [.triggerLoss p x.tag x.source x.step x.preset .stale ({ s with time := max s.time d } : State).usClock]))
  ∧ (∀ (s : State) (p : PortId) (x : PendingTrigger), s.running → (s.port p).capture.queue = [x] →
      (∀ d, x.stale = some d → s.time < d) → (s.port p).capture.want = none → (s.port p).capture.exposure = none →
      (s.port p).feed.hold = false → (s.port p).tether.link = .up → (s.port p).lens.state = .absent →
      (s.port p).tether.camWriteStands = false → (s.port p).tether.channel ≠ none →
      exec (.triggerDispatch p) s = .next (s.onPort p fun y => { y with
        tether := { y.tether with queue := y.tether.queue ++ [.trigger x.tag x.exposure] }
        capture := { y.capture with
          queue := []
          exposure := some
            { tag := x.tag, source := x.source, step := x.step, preset := x.preset, invalid := x.invalid
              unreferenced := false, exposure := x.exposure, dispatch := s.time
              deadline := s.time + x.exposure + 50000 }
          counters := { y.capture.counters with dispatched := bump y.capture.counters.dispatched } } }))
  ∧ (∀ (s : State) (p : PortId) (x : Exposure), s.running → (s.port p).capture.exposure = some x →
      (s.port p).capture.queue = [] → (s.port p).capture.want = none → (s.port p).lens.state ≠ .moveWait →
      exec (.exposureDeadlineExpiry p) s = .next
        ((({ s with time := max s.time x.deadline } : State).onCapture p fun c =>
            { c with exposure := none, counters := { c.counters with missed := bump c.counters.missed } }).noticed
          [.triggerLoss p x.tag x.source x.step x.preset .missed
            ({ s with time := max s.time x.deadline } : State).usClock]))

/-! ## Lens control (05) -/

/-- LENS_GOTO and LENS_HOME are tested in the order of R105: an ABSENT lens or HOLD, a busy lens or a pending trigger, for
LENS_GOTO a lens that is not IDLE, an invalid preset, a preset already held. One taken by a port whose surcharge is feasible
and 0, with no exposure open, hands its packet in at once: the lens is MOVING, or HOMING, under the next down tag (R98,
R105, R106). -/
def Obligations.LensRequestsMoveTheLens : Prop :=
  ∀ (h : ReqHeader) (preset : Byte) (q : PresetId) (s : State) (p : PortId), s.listens → portOf h.port = some p →
    preset.toNat = q.val →
    ((s.port p).lens.state = .absent ∨ (s.port p).feed.hold = true →
      exec (.lensGoto h preset) s = .next (s.replied 0x51 h .refusedState [])
      ∧ exec (.lensHome h) s = .next (s.replied 0x52 h .refusedState []))
    ∧ ((s.port p).lens.state ≠ .absent → (s.port p).feed.hold = false →
      (((s.port p).lens.state = .moveWait ∨ (s.port p).lens.state = .homing ∨ (s.port p).lens.state = .moving
          ∨ (s.port p).lens.state = .settling ∨ (s.port p).capture.queue ≠ []) →
        exec (.lensGoto h preset) s = .next (s.replied 0x51 h .refusedBusy [])
        ∧ exec (.lensHome h) s = .next (s.replied 0x52 h .refusedBusy []))
      ∧ ((s.port p).capture.queue = [] →
        (((s.port p).lens.state = .unreferenced ∨ (s.port p).lens.state = .stalled) →
          exec (.lensGoto h preset) s = .next (s.replied 0x51 h .refusedState []))
        ∧ ((s.port p).lens.state = .idle → ((s.port p).lens.presets.get q).valid = false →
          exec (.lensGoto h preset) s = .next (s.replied 0x51 h .badArgument []))
        ∧ ((s.port p).lens.state = .idle → ((s.port p).lens.presets.get q).valid = true →
            (s.port p).lens.holds q = true →
          exec (.lensGoto h preset) s = .next
            ((s.onLens p fun l => { l with lastTarget := some q }).replied 0x51 h .done []))
        ∧ (∀ (figure estimate : Nat) (tag : Byte),
            s.feedFor p (classPower (s.port p).feed.powerClass + (s.port p).feed.settings.lensPower)
              = .feasible figure estimate →
            tag = (s.port p).tether.nextTag → (s.port p).pool.surchargeAmount = 0 → (s.port p).capture.want = none →
            (s.port p).capture.exposure = none → (s.port p).tether.channel ≠ none →
            ((s.port p).lens.state = .idle → ((s.port p).lens.presets.get q).valid = true →
                (s.port p).lens.holds q = false →
              exec (.lensGoto h preset) s = .next
                (({ s.onPort p (fun x => { x with
                      tether := { x.tether with
                        queue := x.tether.queue ++ [.lensMove tag (x.lens.kind.positionsOf (x.lens.presets.get q))]
                        downTag := tag + 1 }
                      feed := { x.feed with limit := limitOf x.pool.estLens }
                      lens := { x.lens with
                        state := .moving
                        move := some
                          { kind := .move, origin := .host, target := some q, admitted := true, downTag := some tag
                            captured := some
                              (x.lens.kind.positionsOf (x.lens.presets.get q), (x.lens.presets.get q).settle) }
                        counters := { x.lens.counters with
                          hostGoto := bump x.lens.counters.hostGoto, moves := bump x.lens.counters.moves } } }) with
                    pool := { s.pool with counters := { s.pool.counters with
                      surchargeAdmissions := bump s.pool.counters.surchargeAdmissions } } } : State).replied 0x51 h .done
                  []))
            ∧ ((s.port p).lens.state = .idle ∨ (s.port p).lens.state = .unreferenced ∨ (s.port p).lens.state = .stalled →
              exec (.lensHome h) s = .next
                (({ s.onPort p (fun x => { x with
                      tether := { x.tether with
                        queue := x.tether.queue ++ [.lensHome tag], downTag := tag + 1 }
                      feed := { x.feed with limit := limitOf x.pool.estLens }
                      lens := { x.lens with
                        state := .homing
                        move := some
                          { kind := .home, origin := .host, target := none, admitted := true, downTag := some tag }
                        counters := { x.lens.counters with
                          hostHome := bump x.lens.counters.hostHome, homes := bump x.lens.counters.homes } } }) with
                    pool := { s.pool with counters := { s.pool.counters with
                      surchargeAdmissions := bump s.pool.counters.surchargeAdmissions } } } : State).replied 0x52 h .done
                  [])))))

/-- A packet that waits for its surcharge, for a closed exposure record or for HOLD is handed in when none holds it
back: here a homing packet (R98). The settle timer brings the lens to rest IDLE and reports it, with no preset wanted
(R96, R100, R108). That an expiry brings the time base to the timer's end is the model's choice (log entry 2). -/
def Obligations.LensPacketsAndSettling : Prop :=
  (∀ (s : State) (p : PortId) (m : Move) (tag : Byte), s.running → (s.port p).lens.state = .moveWait →
    (s.port p).lens.move = some m → m.kind = .home → tag = (s.port p).tether.nextTag →
    (s.port p).tether.channel ≠ none →
    (m.admitted = true → (s.port p).capture.exposure = none → (s.port p).feed.hold = false →
      exec (.lensPacketHandIn p) s = .next (s.onPort p fun x => { x with
        tether := { x.tether with queue := x.tether.queue ++ [.lensHome tag], downTag := tag + 1 }
        lens := { x.lens with
          state := .homing, move := some { m with downTag := some tag }
          counters := { x.lens.counters with homes := bump x.lens.counters.homes } } }))
    ∧ (m.admitted = false ∨ (s.port p).capture.exposure ≠ none ∨ (s.port p).feed.hold = true →
      exec (.lensPacketHandIn p) s = .next s))
  ∧ (∀ (s : State) (p : PortId) (d : Nat), s.running → (s.port p).lens.settleTimer = some d →
      (s.port p).lens.want = none → (s.port p).capture.queue = [] → (s.port p).capture.want = none →
      exec (.settleTimerExpiry p) s = .next
        ((({ s with time := max s.time d } : State).onLens p fun l =>
            { l with settleTimer := none, state := .idle, move := none }).noticed
          [.lensChange p .settling .idle .rest
            ((s.port p).lens.move.map fun m => (m.kind, m.origin, m.target)) (s.port p).lens.held
            (s.port p).lens.lastCode]))

/-! ## Camera access (07) -/

/-- CAM_ACCESS outside RUN, or at a port that is not FULL, not UP or on HOLD, is refused REFUSED_STATE, and REFUSED_BUSY
with three accesses unanswered. One taken enters the relay in QUEUED, which reserves its reply, and its packet joins the
downstream queue under the next down tag; no reply is written (R135 to R137). That the entry of a READ keeps the value 0
is the model's reading (log entry 45). -/
def Obligations.CameraAccessesAreTaken : Prop :=
  ∀ (h : ReqHeader) (f : CamAccessFields) (s : State) (p : PortId) (k : AccessKind), s.listens →
    portOf h.port = some p → k.code = f.kind.toNat → f.param.toNat ≤ 4095 →
    (∀ st : Status,
      ((s.link.opState = .config ∨ (s.port p).feed.power ≠ .full ∨ (s.port p).tether.link ≠ .up
            ∨ (s.port p).feed.hold = true) ∧ st = .refusedState)
        ∨ (s.link.opState = .run ∧ (s.port p).feed.power = .full ∧ (s.port p).tether.link = .up
            ∧ (s.port p).feed.hold = false
            ∧ 3 ≤ (s.relay.filter fun r => decide (r.port = p) && r.stage.unanswered).length ∧ st = .refusedBusy) →
      exec (.camAccess h f) s = .next
        ((s.onPort p fun x => { x with relay := { x.relay with refused := bump x.relay.refused } }).replied 0x60 h st
          ([f.kind] ++ be2 f.param.toNat ++ [0, 0, 0, 0, 0, 0])))
    ∧ (s.link.opState = .run → (s.port p).feed.power = .full → (s.port p).tether.link = .up →
        (s.port p).feed.hold = false →
        (s.relay.filter fun r => decide (r.port = p) && r.stage.unanswered).length < 3 →
        (s.port p).tether.channel ≠ none → ∀ tag : Byte, tag = (s.port p).tether.nextTag →
        exec (.camAccess h f) s = .next
          (({ s.onPort p (fun x => { x with
                tether := { x.tether with
                  queue := x.tether.queue ++
                    [match k with | .read => .camRead tag f.param | .write => .camWrite tag f.param f.value]
                  downTag := tag + 1 }
                relay := { x.relay with taken := bump x.relay.taken } }) with
              relay := s.relay ++
                [{ port := p, hostTag := h.tag, portField := h.port, kind := k, param := f.param
                   value := match k with | .read => 0 | .write => f.value
                   downTag := tag, stage := .queued }] } : State).counted))

/-- At an answer's deadline the access leaves the table and the relay, and its reply TIMEOUT is written (R25, R140); a lens
packet leaves the table and its move ends in STALLED with the fault LENS_TIMEOUT (R103), here answered with HOLD or REPORT
and with no trigger waiting. The relay replies to every HELD answer of a port whose watermark the egress count has reached, in arrival order: DONE or
CAMERA_ERROR by the result code, ABORTED with the ANSWERED mark where the feed was cut meanwhile (R138, R139, R141).
That an expiry brings the time base to the timer's end is the model's choice (log entry 2). -/
def Obligations.RelayAnswersAtItsMoment : Prop :=
  (∀ (s : State) (p : PortId) (tag : Byte) (o : Outstanding) (r : RelayEntry), s.running →
    (s.port p).tether.outstanding.find? (fun x => decide (x.tag = tag)) = some o → o.kind = .camRead →
    s.relay.find? (fun x => decide (x.port = p) && decide (x.stage = .sent) && decide (x.downTag = tag)) = some r →
    (s.port p).tether.channel ≠ none →
    exec (.answerDeadlineExpiry p tag) s = .next
      (({ s.onPort p (fun x => { x with
            tether := { x.tether with
              outstanding := x.tether.outstanding.filter fun y => decide (y.tag ≠ tag)
              counters := { x.tether.counters with timeouts := bump x.tether.counters.timeouts } }
            relay := { x.relay with timeout := bump x.relay.timeout } }) with
          time := max s.time o.deadline
          relay := s.relay.filter fun x => !(decide (x.port = p) && decide (x.stage = .sent) && decide (x.downTag = tag)) } :
        State).wrote
        { code := 0x60, tag := r.hostTag, port := r.portField, status := .timeout
          payload := [BitVec.ofNat 8 r.kind.code] ++ be2 r.param.toNat ++ [0, 0, 0, 0, 0, 0] }))
  ∧ (∀ (s : State) (p : PortId) (tag : Byte) (o : Outstanding) (m : Move) (r : Reaction), s.running →
      (s.port p).tether.outstanding.find? (fun x => decide (x.tag = tag)) = some o → o.kind.isLens = true →
      (s.port p).tether.channel ≠ none → (s.port p).lens.state = .moving ∨ (s.port p).lens.state = .homing →
      (s.port p).lens.move = some m → s.pool.queue = [] → (s.port p).capture.queue = [] →
      (s.port p).capture.want = none → (s.port p).feed.power.feedOn = true →
      (s.port p).cable.reactions.get FaultKind.lensTimeout.index = r → r = .hold ∨ r = .report →
      exec (.answerDeadlineExpiry p tag) s = .next
        (({ s with time := max s.time o.deadline } : State).onTether p (fun t =>
          { t with
            outstanding := t.outstanding.filter fun y => decide (y.tag ≠ tag)
            counters := { t.counters with timeouts := bump t.counters.timeouts } })
          |>.lensStalled p .lensTimeout .timeout none none r))
  ∧ (∀ (s : State) (p : PortId), s.running → ∃ counts : RelayCounters,
      exec (.watermarkReached p) s = .next
        (({ s.onPort p (fun x => { x with relay := counts }) with
            relay := s.relay.filter fun r => !r.released p (s.port p).ingress.egressCount } : State).onLink fun l =>
          { l with written := l.written ++
              (s.relay.filter fun r => r.released p (s.port p).ingress.egressCount).filterMap RelayEntry.heldReply }))
  ∧ (∀ (r : RelayEntry) (p : PortId) (egress : Word) (code : Byte) (value w : Word) (cut : Bool),
      r.stage = .held code value w cut →
      (r.released p egress = true ↔ r.port = p ∧ (egress - w).toNat < 2 ^ 31)
      ∧ r.heldReply = some
          { code := 0x60, tag := r.hostTag, port := r.portField
            status := if cut then .aborted else if code = 0 then .done else .cameraError
            payload := [BitVec.ofNat 8 r.kind.code] ++ be2 r.param.toNat ++ [code] ++ be4 value.toNat
              ++ [if cut then 1 else 0] })

/-! ## Tether ports (01) -/

/-- The lock-check expiry begins a new window and judges the one that ended by the link state it falls in. WAKING: a
mark leads to LOCKING, none makes a WAKE due (R9). LOCKING: a bad window returns the count to 0, a good one raises it,
and the third in a row leads to UP (R10) with its credits (R18), the two bring-up timers stopped (R12) and the HELLO
timer started where R13 says; a LIVE shot is asked for while the allowance lasts (R163). UP: a good window changes
nothing, a bad one is a lock loss (R11, R15, R161). Here the channel is busy and no TRIGGER waits. That an expiry brings
the time base to the timer's end (log entry 2) and that the count stays 3 in UP (log entry 35) are the model's choices.
-/
def Obligations.LockChecksDriveTheLink : Prop :=
  ∀ (s now : State) (p : PortId) (d : Nat), s.running → (s.port p).tether.lockCheck = some d →
    (s.port p).tether.channel ≠ none →
    now = ({ s with time := max s.time d } : State).onTether p (fun t =>
      { t with marks := 0, lockCheck := some (max s.time d + 1000) }) →
    ((s.port p).tether.link = .waking →
      ((s.port p).tether.marks = 0 →
        exec (.lockCheckExpiry p) s = .next (now.onTether p fun t => { t with wakeDue := true }))
      ∧ (0 < (s.port p).tether.marks →
        exec (.lockCheckExpiry p) s = .next
          ((now.onTether p fun t => { t with link := .locking, goodWindows := 0, wakeDue := false }).noticed
            [.linkChange p .waking .locking now.usClock])))
    ∧ ((s.port p).tether.link = .locking →
      ((s.port p).tether.marks < 6 → (s.port p).cable.allowance = 0 →
        exec (.lockCheckExpiry p) s = .next (now.onTether p fun t => { t with goodWindows := 0 }))
      ∧ (6 ≤ (s.port p).tether.marks → (s.port p).tether.goodWindows < 2 → (s.port p).cable.allowance = 0 →
        exec (.lockCheckExpiry p) s = .next (now.onTether p fun t => { t with goodWindows := t.goodWindows + 1 }))
      ∧ ((s.port p).tether.marks < 6 → 0 < (s.port p).cable.allowance → s.meter.holder ≠ none →
        exec (.lockCheckExpiry p) s = .next
          { now.onPort p (fun x => { x with
              tether := { x.tether with goodWindows := 0 }
              cable := { x.cable with
                allowance := x.cable.allowance - 1
                counters := { x.cable.counters with liveRequested := bump x.cable.counters.liveRequested } } }) with
            meter := { s.meter with
              livePlaces := s.meter.livePlaces.set p.val true p.isLt
              counters := { s.meter.counters with
                liveReplaced := if s.meter.livePlaces.get p then bump s.meter.counters.liveReplaced
                  else s.meter.counters.liveReplaced } } })
      ∧ (6 ≤ (s.port p).tether.marks → 2 ≤ (s.port p).tether.goodWindows → (s.port p).capture.queue = [] →
          (s.port p).capture.want = none → (∀ e, s.meter.holder ≠ some (.live p, e)) →
        exec (.lockCheckExpiry p) s = .next
          ((now.onPort p fun x => { x with
              tether := { x.tether with
                link := .up, goodWindows := 3, wakeTimer := none, relockTimer := none
                helloTimer :=
                  match x.tether.session with
                  | some { helloTaken := false, upReached := false } => some (max s.time d + 200000)
                  | _ => x.tether.helloTimer
                session := x.tether.session.map fun y => { y with upReached := true }
                unreturned := 16 - x.tether.occupied, creditDue := decide (x.tether.occupied < 16) }
              cable := { x.cable with allowance := 0 } }).noticed [.linkChange p .locking .up now.usClock])))
    ∧ ((s.port p).tether.link = .up →
      (6 ≤ (s.port p).tether.marks → exec (.lockCheckExpiry p) s = .next now)
      ∧ ((s.port p).tether.marks < 6 → (s.port p).tether.queue.any DownPacket.isTrigger = false →
          (s.port p).ingress.record = .empty →
        exec (.lockCheckExpiry p) s = .next
          ((now.onPort p fun x => { x with
              tether := { x.tether with
                link := .locking, goodWindows := 0, relockTimer := some (max s.time d + 200000)
                cameraHeld := 0, creditDue := false
                counters := { x.tether.counters with lockLosses := bump x.tether.counters.lockLosses } }
              cable := if x.feed.power = .full then
                  { x.cable with
                    allowance := 8
                    flex := { x.cable.flex with lockLosses := min (x.cable.flex.lockLosses + 1) 65535 } }
                else x.cable }).noticed [.linkChange p .up .locking now.usClock])))

/-- The wake, relock and HELLO timers raise LINK_NO_WAKE, LINK_LOST and HELLO_MISSING, and the second feed sample in a
row above the limit raises BOOT_OVERLOAD or PORT_OVERCURRENT. Where the port's reaction is CUT or RETRY its feed is cut
(R12, R13, R29, R38, R40, R41, R168). Here no admission waits and no LIVE shot of the port is in progress. That an
expiry brings the time base to the timer's end is the model's choice (log entry 2). -/
def Obligations.FaultsCutTheFeed : Prop :=
  ∀ (s : State) (p : PortId) (r : Reaction) (d : Nat), s.running → (s.port p).feed.power.feedOn = true →
    (r = .cut ∨ r = .retry) → s.pool.queue = [] → (∀ e, s.meter.holder ≠ some (.live p, e)) →
    (∀ (c : Instr) (timer : Option Nat) (kind : FaultKind),
      (c, timer, kind) ∈
        [(Instr.wakeTimerExpiry p, (s.port p).tether.wakeTimer, FaultKind.linkNoWake),
          (.relockTimerExpiry p, (s.port p).tether.relockTimer, .linkLost),
          (.helloTimerExpiry p, (s.port p).tether.helloTimer, .helloMissing)] →
      timer = some d → (s.port p).cable.reactions.get kind.index = r →
      ∃ t, exec c s = .next t ∧ t.time = max s.time d ∧ s.cutBy t p kind r)
    ∧ ∀ (kind : FaultKind) (current : Half),
        kind = (if (s.port p).feed.power = .full then .portOvercurrent else .bootOverload) →
        (s.port p).feed.sampleTimer = some d → (s.port p).feed.limit < current.toNat → (s.port p).feed.overCount = 1 →
        (s.port p).cable.reactions.get kind.index = r →
        ∃ t, exec (.sampleTimerExpiry p current) s = .next t ∧ t.time = max s.time d ∧ s.cutBy t p kind r

/-- The downstream channel, while idle, starts a due WAKE in WAKING, a due CREDIT first and then the queue head in UP,
and the queue head in LOCKING, where the answer table has room for the head's kind; while busy it starts nothing. An
item sent frees it; a tagged packet enters the answer table with its deadline and takes its relay entry to SENT (R9,
R20, R21, R24, R137). That the rows of the starts run the channel's own operation is the model's reading (log entry 4).
-/
def Obligations.ChannelSendsInOrder : Prop :=
  ∀ (s : State) (p : PortId), s.running →
    ((s.port p).tether.channel ≠ none →
      exec (.wakeSend p) s = .next s ∧ exec (.creditSend p) s = .next s ∧ exec (.downQueueStart p) s = .next s)
    ∧ ((s.port p).tether.channel = none → (s.port p).tether.link = .waking → (s.port p).tether.wakeDue = true →
        exec (.wakeSend p) s = .next (s.onTether p fun t => { t with
          wakeDue := false, channel := some .wake
          counters := { t.counters with wakeSent := bump t.counters.wakeSent } }))
    ∧ ((s.port p).tether.channel = none → (s.port p).tether.link = .up → (s.port p).tether.creditDue = true →
        exec (.creditSend p) s = .next (s.onTether p fun t => { t with
          creditDue := false, unreturned := 0, cameraHeld := t.cameraHeld + t.unreturned
          channel := some (.credit t.unreturned)
          counters := { t.counters with creditSent := bump t.counters.creditSent } }))
    ∧ (∀ (k : DownPacket) (rest : List DownPacket), (s.port p).tether.channel = none →
        ((s.port p).tether.link = .locking ∨ (s.port p).tether.link = .up ∧ (s.port p).tether.creditDue = false) →
        (s.port p).tether.queue = k :: rest →
        exec (.downQueueStart p) s = .next (
          if (match k with
            | .trigger .. => true
            | .lensMove .. | .lensHome .. =>
                (s.port p).tether.outstanding.all fun o => decide (o.kind ≠ .lensMove) && decide (o.kind ≠ .lensHome)
            | .camRead .. | .camWrite .. =>
                decide (((s.port p).tether.outstanding.filter fun o =>
                  decide (o.kind = .camRead) || decide (o.kind = .camWrite)).length < 3)) = true
          then s.onTether p fun t => { t with channel := some (.packet k), queue := rest }
          else s))
    ∧ (∀ i : DownItem, (s.port p).tether.channel = some i → (s.port p).tether.queue = [] →
        (s.port p).tether.wakeDue = false → (s.port p).tether.creditDue = false →
        ((i = .wake ∨ (∃ n, i = .credit n) ∨ ∃ tag exposure, i = .packet (.trigger tag exposure)) →
          exec (.downPacketSent p) s = .next (s.onTether p fun t => { t with channel := none }))
        ∧ ∀ (k : DownPacket) (tag : Byte) (kind : AnswerKind) (deadline : Nat),
            (k, kind, deadline) ∈ [(DownPacket.lensHome tag, AnswerKind.lensHome, 5000000)]
              ∨ (∃ target, (k, kind, deadline) = (.lensMove tag target, .lensMove, 2000000))
              ∨ (∃ param, (k, kind, deadline) = (.camRead tag param, .camRead, 100000))
              ∨ (∃ param value, (k, kind, deadline) = (.camWrite tag param value, .camWrite, 100000)) →
            i = .packet k →
            exec (.downPacketSent p) s = .next
              { s.onTether p (fun t => { t with
                  channel := none
                  outstanding := t.outstanding ++ [{ tag := tag, kind := kind, deadline := s.time + deadline }] }) with
                relay := s.relay.map fun r =>
                  if r.port = p ∧ r.stage = .queued ∧ r.downTag = tag then { r with stage := .sent } else r })

/-- The class of an upstream packet is the first of the tests of R4 that holds, on its bytes and the camera-held count,
but that an image packet which meets no credit is OVERRUN whatever its CRC, as R18 and R112 say against the order of R4
(log entry 7). -/
def Obligations.PacketsAreClassified : Prop :=
  ∀ (held : Nat) (ending : PacketEnding) (bytes : List Byte),
    classify held ending bytes =
      if ending = .abortSymbol then .aborted
      else if bytes.length < 8 then .mutilated
      else if 8 + 2048 + 4 < bytes.length then .tooLong
      else if (byteAt bytes 0 = 0x20 ∨ byteAt bytes 0 = 0x21 ∨ byteAt bytes 0 = 0x22) ∧ held = 0 then .overrun
      else if bytes.length < 12 ∨ crc32Bytes (bytes.take (bytes.length - 4)) ≠ bytes.drop (bytes.length - 4)
          ∨ (byteAt bytes 0 = 0x20 ∧ bytes.length < 16) ∨ (byteAt bytes 0 = 0x21 ∧ bytes.length = 12) then .crcBad
      else .good

/-- While the link is DOWN or QUIET a packet and a BEACON change nothing; a BEACON, while the receiver is on, is a mark; a
MUTILATED packet is counted and is no mark. A GOOD LINE or FRAME_END of the open frame, with the expected sequence number,
is charged a credit and kept in a slot: the line as it came, the FRAME_END as the frame's trailer, which completes the frame
(R5, R17, R19, R109 to R111, R116 to R119). A GOOD FRAME_START opens a frame, closes the exposure it answers, and first
closes an open frame as truncated with a synthesized trailer; a LINE of another frame truncates too and leads to
DISCARDING, a FRAME_END of another frame truncates and is an orphan (R88, R114, R115, R117, R118, R120); a GOOD LINE or
FRAME_END without a frame, and a TOO_LONG packet, free their slot at once, and a TOO_LONG packet truncates an open frame
(R121, R122). Here the output port does not pick, and the channel is busy where a slot frees. That the port's count of
lost lines does not take in the correction of FRAME_END (log entry 24) and that the mark count stops at its maximum (log
entry 56) are the model's readings. -/
def Obligations.GoodImagePacketsAreKept : Prop :=
  ∀ (s : State) (p : PortId), s.running →
    ((s.port p).tether.link = .down ∨ (s.port p).tether.link = .quiet →
      exec (.beacon p) s = .next s ∧ ∀ ending bytes, exec (.upstreamPacketEnd p ending bytes) s = .next s)
    ∧ ((s.port p).tether.link ≠ .down → (s.port p).tether.link ≠ .quiet →
      exec (.beacon p) s = .next (s.onTether p fun t => { t with marks := bump t.marks })
      ∧ ∀ ending bytes, ending ≠ .abortSymbol → bytes.length < 8 →
          exec (.upstreamPacketEnd p ending bytes) s = .next (s.onTether p fun t =>
            { t with counters := { t.counters with mutilated := bump t.counters.mutilated } }))
    ∧ (∀ (ending : PacketEnding) (bytes : List Byte), (s.port p).tether.link = .up →
        0 < (s.port p).tether.cameraHeld → (s.output.sending ≠ none ∨ s.output.holdPin = true) →
        (classify (s.port p).tether.cameraHeld ending bytes = .good →
          (byteAt bytes 0 = 0x20 → ∀ (g : OpenFrame) (c : Capture), s.frameOpens p bytes g c →
            exec (.upstreamPacketEnd p ending bytes) s = .next (s.onPort p fun x => { x with
              tether := x.tether.kept
              capture := c
              ingress :=
                let i := x.ingress.truncated (x.pool.base + x.pool.surcharge)
                { i with
                  queue := i.queue ++
                    [{ reserve := false
                       packet := { kind := .frameStart, frame := halfAt bytes 2, sequence := byteAt bytes 1
                                   damaged := false, payload := (bytes.drop 8).take 4 } }]
                  ingressCount := i.ingressCount + 1, expected := 1, record := .openFrame g
                  counters := { i.counters with opened := bump i.counters.opened } } }))
          ∧ ((s.port p).tether.channel ≠ none → byteAt bytes 0 = 0x21 ∨ byteAt bytes 0 = 0x22 →
            ((s.port p).ingress.record = .empty →
              exec (.upstreamPacketEnd p ending bytes) s = .next (s.onPort p fun x => { x with
                tether := x.tether.spent.returned
                ingress := { x.ingress with
                  counters := { x.ingress.counters with orphans := bump x.ingress.counters.orphans } } }))
            ∧ ((s.port p).ingress.record = .discarding →
              exec (.upstreamPacketEnd p ending bytes) s = .next (s.onPort p fun x => { x with
                tether := x.tether.spent.returned
                ingress := { x.ingress with counters := { x.ingress.counters with
                  discardedPackets := bump x.ingress.counters.discardedPackets } } }))
            ∧ ∀ f : OpenFrame, (s.port p).ingress.record = .openFrame f → halfAt bytes 2 ≠ f.number →
                exec (.upstreamPacketEnd p ending bytes) s = .next (s.onPort p fun x => { x with
                  tether := x.tether.spent.returned
                  ingress :=
                    let i := x.ingress.truncated (x.pool.base + x.pool.surcharge)
                    if byteAt bytes 0 = 0x22 then
                      { i with counters := { i.counters with orphans := bump i.counters.orphans } }
                    else
                      { i with
                        record := .discarding
                        counters := { i.counters with
                          discarded := bump i.counters.discarded
                          discardedPackets := bump i.counters.discardedPackets } } })))
        ∧ (classify (s.port p).tether.cameraHeld ending bytes = .tooLong → (s.port p).tether.channel ≠ none →
          byteAt bytes 0 = 0x20 ∨ byteAt bytes 0 = 0x21 ∨ byteAt bytes 0 = 0x22 →
          (s.port p).ingress.record ≠ .empty →
          exec (.upstreamPacketEnd p ending bytes) s = .next (s.onPort p fun x => { x with
            tether := { x.tether with
                marks := bump x.tether.marks, cameraHeld := x.tether.cameraHeld - 1
                counters := { x.tether.counters with tooLong := bump x.tether.counters.tooLong } }.returned
            ingress :=
              match x.ingress.record with
              | .openFrame _ =>
                  let i := x.ingress.truncated (x.pool.base + x.pool.surcharge)
                  { i with record := .discarding, counters := { i.counters with discarded := bump i.counters.discarded } }
              | _ => { x.ingress with counters := { x.ingress.counters with
                  discardedPackets := bump x.ingress.counters.discardedPackets } } })))
    ∧ ∀ (ending : PacketEnding) (bytes : List Byte) (f : OpenFrame), (s.port p).tether.link = .up →
        0 < (s.port p).tether.cameraHeld → (s.output.sending ≠ none ∨ s.output.holdPin = true) →
        classify (s.port p).tether.cameraHeld ending bytes = .good →
        (s.port p).ingress.record = .openFrame f → halfAt bytes 2 = f.number →
        byteAt bytes 1 = (s.port p).ingress.expected → (s.port p).ingress.counters.linesLost ≤ 4294967295 →
        f.lost ≤ 65535 →
        (byteAt bytes 0 = 0x21 →
          exec (.upstreamPacketEnd p ending bytes) s = .next (s.onPort p fun x => { x with
            tether := x.tether.kept
            ingress := { x.ingress with
              queue := x.ingress.queue ++
                [{ reserve := false
                   packet := { kind := .line, frame := f.number, sequence := byteAt bytes 1, damaged := false
                               payload := (bytes.drop 8).take (bytes.length - 12) } }]
              ingressCount := x.ingress.ingressCount + 1, expected := x.ingress.expected + 1
              record := .openFrame { f with received := min (f.received + 1) 65535 } } }))
        ∧ (byteAt bytes 0 = 0x22 → ∀ g : OpenFrame,
            g = { f with lost := max f.lost (min ((halfAt bytes 6).toNat - f.received - f.damaged) 65535) } →
          exec (.upstreamPacketEnd p ending bytes) s = .next (s.onPort p fun x => { x with
            tether := x.tether.kept
            ingress := { x.ingress with
              queue := x.ingress.queue ++
                [{ reserve := false
                   packet := { kind := .trailer, frame := f.number, sequence := byteAt bytes 1, damaged := false
                               payload := trailerBytes g (x.pool.base + x.pool.surcharge) } }]
              ingressCount := x.ingress.ingressCount + 1, expected := x.ingress.expected + 1
              record := .empty
              counters := { x.ingress.counters with completed := bump x.ingress.counters.completed } } }))

/-- A GOOD control packet is a mark and is taken by its kind, here of at least 18 bytes (R5, R6). HELLO: a session's
first takes a BOOT port to FULL_WAIT, here with a fixed lens, and its feasible FULL entry waits for headroom (R14, R36,
R57); a later one is counted (R6). STATUS of a FULL port, here with an ABSENT lens: the undervoltage and no-load counts
move (R39); with 50 mA or more it gives a resistance sample, the floor of max(0, V_s - V_in) x 1000 / I, which fills the
record of eight, sets an absent resistance baseline, and then moves the filtered value by an eighth, here within the
drift margin of the baseline, or with the drift flag clear, which re-arms below half the margin (R157, R158, R166).
ANSWER: without an entry of its tag it is counted unmatched; the answer to a CAM_READ leaves the table and is HELD while
image packets wait (R25, R138). The answer to a LENS_MOVE on target releases the surcharge and settles or rests the lens
(R63, R100); off target it has the move tried again with a new packet (R101); the answer to a LENS_HOME leaves the lens
at 0 (R102); any other code, and a second miss, stall the lens with its fault (R103), here answered with HOLD or REPORT
(R168). Where the lens comes to rest or stalls, no trigger waits here and no port waits for the pool. Here the channel is
busy. The field that holds the class (log entry 25) and the class
byte of the notice (log entry 18) are the model's choices, and the maximum of the mark count is its reading (log entry
56). -/
def Obligations.ControlPacketsAreTaken : Prop :=
  ∀ (s now : State) (p : PortId) (ending : PacketEnding) (bytes : List Byte), s.running →
    ((s.port p).tether.link = .waking ∨ (s.port p).tether.link = .locking ∨ (s.port p).tether.link = .up) →
    classify (s.port p).tether.cameraHeld ending bytes = .good → 18 ≤ bytes.length →
    now = s.onTether p (fun t =>
      { t with marks := bump t.marks, counters := { t.counters with good := bump t.counters.good } }) →
    (byteAt bytes 0 = 0x10 →
      (((s.port p).tether.session = none ∨ ∃ y, (s.port p).tether.session = some { helloTaken := true, upReached := y }) →
        exec (.upstreamPacketEnd p ending bytes) s = .next (now.onTether p fun t =>
          { t with counters := { t.counters with repeatedHello := bump t.counters.repeatedHello } }))
      ∧ ∀ (up : Bool) (figure estimate : Nat),
          (s.port p).tether.session = some { helloTaken := false, upReached := up } → (s.port p).feed.power = .boot →
          halfAt bytes 6 = 0 → 1 ≤ (byteAt bytes 1).toNat → (byteAt bytes 1).toNat ≤ 4 → s.pool.queue = [] →
          s.feedFor p (1000 + 3000 * (byteAt bytes 1).toNat) = .feasible figure estimate →
          s.pool.effectiveBudget < s.allocationSum + (figure - (s.port p).pool.base) →
          exec (.upstreamPacketEnd p ending bytes) s = .next
            (({ now.onPort p (fun x => { x with
                  tether := { x.tether with
                    cameraId := some (wordAt bytes 8), helloTimer := none
                    session := some { helloTaken := true, upReached := up } }
                  lens := { x.lens with kind := .fixed }
                  feed := { x.feed with power := .fullWait, invalidCount := 0, powerClass := (byteAt bytes 1).toNat }
                  pool := { x.pool with classFigure := figure, estClass := estimate, surchargeAmount := 0, estLens := 0 } })
                with pool := { s.pool with
                  queue := [{ port := p, type := .full, amount := figure - (s.port p).pool.base
                              priority := (s.port p).feed.settings.priority, stamp := s.pool.stamp }]
                  stamp := bump s.pool.stamp } } : State).noticed
              [.powerChange p .boot .fullWait (s.port p).feed.hold (s.port p).feed.retry .hello,
                .cameraHello p (wordAt bytes 8) (byteAt bytes 1) .fixed]))
    ∧ (byteAt bytes 0 = 0x11 → (s.port p).feed.power = .full → (s.port p).lens.state = .absent →
        10 ≤ (s.port p).feed.lastSample.toNat →
        (∀ n, (halfAt bytes 2).toNat < (s.port p).feed.settings.vMin → (s.port p).feed.lastSample.toNat < 50 →
          (s.port p).feed.underVolt = { count := n, armed := true } → n < 2 →
          exec (.upstreamPacketEnd p ending bytes) s = .next (now.onFeed p fun f =>
            { f with underVolt := { count := n + 1, armed := true }, noLoad := { count := 0, armed := true } }))
        ∧ ∀ (well : State) (sample sum : Nat), (s.port p).feed.settings.vMin ≤ (halfAt bytes 2).toNat →
            well = now.onFeed p (fun f =>
              { f with underVolt := { count := 0, armed := true }, noLoad := { count := 0, armed := true } }) →
            sample = (s.pool.sampleMv - (halfAt bytes 2).toNat) * 1000 / (s.port p).feed.lastSample.toNat →
            sum = (s.port p).cable.resistanceSum + sample →
            ((s.port p).feed.lastSample.toNat < 50 → exec (.upstreamPacketEnd p ending bytes) s = .next well)
            ∧ (50 ≤ (s.port p).feed.lastSample.toNat →
              ((s.port p).cable.resistanceCount < 7 → (s.port p).cable.filtered = none →
                exec (.upstreamPacketEnd p ending bytes) s = .next (well.onCable p fun c =>
                  { c with resistanceCount := c.resistanceCount + 1, resistanceSum := sum
                           samplesTaken := bump c.samplesTaken }))
              ∧ ((s.port p).cable.resistanceCount = 7 → (s.port p).cable.resistanceBase = none →
                  (s.port p).cable.driftArmed = true →
                exec (.upstreamPacketEnd p ending bytes) s = .next (well.onCable p fun c =>
                  { c with resistanceCount := 8, resistanceSum := sum, filtered := some (sum / 8)
                           resistanceBase := some (sum / 8), samplesTaken := bump c.samplesTaken }))
              ∧ ∀ r b moved margin : Nat, (s.port p).cable.resistanceCount = 8 → (s.port p).cable.filtered = some r →
                  (s.port p).cable.resistanceBase = some b →
                  moved = ((r : Int) + ((sample : Int) - r).tdiv 8).toNat →
                  margin = max (b * (s.port p).feed.settings.drift / 100) 100 →
                  ((s.port p).cable.driftArmed = true → moved ≤ b + margin) →
                exec (.upstreamPacketEnd p ending bytes) s = .next (well.onCable p fun c =>
                  { c with filtered := some moved, samplesTaken := bump c.samplesTaken
                           driftArmed := c.driftArmed || decide (moved < b + margin / 2) })))
    ∧ (byteAt bytes 0 = 0x12 →
        ((∀ o ∈ (s.port p).tether.outstanding, o.tag ≠ byteAt bytes 1) →
          exec (.upstreamPacketEnd p ending bytes) s = .next (now.onTether p fun t =>
            { t with counters := { t.counters with unmatched := bump t.counters.unmatched } }))
        ∧ (∀ (o : Outstanding) (r : RelayEntry), (s.port p).tether.channel ≠ none →
            (s.port p).tether.outstanding.find? (fun x => decide (x.tag = byteAt bytes 1)) = some o → o.kind = .camRead →
            s.relay.find? (fun x =>
              decide (x.port = p) && decide (x.stage = .sent) && decide (x.downTag = byteAt bytes 1)) = some r →
            2 ^ 31 ≤ ((s.port p).ingress.egressCount - (s.port p).ingress.ingressCount).toNat →
            (∀ x ∈ s.relay, x.released p (s.port p).ingress.egressCount = false) →
            exec (.upstreamPacketEnd p ending bytes) s = .next
              { now.onPort p (fun x => { x with
                  tether := { x.tether with
                    outstanding := x.tether.outstanding.filter fun y => decide (y.tag ≠ byteAt bytes 1) }
                  relay := { x.relay with held := bump x.relay.held } }) with
                relay := (s.relay.filter fun x =>
                    !(decide (x.port = p) && decide (x.stage = .sent) && decide (x.downTag = byteAt bytes 1)))
                  ++ [{ r with
                    stage := .held (byteAt bytes 7) (wordAt bytes 8) (s.port p).ingress.ingressCount false }] })
        ∧ ∀ (o : Outstanding) (m : Move) (target : Positions) (settle : Nat) (reached : Option Positions) (gone : State),
            (s.port p).tether.channel ≠ none →
            (s.port p).tether.outstanding.find? (fun x => decide (x.tag = byteAt bytes 1)) = some o →
            o.kind.isLens = true → (s.port p).lens.move = some m → m.captured = some (target, settle) ∨ m.kind = .home →
            reached = (s.port p).lens.kind.reachedIn bytes →
            gone = now.onTether p (fun t =>
              { t with outstanding := t.outstanding.filter fun y => decide (y.tag ≠ byteAt bytes 1) }) →
            ((s.port p).lens.state = .moving → m.kind = .move → byteAt bytes 7 = 0 →
                (s.port p).lens.meets m reached = true → s.pool.queue = [] →
              ∀ there : State, there = gone.onPort p (fun x => { x.unsurcharged with
                  lens := { x.lens with held := reached, lastTarget := m.target, lastCode := some 0 } }) →
                (0 < settle →
                  exec (.upstreamPacketEnd p ending bytes) s = .next (there.onLens p fun l =>
                    { l with state := .settling, settleTimer := some (s.time + settle * 1000) }))
                ∧ (settle = 0 → (s.port p).capture.queue = [] → (s.port p).capture.want = none →
                    (s.port p).lens.want = none →
                  exec (.upstreamPacketEnd p ending bytes) s = .next
                    ((there.onLens p fun l => { l with state := .idle, move := none }).noticed
                      [.lensChange p .moving .idle .rest (some (m.kind, m.origin, m.target)) reached (some 0)])))
            ∧ ((s.port p).lens.state = .moving → m.kind = .move → byteAt bytes 7 = 0 →
                (s.port p).lens.meets m reached = false → m.attempt = 1 →
              ∀ n : Byte, n = (gone.port p).tether.nextTag →
                exec (.upstreamPacketEnd p ending bytes) s = .next (gone.onPort p fun x => { x with
                  tether := { x.tether with queue := x.tether.queue ++ [.lensMove n target], downTag := n + 1 }
                  lens := { x.lens with
                    held := reached.or x.lens.held, lastCode := some 0
                    move := some { m with attempt := 2, downTag := some n }
                    counters := { x.lens.counters with
                      moves := bump x.lens.counters.moves, offTarget := bump x.lens.counters.offTarget } } }))
            ∧ ((s.port p).lens.state = .homing → byteAt bytes 7 = 0 → s.pool.queue = [] →
                (s.port p).capture.queue = [] → (s.port p).capture.want = none → (s.port p).lens.want = none →
              ∀ zero : Positions, zero = (s.port p).lens.kind.homePositions →
                exec (.upstreamPacketEnd p ending bytes) s = .next
                  ((gone.onPort p fun x => { x.unsurcharged with
                    lens := { x.lens with
                      state := .idle, move := none, held := some zero, lastTarget := none
                      lastCode := some 0 } }).noticed
                  [.lensChange p .homing .idle .rest (some (m.kind, m.origin, m.target)) (some zero) (some 0)]))
            ∧ (∀ r : Reaction, s.pool.queue = [] → (s.port p).capture.queue = [] → (s.port p).capture.want = none →
                (s.port p).feed.power.feedOn = true → (s.port p).cable.reactions.get FaultKind.lensStall.index = r →
                r = .hold ∨ r = .report →
                ((s.port p).lens.state = .moving → m.kind = .move →
                    byteAt bytes 7 ≠ 0 ∨ (s.port p).lens.meets m reached = false ∧ m.attempt ≠ 1 →
                  exec (.upstreamPacketEnd p ending bytes) s = .next
                    (gone.lensStalled p .lensStall .stall reached (some (byteAt bytes 7)) r))
                ∧ ((s.port p).lens.state = .homing → byteAt bytes 7 ≠ 0 →
                  exec (.upstreamPacketEnd p ending bytes) s = .next
                    (gone.lensStalled p .lensStall .stall none (some (byteAt bytes 7)) r))))

/-! ## Feed control (02) -/

/-- The result of a probe follows from its two currents in microampere (R32). A completed probe is counted and its end
recorded. OPEN leads to VACANT with the re-probe timer; the first and second INVALID in a row to a new probe; VALID to
BOOT_WAIT, where a feasible boot allowance that does not fit the headroom waits in the admission queue (R32 to R34, R54,
R57 to R59). A SHORT whose reaction is CUT writes its finding and locks the port out (R40, R168, R176). That an expiry
brings the time base to the timer's end (log entry 2) and the field that holds the boot estimate (log entry 25) are the
model's choices. -/
def Obligations.ProbesMoveThePort : Prop :=
  (∀ at4V at8V : Nat,
    judgeProbe at4V at8V =
      if at8V = at4V then .openEnded
      else if at8V < at4V then .invalid
      else if roundHalfUp 4000000 (at8V - at4V) < 1000 then .short
      else if roundHalfUp 4000000 (at8V - at4V) < 13500 then .invalid
      else if roundHalfUp 4000000 (at8V - at4V) < 16501 then .valid
      else if roundHalfUp 4000000 (at8V - at4V) < 500001 then .invalid
      else .openEnded)
  ∧ ∀ (s now : State) (p : PortId) (d at4V at8V : Nat), s.running → (s.port p).feed.probeTimer = some d →
    (s.port p).feed.power = .probing →
    now = ({ s with time := max s.time d } : State).onFeed p (fun f =>
      { f with probeTimer := none, lastProbeEnd := some (max s.time d)
               counters := f.counters.countProbe (judgeProbe at4V at8V) }) →
    (judgeProbe at4V at8V = .openEnded →
      exec (.probeTimerExpiry p at4V at8V) s = .next
        ((now.onFeed p fun f => { f with
            power := .vacant, invalidCount := 0, reprobeTimer := some (max s.time d + 1000000) }).noticed
          [.powerChange p .probing .vacant (s.port p).feed.hold (s.port p).feed.retry .probe]))
    ∧ (judgeProbe at4V at8V = .invalid → (s.port p).feed.invalidCount < 2 →
      exec (.probeTimerExpiry p at4V at8V) s = .next (now.onFeed p fun f => { f with
        invalidCount := f.invalidCount + 1, probeTimer := some (max s.time d + 20000) }))
    ∧ (∀ (r : Nat × RSource) (figure estimate : Nat), judgeProbe at4V at8V = .valid → s.pool.queue = [] →
        r = chooseRUsed (s.port p) (s.kinds.get (s.port p).feed.settings.cableKind) →
        feedCalculation 3000 s.pool.settings.vPool (s.port p).feed.settings.vMin r.1 s.pool.effectiveBudget
          = .feasible figure estimate →
        s.pool.effectiveBudget < s.allocationSum + figure →
        exec (.probeTimerExpiry p at4V at8V) s = .next
          (({ now.onPort p (fun x => { x with
                feed := { x.feed with power := .bootWait, invalidCount := 0 }
                pool := { x.pool with rUsed := some r, bootEstimate := estimate } }) with
              pool := { s.pool with
                queue := [{ port := p, type := .boot, amount := figure, priority := (s.port p).feed.settings.priority
                            stamp := s.pool.stamp }]
                stamp := bump s.pool.stamp } } : State).noticed
            [.powerChange p .probing .bootWait (s.port p).feed.hold (s.port p).feed.retry .probe]))
    ∧ (judgeProbe at4V at8V = .short → (s.port p).cable.reactions.get FaultKind.probeShort.index = .cut →
        ∃ t f, exec (.probeTimerExpiry p at4V at8V) s = .next t ∧ (t.port p).feed.power = .lockedOut
          ∧ (t.port p).cable.latest = some f ∧ f.port = p ∧ f.kind = .short ∧ f.source = .probe ∧ f.distance = none
          ∧ f ∈ t.breaks.findings ∧ ∀ q, q ≠ p → t.port q = s.port q)

/-- The re-probe and backoff timers take the port through the check of R31; the inrush timer brings the boot limit into
force (R35), the full-session timer clears the retry count (R37), and a feed sample is recorded, counted when it lies
above the limit in force, and taken again in 1 ms (R33, R38, R41). That an expiry brings the time base to the timer's
end (log entry 2), the cause PROBE of a re-probe (log entry 53) and the field that holds the boot estimate (log entry 25)
are the model's choices. -/
def Obligations.FeedTimersAndSamples : Prop :=
  ∀ (s now : State) (p : PortId) (d : Nat), s.running → now = { s with time := max s.time d } →
    (∀ f : Feed, f = (if (s.port p).cable.diag ≠ .clear then (s.port p).feed.enter .diagnosing
          else if s.pool.feedEnable = false then (s.port p).feed.enter .poolHalt
          else { (s.port p).feed.enter .probing with probeTimer := some (max s.time d + 20000) }) →
      ((s.port p).feed.reprobeTimer = some d →
        exec (.reprobeTimerExpiry p) s = .next
          ((now.onFeed p fun _ => { f with reprobeTimer := none }).noticed
            (powerNotice (s.port p) { s.port p with feed := f } p .probe).toList))
      ∧ ((s.port p).feed.backoffTimer = some d →
        exec (.backoffTimerExpiry p) s = .next
          ((now.onFeed p fun _ => { f with backoffTimer := none }).noticed
            (powerNotice (s.port p) { s.port p with feed := f } p .backoff).toList)))
    ∧ ((s.port p).feed.inrushTimer = some d →
        exec (.inrushTimerExpiry p) s = .next (now.onFeed p fun f =>
          { f with inrushTimer := none, limit := (f.bootLimitEstimate * 5 + 3) / 4 }))
    ∧ ((s.port p).feed.fullSessionTimer = some d →
        exec (.fullSessionTimerExpiry p) s = .next (now.onFeed p fun f => { f with fullSessionTimer := none, retry := 0 }))
    ∧ ∀ current : Half, (s.port p).feed.sampleTimer = some d →
        (current.toNat ≤ (s.port p).feed.limit →
          exec (.sampleTimerExpiry p current) s = .next (now.onFeed p fun f => { f with
            sampleTimer := some (max s.time d + 1000), lastSample := current, overCount := 0 }))
        ∧ ((s.port p).feed.limit < current.toNat → (s.port p).feed.overCount = 0 →
          exec (.sampleTimerExpiry p current) s = .next (now.onFeed p fun f => { f with
            sampleTimer := some (max s.time d + 1000), lastSample := current, overCount := 1 }))

/-! ## The power pool (03) -/

/-- R from length is the round half up of L x loop / 100 plus the connector allowance, at most 204 980 milliohm in the
ranges of R48 and R153 (R55). The feed calculation runs its four stages in order; its CURRENT stage does not fail in the
ranges of R48, and what succeeds for a power succeeds for a smaller one, with a smaller figure and estimate (R56). -/
def Obligations.FeedFiguresFollowTheirFormulas : Prop :=
  (∀ (k : CableKind) (l : Nat), rFromLength k l = (2 * (l * k.loop) + 100) / 200 + k.connector
      ∧ (l ≤ 9999 → k.law → rFromLength k l ≤ 204980))
  ∧ (∀ power vPool vMin r effective current loss : Nat, 0 < vMin → current = (power * 1000 + vMin - 1) / vMin →
      loss = (current * current * r + 999999) / 1000000 →
      feedCalculation power vPool vMin r effective =
        (if 3000 < current then .infeasible .current
        else if vPool < vMin + (current * r + 999) / 1000 then .infeasible .drop
        else if effective < power + loss then .infeasible .budget
        else .feasible (power + loss) current)
      ∧ (power ≤ 18000 → 9000 ≤ vMin → current ≤ 2000))
  ∧ ∀ p q vPool vMin r effective figure estimate : Nat, p ≤ q →
      feedCalculation q vPool vMin r effective = .feasible figure estimate →
      ∃ figure' estimate', feedCalculation p vPool vMin r effective = .feasible figure' estimate' ∧ figure' ≤ figure
        ∧ estimate' ≤ estimate

/-- A shed takes, of the admitted ports whose feed is on, one of the lowest priority, and of those the one that stands
latest in the admitted-port list; it finds none exactly when no admitted port's feed is on (R66). The sample that brings
the low count to 5 enters DERATE and sheds ports one by one, each the choice among those still admitted, while the
allocations exceed three quarters of the budget and no further; a shed port holds nothing, in the pool, in the queue or
in its lens, and is told of with the cause SHED before the POOL_EVENT that lists the ports shed; an entry that waits in
the queue keeps its place, here with no entry that fits three quarters of the budget (R65, R66). -/
def Obligations.ShedsTakeTheLowestAndLatest : Prop :=
  ∀ s : State, (∀ p, (s.port p).feed.settings.priority ≤ 3) →
    (s.shedChoice = none ↔ ∀ p ∈ s.pool.admitted, (s.port p).feed.power.feedOn = false)
    ∧ (∀ p, s.shedChoice = some p →
        (s.port p).feed.power.feedOn = true
        ∧ (∀ q ∈ s.pool.admitted, (s.port q).feed.power.feedOn = true →
            (s.port p).feed.settings.priority ≤ (s.port q).feed.settings.priority)
        ∧ ∃ before after, s.pool.admitted = before ++ p :: after
            ∧ (∀ q ∈ after, (s.port q).feed.power.feedOn = true →
                (s.port p).feed.settings.priority < (s.port q).feed.settings.priority))
    ∧ (∀ (v : Half) (d b : Nat), s.running → s.link.opState = .run → s.pool.sampleTimer = some d →
        s.pool.settings.kill ≤ v.toNat → v.toNat < s.pool.settings.derate → s.summedCurrent ≤ s.pool.settings.trip →
        s.pool.derate = false → s.pool.lowCount = 4 → b = s.pool.settings.budget * 3 / 4 →
        (∀ a ∈ s.pool.queue, b < a.amount) →
        ∃ (t : State) (shed : List PortId) (k : Link) (l : List Notice), exec (.poolSample v) s = .next t
          ∧ t.pool.derate = true ∧ t.pool.lowCount = 0 ∧ t.pool.recoveryCount = 0 ∧ t.pool.effectiveBudget = b
          ∧ (t.allocationSum ≤ b ∨ t.shedChoice = none)
          ∧ (∀ before p after, shed = before ++ p :: after →
              ({ s with pool := { s.pool with admitted := s.pool.admitted.filter fun q => decide (q ∉ before) } } :
                State).shedChoice = some p
              ∧ b + (before.map fun q => (s.port q).pool.base + (s.port q).pool.surcharge).sum < s.allocationSum)
          ∧ t.pool.admitted = (s.pool.admitted.filter fun q => decide (q ∉ shed))
          ∧ t.pool.queue = (s.pool.queue.filter fun a => decide (a.port ∉ shed))
          ∧ (∀ p ∈ shed, (t.port p).feed.power = .shed ∧ (t.port p).pool.base = 0 ∧ (t.port p).pool.surcharge = 0
              ∧ (t.port p).lens.state = .absent ∧ (t.port p).capture.queue = [] ∧ (t.port p).tether.link ≠ .up)
          ∧ (∀ p, p ∉ shed → t.port p = { s.port p with cable := (t.port p).cable })
          ∧ k = { s.link with written := k.written }
          ∧ (∀ p ∈ shed, .powerChange p (s.port p).feed.power .shed false (s.port p).feed.retry .shed ∈ l)
          ∧ t.link =
              (l ++ [Notice.poolEvent .derateEntered v.toNat s.summedCurrent b t.allocationSum shed]).foldl Link.join k)

/-- A pool sample is recorded with the summed port current and taken again in 1 ms; outside RUN nothing more. In RUN,
without a kill, it moves the counts (R64). The fifth low sample enters DERATE, here with allocations that fit three
quarters of the budget (R65); the hundredth recovery sample ends it and takes every SHED port, in port order, through the
check of R31 (R67). Each tells the host by a POOL_EVENT (R70). The head of the admission queue, if there is one, does not
fit the new headroom here. That an expiry brings the time base to the timer's end is the model's choice (log entry 2). -/
def Obligations.PoolSamplesAreCounted : Prop :=
  ∀ (s now : State) (v : Half) (d : Nat), s.running → s.pool.sampleTimer = some d →
    now = { s with
      time := max s.time d
      pool := { s.pool with
        sampleMv := v.toNat, sampleMa := s.summedCurrent, sampleTimer := some (max s.time d + 1000) } } →
    (s.link.opState = .config → exec (.poolSample v) s = .next now)
    ∧ (s.link.opState = .run → s.pool.settings.kill ≤ v.toNat → s.summedCurrent ≤ s.pool.settings.trip →
        (s.pool.derate = false → s.pool.settings.derate ≤ v.toNat →
          exec (.poolSample v) s = .next { now with pool := { now.pool with lowCount := 0, tripCount := 0 } })
        ∧ (s.pool.derate = false → v.toNat < s.pool.settings.derate → s.pool.lowCount < 4 →
          exec (.poolSample v) s = .next
            { now with pool := { now.pool with lowCount := s.pool.lowCount + 1, tripCount := 0 } })
        ∧ (s.pool.derate = false → v.toNat < s.pool.settings.derate → s.pool.lowCount = 4 →
            (∀ a ∈ s.pool.queue.head?, s.pool.settings.budget * 3 / 4 < s.allocationSum + a.amount) →
            s.allocationSum ≤ s.pool.settings.budget * 3 / 4 →
          exec (.poolSample v) s = .next
            (({ now with pool := { now.pool with
                derate := true, lowCount := 0, recoveryCount := 0, tripCount := 0
                counters := { s.pool.counters with derates := bump s.pool.counters.derates } } } : State).noticed
              [.poolEvent .derateEntered v.toNat s.summedCurrent (s.pool.settings.budget * 3 / 4) s.allocationSum []]))
        ∧ (s.pool.derate = true → s.pool.settings.derate + 500 ≤ v.toNat → s.pool.recoveryCount < 99 →
          exec (.poolSample v) s = .next
            { now with pool := { now.pool with recoveryCount := s.pool.recoveryCount + 1, tripCount := 0 } })
        ∧ (s.pool.derate = true → v.toNat < s.pool.settings.derate + 500 →
          exec (.poolSample v) s = .next
            { now with pool := { now.pool with recoveryCount := 0, tripCount := 0 } })
        ∧ (s.pool.derate = true → s.pool.settings.derate + 500 ≤ v.toNat → s.pool.recoveryCount = 99 →
            (∀ a ∈ s.pool.queue.head?, s.pool.settings.budget < s.allocationSum + a.amount) → ∃ ports : Vector Port 8,
          exec (.poolSample v) s = .next
            (({ now with
                pool := { now.pool with derate := false, lowCount := 0, recoveryCount := 0, tripCount := 0 }
                ports := ports } : State).noticed
              ((allPorts.filterMap fun p => powerNotice (s.port p) (ports.get p) p .derateEnd)
                ++ [.poolEvent .derateLeft v.toNat s.summedCurrent s.pool.settings.budget s.allocationSum
                  (allPorts.filter fun p => decide ((s.port p).feed.power = .shed))]))
          ∧ ∀ p, ports.get p =
              if (s.port p).feed.power = .shed then (s.port p).checked s.pool.feedEnable (max s.time d) else s.port p))

/-- A FEED_KILL: a sample in RUN below the kill threshold, or the second in a row above the trip current, clears the global
feed enable, empties the admission queue and takes every port in PROBING, VACANT, BOOT_WAIT, BOOT, FULL_WAIT, FULL or SHED
to POOL_HALT; a port whose feed was on holds no allocation after it, its lens is ABSENT and its link off; every other port
keeps its power state. The counter of its cause rises, VOLTAGE where both hold, and where the sample changes nothing in
the DERATE state, a POOL_EVENT that names the ports moved joins last (R45, R64, R68, R70). -/
def Obligations.FeedKillHaltsThePorts : Prop :=
  ∀ (s : State) (v : Half) (d : Nat) (low : Bool) (moved : List PortId), s.running → s.link.opState = .run →
    s.pool.sampleTimer = some d → s.pool.feedEnable = true → low = decide (v.toNat < s.pool.settings.kill) →
    (low = true ∨ 1 ≤ s.pool.tripCount ∧ s.pool.settings.trip < s.summedCurrent) →
    (∀ a ∈ s.pool.queue, (s.port a.port).feed.power.feedOn = true ∨ (s.port a.port).feed.power = .bootWait) →
    moved = (allPorts.filter fun p => decide ((s.port p).feed.power ∈
      [PowerState.probing, .vacant, .bootWait, .boot, .fullWait, .full, .shed])) →
    ∃ t, exec (.poolSample v) s = .next t ∧ t.pool.feedEnable = false ∧ t.pool.tripCount = 0 ∧ t.pool.queue = []
      ∧ t.pool.counters.killsVoltage =
          (if low = true then bump s.pool.counters.killsVoltage else s.pool.counters.killsVoltage)
      ∧ t.pool.counters.killsCurrent =
          (if low = true then s.pool.counters.killsCurrent else bump s.pool.counters.killsCurrent)
      ∧ (∀ p, (t.port p).feed.power = (if p ∈ moved then .poolHalt else (s.port p).feed.power)
          ∧ ((s.port p).feed.power.feedOn = true →
              (t.port p).pool.base = 0 ∧ (t.port p).pool.surcharge = 0 ∧ (t.port p).lens.state = .absent
              ∧ ((t.port p).tether.link = .down ∨ (t.port p).tether.link = .quiet)))
      ∧ ((s.pool.derate = false ∧ s.pool.lowCount < 4) ∨ (s.pool.derate = true ∧ s.pool.recoveryCount < 99) →
          t.pool.derate = s.pool.derate
          ∧ ∃ k : Link, t.link = k.join
              (.poolEvent (if low = true then .killVoltage else .killCurrent) v.toNat s.summedCurrent
                s.pool.effectiveBudget t.allocationSum moved))

/-- The admission queue is served from its head: a head that does not fit the headroom is left there. A BOOT entry that
fits, here the only one, closes its port's feed switch and wakes its link; a FULL entry takes its port, here without a
motorized lens, to FULL and begins its FULL session; a SURCHARGE entry raises its port's allocation and limit and lets
its lens packet go, here once the open exposure has closed (R34, R35, R37, R60, R61, R83, R98, R158, R162, R166). That
the amount is added to the allocation, which gives the figures of R61 in every run (log entry 38), and the field that
holds the boot estimate (log entry 25) are the model's. -/
def Obligations.AdmissionsServeTheHead : Prop :=
  ∀ s : State, s.running →
    (s.pool.queue = [] → exec .admission s = .next s)
    ∧ (∀ a rest, s.pool.queue = a :: rest → s.pool.effectiveBudget < s.allocationSum + a.amount →
        exec .admission s = .next s)
    ∧ ∀ (a : AdmissionEntry) (pool : Pool), s.pool.queue = [a] → s.allocationSum + a.amount ≤ s.pool.effectiveBudget →
        pool = { s.pool with
          queue := [], stamp := 0, admitted := (s.pool.admitted.filter fun x => decide (x ≠ a.port)) ++ [a.port] } →
        (a.type = .boot → (s.port a.port).feed.power = .bootWait → (s.port a.port).tether.link = .down →
          exec .admission s = .next
            (({ s.onPort a.port (fun x => { x with
                  feed := { x.feed with
                    power := .boot, invalidCount := 0, bootLimitEstimate := x.pool.bootEstimate, limit := 1500
                    inrushTimer := some (s.time + 50000), sampleTimer := some (s.time + 1000) }
                  pool := { x.pool with base := x.pool.base + a.amount }
                  tether := { x.tether with
                    link := .waking, lockCheck := some (s.time + 1000), wakeTimer := some (s.time + 500000), marks := 0
                    goodWindows := 0, session := some { helloTaken := false, upReached := false } } }) with
                pool := { pool with counters := { pool.counters with
                  bootAdmissions := bump pool.counters.bootAdmissions } } } : State).noticed
              [.powerChange a.port .bootWait .boot (s.port a.port).feed.hold (s.port a.port).feed.retry .admission,
                .linkChange a.port .down .waking s.usClock]))
        ∧ (a.type = .full → (s.port a.port).feed.power = .fullWait → (s.port a.port).lens.kind.motorized = false →
          exec .admission s = .next
            (({ s.onPort a.port (fun x => { x with
                  feed := { x.feed with
                    power := .full, invalidCount := 0, limit := (x.pool.estClass * 5 + 3) / 4, inrushTimer := none
                    overCount := 0, noLoad := {}, underVolt := {}, fullSessionTimer := some (s.time + 60000000) }
                  pool := { x.pool with base := x.pool.base + a.amount }
                  capture := { x.capture with
                    cursor := 0, program := x.capture.staged.getD x.capture.program, staged := none }
                  cable := { x.cable with
                    flex := {}, flexTimer := some (s.time + 1000000), allowance := 0, driftArmed := true
                    resistanceCount := 0, resistanceSum := 0, filtered := none } }) with
                pool := { pool with counters := { pool.counters with
                  fullAdmissions := bump pool.counters.fullAdmissions } } } : State).noticed
              [.powerChange a.port .fullWait .full (s.port a.port).feed.hold (s.port a.port).feed.retry .admission]))
        ∧ (a.type = .surcharge → (s.port a.port).capture.exposure ≠ none →
          exec .admission s = .next
            { s.onPort a.port (fun x => { x with
                feed := { x.feed with limit := (x.pool.estLens * 5 + 3) / 4 }
                pool := { x.pool with surcharge := x.pool.surcharge + a.amount }
                lens := { x.lens with move := x.lens.move.map fun m => { m with admitted := true } } }) with
              pool := { s.pool with
                queue := [], stamp := 0
                counters := { s.pool.counters with
                  surchargeAdmissions := bump s.pool.counters.surchargeAdmissions } } })

/-! ## The frame output port (07) -/

/-- The output arbiter takes the first qualifying position of the HIGH rotation after the HIGH pointer, whose nine
positions are the ports and then LOW: an eligible HIGH port is granted at its own position, and at LOW the first eligible
LOW port after the LOW pointer; it grants under the port's own group, whenever a port is eligible. A pick, made only while
the output port is idle and HOLD deasserted, takes the granted port's queue head, records its slot and moves the pointers
(R127, R129 to R131, R134). That the record names the slot by the egress count is the model's choice (log entry 10), and
that TRANSMISSION_START runs the arbiter's own pick is the model's reading (log entry 4). -/
def Obligations.OutputArbiterPicks : Prop :=
  ∀ s : State,
    (∀ p g, s.outputPick = some (p, g) → s.eligible p = true ∧ (s.port p).feed.settings.outputGroup = g)
    ∧ ((∃ p, s.eligible p = true) → ∃ x, s.outputPick = some x)
    ∧ (∀ k : Nat, k < 9 →
        (∀ (j : Nat) (q : PortId), j < k → s.eligible q = true →
          ((s.port q).feed.settings.outputGroup = .high → q.val ≠ (s.output.highPtr.val + 1 + j) % 9)
          ∧ ((s.port q).feed.settings.outputGroup = .low → (s.output.highPtr.val + 1 + j) % 9 ≠ 8)) →
        (∀ p, p.val = (s.output.highPtr.val + 1 + k) % 9 → s.eligible p = true →
          (s.port p).feed.settings.outputGroup = .high → s.outputPick = some (p, .high))
        ∧ ((s.output.highPtr.val + 1 + k) % 9 = 8 → ∀ (m : Nat) (p : PortId), m < 8 →
            p.val = (s.output.lowPtr.val + 1 + m) % 8 → s.eligible p = true →
            (s.port p).feed.settings.outputGroup = .low →
            (∀ (j : Nat) (q : PortId), j < m → q.val = (s.output.lowPtr.val + 1 + j) % 8 → s.eligible q = true →
              (s.port q).feed.settings.outputGroup = .high) →
            s.outputPick = some (p, .low)))
    ∧ (s.running →
        ((s.output.sending ≠ none ∨ s.output.holdPin = true ∨ s.outputPick = none) →
          exec .transmissionStart s = .next s)
        ∧ (∀ (p : PortId) (x : Slot) (rest : List Slot), s.output.sending = none → s.output.holdPin = false →
            (s.port p).ingress.queue = x :: rest →
            (s.outputPick = some (p, .high) →
              exec .transmissionStart s = .next { s with output := { s.output with
                sending := some { port := p, reserve := x.reserve, egress := (s.port p).ingress.egressCount
                                  packet := x.packet, flushed := false }
                highPtr := p.castSucc
                counters := { s.output.counters with highGrants := bump s.output.counters.highGrants } } })
            ∧ (s.outputPick = some (p, .low) →
              exec .transmissionStart s = .next { s with output := { s.output with
                sending := some { port := p, reserve := x.reserve, egress := (s.port p).ingress.egressCount
                                  packet := x.packet, flushed := false }
                highPtr := 8, lowPtr := p
                counters := { s.output.counters with lowGrants := bump s.output.counters.lowGrants } } })))

/-- HOLD asserted stops the output port from picking and, once deasserted, lets it pick. A completed transmission frees
its slot: the egress count rises, a credited slot becomes an unreturned credit, and where four are unreturned, or one
with no slot occupied, a credit return is due in UP (R20, R111, R128, R129, R134). After a flush it only counts (R133).
Here no port can be granted next and no access of the port is HELD. That HOLD given the level it has changes nothing is
the model's reading (log entry 13). -/
def Obligations.TransmissionsFreeTheirSlots : Prop :=
  (∀ s : State,
    (s.output.holdPin = true → exec .holdAsserted s = .next s)
    ∧ (s.output.holdPin = false → exec .holdDeasserted s = .next s)
    ∧ (s.output.holdPin = false → s.running → exec .holdAsserted s = .next { s with output := { s.output with
        holdPin := true
        counters := { s.output.counters with
          heldWithWork := if ∃ p, s.eligible p = true then bump s.output.counters.heldWithWork
            else s.output.counters.heldWithWork } } })
    ∧ (s.output.holdPin = true → s.running → (s.output.sending ≠ none ∨ ∀ p, s.eligible p = false) →
        exec .holdDeasserted s = .next { s with output := { s.output with holdPin := false } }))
  ∧ ∀ (s : State) (x : Transmission) (output : Output), s.running → s.output.sending = some x →
      s.output.holdPin = true →
      output = { s.output with
        sending := none
        counters := { s.output.counters with
          sent := bump s.output.counters.sent
          trailers := if x.packet.kind = .trailer then bump s.output.counters.trailers else s.output.counters.trailers
          damaged := if x.packet.damaged then bump s.output.counters.damaged else s.output.counters.damaged
          flushed := if x.flushed then bump s.output.counters.flushed else s.output.counters.flushed } } →
      (x.flushed = true → exec .transmissionComplete s = .next { s with output := output })
      ∧ (x.flushed = false → (∀ r ∈ s.relay, r.port = x.port → r.stage.unanswered = true) →
        (x.reserve = true →
          exec .transmissionComplete s = .next
            { s.onPort x.port (fun y => { y with ingress := { y.ingress with
                queue := y.ingress.queue.tail, egressCount := y.ingress.egressCount + 1 } }) with output := output })
        ∧ (x.reserve = false → (s.port x.port).tether.channel ≠ none →
          exec .transmissionComplete s = .next
            { s.onPort x.port (fun y => { y with
                ingress := { y.ingress with
                  queue := y.ingress.queue.tail, egressCount := y.ingress.egressCount + 1 }
                tether := { y.tether with
                  occupied := y.tether.occupied - 1, unreturned := y.tether.unreturned + 1
                  creditDue := y.tether.creditDue
                    || (decide (y.tether.link = .up) && (decide (3 ≤ y.tether.unreturned)
                          || decide (y.tether.occupied ≤ 1))) } }) with output := output }))

/-! ## The cable meter and the break analyser (08, 09) -/

/-- With no calibration pending the meter, while idle, is granted to the first waiting LIVE shot after the LIVE pointer,
or the shot is skipped where the link is not LOCKING after a lock loss; without one, to the offered FULL measurement of
a port whose feed is off and whose link is QUIET, led by a calibration where R149 says (R144, R145, R149). A completed
LIVE shot frees the meter, here with nothing waiting, and is kept in the flex record of a FULL port (R147, R159, R164).
That a completion brings the time base to its end is the model's choice (log entry 2), and the maximum of the LIVE counts
its reading (log entry 56). -/
def Obligations.MeterGrantsAndLiveShots : Prop :=
  (∀ (s : State) (p : PortId), s.running → s.meter.holder = none → s.meter.pendingCal = false →
    (s.meter.livePlaces = (Vector.replicate 8 false).set p.val true p.isLt →
      ((s.port p).tether.link = .locking → (∃ y, (s.port p).tether.session = some { helloTaken := y, upReached := true }) →
        exec .meterGrant s = .next { s with meter := { s.meter with
          livePlaces := Vector.replicate 8 false, livePtr := p, holder := some (.live p, s.time + 1000) } })
      ∧ ((s.port p).tether.link ≠ .locking → s.meter.offered = none →
        exec .meterGrant s = .next { s with meter := { s.meter with
          livePlaces := Vector.replicate 8 false, livePtr := p
          counters := { s.meter.counters with liveSkipped := bump s.meter.counters.liveSkipped } } }))
    ∧ (s.meter.livePlaces = Vector.replicate 8 false → s.meter.offered = some p →
      ((s.port p).feed.power.feedOn = true ∨ (s.port p).tether.link ≠ .quiet → exec .meterGrant s = .next s)
      ∧ ((s.port p).feed.power.feedOn = false → (s.port p).tether.link = .quiet →
        (s.meter.timebase.everCompleted = false ∨ s.meter.timebase.ageTimer = none ∨ s.meter.timebase.valid = false →
          exec .meterGrant s = .next { s.onCable p (fun c => { c with diag := .calibrating }) with
            meter := { s.meter with offered := none, holder := some (.full p true true [], s.time + 1000) } })
        ∧ (s.meter.timebase.everCompleted = true → s.meter.timebase.ageTimer ≠ none → s.meter.timebase.valid = true →
          exec .meterGrant s = .next { s.onCable p (fun c => { c with diag := .measuring }) with
            meter := { s.meter with offered := none, holder := some (.full p false false [], s.time + 4000) } }))))
  ∧ ∀ (s : State) (p : PortId) (d : Nat) (shot : Samples) (echo : Option NearestEcho), s.running →
      s.meter.holder = some (.live p, d) → s.meter.pendingCal = false → s.meter.livePlaces = Vector.replicate 8 false →
      s.meter.offered = none →
      echo = (shotEcho 200 shot).map (fun x =>
        { t1 := x.t1, polarity := x.polarity, uncalibrated := !s.meter.timebase.valid
          distance := (distanceOf x.t1 s.meter.timebase (s.kinds.get (s.port p).feed.settings.cableKind).velocity).1
          overRange := (distanceOf x.t1 s.meter.timebase (s.kinds.get (s.port p).feed.settings.cableKind).velocity).2 }) →
      exec (.liveShotComplete shot) s = .next
        { s.onCable p (fun c => if (s.port p).feed.power ≠ .full then c else { c with flex := { c.flex with
            taken := bump c.flex.taken
            echoing := if echo = none then c.flex.echoing else bump c.flex.echoing
            nearest :=
              match echo with
              | none => c.flex.nearest
              | some x =>
                  if (∀ b, c.echoBase = some b → x.t1 + 8 < b.tEnd) ∧ (∀ y, c.flex.nearest = some y → x.t1 < y.t1) then
                    some x
                  else c.flex.nearest } }) with
          time := max s.time d
          meter := { s.meter with
            holder := none
            counters := { s.meter.counters with
              liveTaken := bump s.meter.counters.liveTaken
              liveEcho := if echo = none then s.meter.counters.liveEcho else bump s.meter.counters.liveEcho } } }

/-- A FULL measurement is judged against the echo part of the baseline by the rows of R172. The results of its shots are
held as they end, each 1 ms after the one before (R143, R145); with the fourth it ends. At its end the only
diagnosis leaves the queue, the link enters DOWN and the meter is free; a DIAGNOSING port is locked out for an OPEN or
SHORT short of the cable's end and retried otherwise; a learn stores its echo and drops the resistance part, or keeps
the baseline (R156, R172, R173). That a completion brings the time base to its end (log entry 2) and that one command may
bring several shots (log entry 15) are the model's choices. -/
def Obligations.FullMeasurementsAreJudged : Prop :=
  (∀ (x : Echo) (dist : Nat) (far u : Bool) (n : Nat) (b : EchoBase),
    judge { echo := none, echoing := n, uncalibrated := u } none =
        { kind := .noBreak, distance := none, polarity := none
          flags := { noEcho := true, noBaseline := true, uncalibrated := u } }
    ∧ judge { echo := none, echoing := n, uncalibrated := u } (some b) =
        { kind := .noBreak, distance := none, polarity := none, flags := { noEcho := true, uncalibrated := u } }
    ∧ judge { echo := some (x, dist, far), echoing := n, uncalibrated := u } none =
        { kind := .unjudged, distance := some dist, polarity := some x.polarity
          flags := { noBaseline := true, overRange := far, uncalibrated := u } }
    ∧ judge { echo := some (x, dist, far), echoing := n, uncalibrated := u } (some b) =
        if x.t1 + 8 < b.tEnd then
          { kind := match x.polarity with | .positive => .openBreak | .negative => .short
            distance := some dist, polarity := some x.polarity, flags := { overRange := far, uncalibrated := u } }
        else if x.t1 ≤ b.tEnd + 8 ∧ x.polarity = b.polarity ∧ (x.amplitude - b.amplitude).natAbs ≤ 150 then
          { kind := .noBreak, distance := none, polarity := none, flags := { uncalibrated := u } }
        else if x.t1 ≤ b.tEnd + 8 then
          { kind := match x.polarity with | .positive => .openBreak | .negative => .short
            distance := some dist, polarity := some x.polarity
            flags := { atEnd := true, overRange := far, uncalibrated := u } }
        else { kind := .noBreak, distance := none, polarity := none, flags := { mismatch := true, uncalibrated := u } })
  ∧ (∀ (s : State) (p : PortId) (d : Nat) (led : Bool) (taken : List (Option Echo)) (shot1 : Samples)
      (shot2 shot3 shot4 : Option Samples) (shots : List Samples), s.running →
      s.meter.holder = some (.full p led false taken, d) → shots = shot1 :: [shot2, shot3, shot4].filterMap id →
      taken.length + shots.length < 4 →
      exec (.fullMeasurementComplete shot1 shot2 shot3 shot4) s = .next { s with
        time := max s.time (d - (4 - (taken.length + shots.length)) * 1000)
        meter := { s.meter with holder := some (.full p led false (taken ++ shots.map (shotEcho 100)), d) } })
  ∧ ∀ (s : State) (p : PortId) (d : Nat) (led : Bool) (u : Purpose) (joined : Word) (taken : List (Option Echo))
      (shot1 : Samples) (shot2 shot3 shot4 : Option Samples) (shots : List Samples) (r : FullResult) (j : Judgement),
      s.running → s.meter.holder = some (.full p led false taken, d) →
      shots = shot1 :: [shot2, shot3, shot4].filterMap id → taken.length + shots.length = 4 →
      s.breaks.queue = [{ port := p, purpose := u, joined := joined }] →
      r = combineShots (taken ++ shots.map (shotEcho 100)) s.meter.timebase (s.kinds.get (s.port p).feed.settings.cableKind).velocity →
      j = judge r (s.port p).cable.echoBase →
      (s.port p).tether.link = .quiet → s.meter.pendingCal = false → s.meter.livePlaces = Vector.replicate 8 false →
      s.meter.offered = none →
      ∃ t, exec (.fullMeasurementComplete shot1 shot2 shot3 shot4) s = .next t ∧ t.time = max s.time d ∧ t.meter.holder = none
        ∧ t.breaks.queue = [] ∧ (t.port p).cable.diag = .clear ∧ (t.port p).tether.link = .down
        ∧ (∀ q, q ≠ p → t.port q = s.port q)
        ∧ (u ≠ .learn →
            (∃ f, (t.port p).cable.latest = some f ∧ f ∈ t.breaks.findings ∧ f.kind = j.kind ∧ f.distance = j.distance
              ∧ f.polarity = j.polarity ∧ f.flags = j.flags ∧ f.source = .diagnosis)
            ∧ (t.port p).cable.echoBase = (s.port p).cable.echoBase
            ∧ (t.port p).feed.power =
                if (s.port p).feed.power ≠ .diagnosing then (s.port p).feed.power
                else if (j.kind = .openBreak ∨ j.kind = .short) ∧ j.flags.atEnd = false then .lockedOut
                else if (s.port p).feed.retry + 1 ≤ (s.port p).feed.settings.retryLimit then .backoff
                else .lockedOut)
        ∧ (u = .learn → (s.port p).feed.power ≠ .diagnosing →
            (t.port p).feed = (s.port p).feed
            ∧ (r.echo = none → (t.port p).cable.echoBase = (s.port p).cable.echoBase
                ∧ (t.port p).cable.resistanceBase = (s.port p).cable.resistanceBase)
            ∧ ∀ x dist far, r.echo = some (x, dist, far) →
                (t.port p).cable.resistanceBase = none
                ∧ (t.port p).cable.echoBase = some
                    { tEnd := x.t1, polarity := x.polarity, amplitude := x.amplitude, length := dist, overRange := far
                      uncalibrated := r.uncalibrated })

/-- A flex window that ends below the threshold is counted, cleared and begun anew. One that reaches it is counted over
the threshold as well and writes an INTERMITTENT finding, with the distance of its nearest echo, here with the reaction
REPORT (R162, R165). The discharge timer of the head offers its FULL measurement, here to a meter in use (R171). That an
expiry brings the time base to the timer's end is the model's choice (log entry 2). -/
def Obligations.FlexWindowsAndDischarges : Prop :=
  (∀ (s : State) (p : PortId) (d : Nat), s.running → (s.port p).cable.flexTimer = some d →
    (4 * (s.port p).cable.flex.lockLosses + (s.port p).cable.flex.crcBad < (s.port p).feed.settings.flexThreshold →
      exec (.flexWindowExpiry p) s = .next (({ s with time := max s.time d } : State).onCable p fun c =>
        { c with flex := {}, flexTimer := some (max s.time d + 1000000)
                 counters := { c.counters with judged := bump c.counters.judged } }))
    ∧ ((s.port p).feed.settings.flexThreshold ≤ 4 * (s.port p).cable.flex.lockLosses + (s.port p).cable.flex.crcBad →
        (s.port p).cable.reactions.get FaultKind.intermittent.index = .report →
      ∃ t f, exec (.flexWindowExpiry p) s = .next t ∧ (t.port p).cable.flex = {}
        ∧ (t.port p).cable.flexTimer = some (max s.time d + 1000000)
        ∧ (t.port p).cable.counters.overThreshold = bump (s.port p).cable.counters.overThreshold
        ∧ (t.port p).cable.latest = some f ∧ f ∈ t.breaks.findings ∧ f.kind = .intermittent ∧ f.source = .flex
        ∧ f.distance = (s.port p).cable.flex.nearest.map NearestEcho.distance
        ∧ f.polarity = (s.port p).cable.flex.nearest.map NearestEcho.polarity
        ∧ (t.port p).feed = (s.port p).feed ∧ ∀ q, q ≠ p → t.port q = s.port q))
  ∧ ∀ (s : State) (d : Nat) (x : DiagEntry) (rest : List DiagEntry), s.running → s.breaks.dischargeTimer = some d →
      s.breaks.queue = x :: rest → s.meter.holder ≠ none →
      exec .dischargeTimerExpiry s = .next
        { s.onCable x.port (fun c => { c with diag := .queued }) with
          time := max s.time d
          breaks := { s.breaks with dischargeTimer := none }
          meter := { s.meter with offered := some x.port } }

/-! ## Laws that every step keeps -/

/-- The notice queue stays within 32 notices (R184), the reply queue within its 8 entries, reserved and written (R182), and
the findings history within 32 (R176). -/
def Obligations.QueuesStayWithinTheirRoom : Prop :=
  ∀ s t : State, step s = .next t →
    (s.noticesFit → t.noticesFit) ∧ (s.repliesFit → t.repliesFit) ∧ (s.findingsFit → t.findingsFit)

/-- Every pending trigger queue holds at most four triggers, no two of one tag (R80), and every capture program stays in its
ranges with its cursor inside it (R79, R82, R83). -/
def Obligations.CaptureQueuesAndProgramsKeepTheirLaws : Prop :=
  ∀ s t : State, step s = .next t → (s.triggersFit → t.triggersFit) ∧ (s.programsFit → t.programsFit)

/-- Every setting of the hub stays in the range its rule gives (R48, R52, R73, R94, R153). -/
def Obligations.SettingsStayInTheirRanges : Prop :=
  ∀ s t : State, step s = .next t → s.settingsFit → t.settingsFit

/-- The hub after reset meets every law that its steps keep. -/
def Obligations.ResetMeetsTheLaws : Prop :=
  State.reset.noticesFit ∧ State.reset.repliesFit ∧ State.reset.findingsFit ∧ State.reset.triggersFit
    ∧ State.reset.programsFit ∧ State.reset.settingsFit

/-- Only a transaction, ENTER_RUN, ENTER_CONFIG, RESTART, a hard reset and the end of the self-check change the operating
state (R186 to R189), and while nRESET is asserted none does (R189). -/
def Obligations.FewCommandsChangeTheOperatingState : Prop :=
  ∀ (c : Instr) (s t : State), exec c s = .next t → t.link.opState ≠ s.link.opState →
    c = .hardReset
    ∨ s.nreset = false
      ∧ ((∃ h, c = .enterRun h ∨ c = .enterConfig h ∨ c = .restart h) ∨ (∃ sdi, c = .transactionEnd sdi)
        ∨ c = .selfCheckPass ∨ c = .selfCheckFailure)

end Statements
end

