-- ==== Sys2Proof/Laws/State.lean ====
section
/-! SUPPORT. What each update of the state leaves in each field: one lemma per field per update, true by rfl. Then the
columns of the ports after an update of one of them. -/

namespace Sys2Proof.Machine


/-! ### Ev.updPort -/

@[simp] theorem Ev.updPort_time (e : Ev) (p : PortId) (f : Port → Port) : (e.updPort p f).time = e.time := rfl
@[simp] theorem Ev.updPort_epoch (e : Ev) (p : PortId) (f : Port → Port) : (e.updPort p f).epoch = e.epoch := rfl
@[simp] theorem Ev.updPort_nreset (e : Ev) (p : PortId) (f : Port → Port) : (e.updPort p f).nreset = e.nreset := rfl
@[simp] theorem Ev.updPort_selfCheck (e : Ev) (p : PortId) (f : Port → Port) : (e.updPort p f).selfCheck = e.selfCheck := rfl
@[simp] theorem Ev.updPort_pool (e : Ev) (p : PortId) (f : Port → Port) : (e.updPort p f).pool = e.pool := rfl
@[simp] theorem Ev.updPort_router (e : Ev) (p : PortId) (f : Port → Port) : (e.updPort p f).router = e.router := rfl
@[simp] theorem Ev.updPort_output (e : Ev) (p : PortId) (f : Port → Port) : (e.updPort p f).output = e.output := rfl
@[simp] theorem Ev.updPort_relay (e : Ev) (p : PortId) (f : Port → Port) : (e.updPort p f).relay = e.relay := rfl
@[simp] theorem Ev.updPort_meter (e : Ev) (p : PortId) (f : Port → Port) : (e.updPort p f).meter = e.meter := rfl
@[simp] theorem Ev.updPort_kinds (e : Ev) (p : PortId) (f : Port → Port) : (e.updPort p f).kinds = e.kinds := rfl
@[simp] theorem Ev.updPort_breaks (e : Ev) (p : PortId) (f : Port → Port) : (e.updPort p f).breaks = e.breaks := rfl
@[simp] theorem Ev.updPort_link (e : Ev) (p : PortId) (f : Port → Port) : (e.updPort p f).link = e.link := rfl
@[simp] theorem Ev.updPort_pending (e : Ev) (p : PortId) (f : Port → Port) : (e.updPort p f).pending = e.pending := rfl
@[simp] theorem Ev.updPort_before (e : Ev) (p : PortId) (f : Port → Port) : (e.updPort p f).before = e.before := rfl
@[simp] theorem Ev.updPort_offers (e : Ev) (p : PortId) (f : Port → Port) : (e.updPort p f).offers = e.offers := rfl
@[simp] theorem Ev.updPort_poolOffers (e : Ev) (p : PortId) (f : Port → Port) : (e.updPort p f).poolOffers = e.poolOffers := rfl
@[simp] theorem Ev.updPort_todo (e : Ev) (p : PortId) (f : Port → Port) : (e.updPort p f).todo = e.todo := rfl

/-! ### Ev.updTether -/

@[simp] theorem Ev.updTether_time (e : Ev) (p : PortId) (f : Tether → Tether) : (e.updTether p f).time = e.time := rfl
@[simp] theorem Ev.updTether_epoch (e : Ev) (p : PortId) (f : Tether → Tether) : (e.updTether p f).epoch = e.epoch := rfl
@[simp] theorem Ev.updTether_nreset (e : Ev) (p : PortId) (f : Tether → Tether) : (e.updTether p f).nreset = e.nreset := rfl
@[simp] theorem Ev.updTether_selfCheck (e : Ev) (p : PortId) (f : Tether → Tether) : (e.updTether p f).selfCheck = e.selfCheck := rfl
@[simp] theorem Ev.updTether_pool (e : Ev) (p : PortId) (f : Tether → Tether) : (e.updTether p f).pool = e.pool := rfl
@[simp] theorem Ev.updTether_router (e : Ev) (p : PortId) (f : Tether → Tether) : (e.updTether p f).router = e.router := rfl
@[simp] theorem Ev.updTether_output (e : Ev) (p : PortId) (f : Tether → Tether) : (e.updTether p f).output = e.output := rfl
@[simp] theorem Ev.updTether_relay (e : Ev) (p : PortId) (f : Tether → Tether) : (e.updTether p f).relay = e.relay := rfl
@[simp] theorem Ev.updTether_meter (e : Ev) (p : PortId) (f : Tether → Tether) : (e.updTether p f).meter = e.meter := rfl
@[simp] theorem Ev.updTether_kinds (e : Ev) (p : PortId) (f : Tether → Tether) : (e.updTether p f).kinds = e.kinds := rfl
@[simp] theorem Ev.updTether_breaks (e : Ev) (p : PortId) (f : Tether → Tether) : (e.updTether p f).breaks = e.breaks := rfl
@[simp] theorem Ev.updTether_link (e : Ev) (p : PortId) (f : Tether → Tether) : (e.updTether p f).link = e.link := rfl
@[simp] theorem Ev.updTether_pending (e : Ev) (p : PortId) (f : Tether → Tether) : (e.updTether p f).pending = e.pending := rfl
@[simp] theorem Ev.updTether_before (e : Ev) (p : PortId) (f : Tether → Tether) : (e.updTether p f).before = e.before := rfl
@[simp] theorem Ev.updTether_offers (e : Ev) (p : PortId) (f : Tether → Tether) : (e.updTether p f).offers = e.offers := rfl
@[simp] theorem Ev.updTether_poolOffers (e : Ev) (p : PortId) (f : Tether → Tether) : (e.updTether p f).poolOffers = e.poolOffers := rfl
@[simp] theorem Ev.updTether_todo (e : Ev) (p : PortId) (f : Tether → Tether) : (e.updTether p f).todo = e.todo := rfl

/-! ### Ev.updFeed -/

@[simp] theorem Ev.updFeed_time (e : Ev) (p : PortId) (f : Feed → Feed) : (e.updFeed p f).time = e.time := rfl
@[simp] theorem Ev.updFeed_epoch (e : Ev) (p : PortId) (f : Feed → Feed) : (e.updFeed p f).epoch = e.epoch := rfl
@[simp] theorem Ev.updFeed_nreset (e : Ev) (p : PortId) (f : Feed → Feed) : (e.updFeed p f).nreset = e.nreset := rfl
@[simp] theorem Ev.updFeed_selfCheck (e : Ev) (p : PortId) (f : Feed → Feed) : (e.updFeed p f).selfCheck = e.selfCheck := rfl
@[simp] theorem Ev.updFeed_pool (e : Ev) (p : PortId) (f : Feed → Feed) : (e.updFeed p f).pool = e.pool := rfl
@[simp] theorem Ev.updFeed_router (e : Ev) (p : PortId) (f : Feed → Feed) : (e.updFeed p f).router = e.router := rfl
@[simp] theorem Ev.updFeed_output (e : Ev) (p : PortId) (f : Feed → Feed) : (e.updFeed p f).output = e.output := rfl
@[simp] theorem Ev.updFeed_relay (e : Ev) (p : PortId) (f : Feed → Feed) : (e.updFeed p f).relay = e.relay := rfl
@[simp] theorem Ev.updFeed_meter (e : Ev) (p : PortId) (f : Feed → Feed) : (e.updFeed p f).meter = e.meter := rfl
@[simp] theorem Ev.updFeed_kinds (e : Ev) (p : PortId) (f : Feed → Feed) : (e.updFeed p f).kinds = e.kinds := rfl
@[simp] theorem Ev.updFeed_breaks (e : Ev) (p : PortId) (f : Feed → Feed) : (e.updFeed p f).breaks = e.breaks := rfl
@[simp] theorem Ev.updFeed_link (e : Ev) (p : PortId) (f : Feed → Feed) : (e.updFeed p f).link = e.link := rfl
@[simp] theorem Ev.updFeed_pending (e : Ev) (p : PortId) (f : Feed → Feed) : (e.updFeed p f).pending = e.pending := rfl
@[simp] theorem Ev.updFeed_before (e : Ev) (p : PortId) (f : Feed → Feed) : (e.updFeed p f).before = e.before := rfl
@[simp] theorem Ev.updFeed_offers (e : Ev) (p : PortId) (f : Feed → Feed) : (e.updFeed p f).offers = e.offers := rfl
@[simp] theorem Ev.updFeed_poolOffers (e : Ev) (p : PortId) (f : Feed → Feed) : (e.updFeed p f).poolOffers = e.poolOffers := rfl
@[simp] theorem Ev.updFeed_todo (e : Ev) (p : PortId) (f : Feed → Feed) : (e.updFeed p f).todo = e.todo := rfl

/-! ### Ev.updFigures -/

@[simp] theorem Ev.updFigures_time (e : Ev) (p : PortId) (f : PoolPort → PoolPort) : (e.updFigures p f).time = e.time := rfl
@[simp] theorem Ev.updFigures_epoch (e : Ev) (p : PortId) (f : PoolPort → PoolPort) : (e.updFigures p f).epoch = e.epoch := rfl
@[simp] theorem Ev.updFigures_nreset (e : Ev) (p : PortId) (f : PoolPort → PoolPort) : (e.updFigures p f).nreset = e.nreset := rfl
@[simp] theorem Ev.updFigures_selfCheck (e : Ev) (p : PortId) (f : PoolPort → PoolPort) : (e.updFigures p f).selfCheck = e.selfCheck := rfl
@[simp] theorem Ev.updFigures_pool (e : Ev) (p : PortId) (f : PoolPort → PoolPort) : (e.updFigures p f).pool = e.pool := rfl
@[simp] theorem Ev.updFigures_router (e : Ev) (p : PortId) (f : PoolPort → PoolPort) : (e.updFigures p f).router = e.router := rfl
@[simp] theorem Ev.updFigures_output (e : Ev) (p : PortId) (f : PoolPort → PoolPort) : (e.updFigures p f).output = e.output := rfl
@[simp] theorem Ev.updFigures_relay (e : Ev) (p : PortId) (f : PoolPort → PoolPort) : (e.updFigures p f).relay = e.relay := rfl
@[simp] theorem Ev.updFigures_meter (e : Ev) (p : PortId) (f : PoolPort → PoolPort) : (e.updFigures p f).meter = e.meter := rfl
@[simp] theorem Ev.updFigures_kinds (e : Ev) (p : PortId) (f : PoolPort → PoolPort) : (e.updFigures p f).kinds = e.kinds := rfl
@[simp] theorem Ev.updFigures_breaks (e : Ev) (p : PortId) (f : PoolPort → PoolPort) : (e.updFigures p f).breaks = e.breaks := rfl
@[simp] theorem Ev.updFigures_link (e : Ev) (p : PortId) (f : PoolPort → PoolPort) : (e.updFigures p f).link = e.link := rfl
@[simp] theorem Ev.updFigures_pending (e : Ev) (p : PortId) (f : PoolPort → PoolPort) : (e.updFigures p f).pending = e.pending := rfl
@[simp] theorem Ev.updFigures_before (e : Ev) (p : PortId) (f : PoolPort → PoolPort) : (e.updFigures p f).before = e.before := rfl
@[simp] theorem Ev.updFigures_offers (e : Ev) (p : PortId) (f : PoolPort → PoolPort) : (e.updFigures p f).offers = e.offers := rfl
@[simp] theorem Ev.updFigures_poolOffers (e : Ev) (p : PortId) (f : PoolPort → PoolPort) : (e.updFigures p f).poolOffers = e.poolOffers := rfl
@[simp] theorem Ev.updFigures_todo (e : Ev) (p : PortId) (f : PoolPort → PoolPort) : (e.updFigures p f).todo = e.todo := rfl

/-! ### Ev.updCapture -/

@[simp] theorem Ev.updCapture_time (e : Ev) (p : PortId) (f : Capture → Capture) : (e.updCapture p f).time = e.time := rfl
@[simp] theorem Ev.updCapture_epoch (e : Ev) (p : PortId) (f : Capture → Capture) : (e.updCapture p f).epoch = e.epoch := rfl
@[simp] theorem Ev.updCapture_nreset (e : Ev) (p : PortId) (f : Capture → Capture) : (e.updCapture p f).nreset = e.nreset := rfl
@[simp] theorem Ev.updCapture_selfCheck (e : Ev) (p : PortId) (f : Capture → Capture) : (e.updCapture p f).selfCheck = e.selfCheck := rfl
@[simp] theorem Ev.updCapture_pool (e : Ev) (p : PortId) (f : Capture → Capture) : (e.updCapture p f).pool = e.pool := rfl
@[simp] theorem Ev.updCapture_router (e : Ev) (p : PortId) (f : Capture → Capture) : (e.updCapture p f).router = e.router := rfl
@[simp] theorem Ev.updCapture_output (e : Ev) (p : PortId) (f : Capture → Capture) : (e.updCapture p f).output = e.output := rfl
@[simp] theorem Ev.updCapture_relay (e : Ev) (p : PortId) (f : Capture → Capture) : (e.updCapture p f).relay = e.relay := rfl
@[simp] theorem Ev.updCapture_meter (e : Ev) (p : PortId) (f : Capture → Capture) : (e.updCapture p f).meter = e.meter := rfl
@[simp] theorem Ev.updCapture_kinds (e : Ev) (p : PortId) (f : Capture → Capture) : (e.updCapture p f).kinds = e.kinds := rfl
@[simp] theorem Ev.updCapture_breaks (e : Ev) (p : PortId) (f : Capture → Capture) : (e.updCapture p f).breaks = e.breaks := rfl
@[simp] theorem Ev.updCapture_link (e : Ev) (p : PortId) (f : Capture → Capture) : (e.updCapture p f).link = e.link := rfl
@[simp] theorem Ev.updCapture_pending (e : Ev) (p : PortId) (f : Capture → Capture) : (e.updCapture p f).pending = e.pending := rfl
@[simp] theorem Ev.updCapture_before (e : Ev) (p : PortId) (f : Capture → Capture) : (e.updCapture p f).before = e.before := rfl
@[simp] theorem Ev.updCapture_offers (e : Ev) (p : PortId) (f : Capture → Capture) : (e.updCapture p f).offers = e.offers := rfl
@[simp] theorem Ev.updCapture_poolOffers (e : Ev) (p : PortId) (f : Capture → Capture) : (e.updCapture p f).poolOffers = e.poolOffers := rfl
@[simp] theorem Ev.updCapture_todo (e : Ev) (p : PortId) (f : Capture → Capture) : (e.updCapture p f).todo = e.todo := rfl

/-! ### Ev.updLens -/

@[simp] theorem Ev.updLens_time (e : Ev) (p : PortId) (f : Lens → Lens) : (e.updLens p f).time = e.time := rfl
@[simp] theorem Ev.updLens_epoch (e : Ev) (p : PortId) (f : Lens → Lens) : (e.updLens p f).epoch = e.epoch := rfl
@[simp] theorem Ev.updLens_nreset (e : Ev) (p : PortId) (f : Lens → Lens) : (e.updLens p f).nreset = e.nreset := rfl
@[simp] theorem Ev.updLens_selfCheck (e : Ev) (p : PortId) (f : Lens → Lens) : (e.updLens p f).selfCheck = e.selfCheck := rfl
@[simp] theorem Ev.updLens_pool (e : Ev) (p : PortId) (f : Lens → Lens) : (e.updLens p f).pool = e.pool := rfl
@[simp] theorem Ev.updLens_router (e : Ev) (p : PortId) (f : Lens → Lens) : (e.updLens p f).router = e.router := rfl
@[simp] theorem Ev.updLens_output (e : Ev) (p : PortId) (f : Lens → Lens) : (e.updLens p f).output = e.output := rfl
@[simp] theorem Ev.updLens_relay (e : Ev) (p : PortId) (f : Lens → Lens) : (e.updLens p f).relay = e.relay := rfl
@[simp] theorem Ev.updLens_meter (e : Ev) (p : PortId) (f : Lens → Lens) : (e.updLens p f).meter = e.meter := rfl
@[simp] theorem Ev.updLens_kinds (e : Ev) (p : PortId) (f : Lens → Lens) : (e.updLens p f).kinds = e.kinds := rfl
@[simp] theorem Ev.updLens_breaks (e : Ev) (p : PortId) (f : Lens → Lens) : (e.updLens p f).breaks = e.breaks := rfl
@[simp] theorem Ev.updLens_link (e : Ev) (p : PortId) (f : Lens → Lens) : (e.updLens p f).link = e.link := rfl
@[simp] theorem Ev.updLens_pending (e : Ev) (p : PortId) (f : Lens → Lens) : (e.updLens p f).pending = e.pending := rfl
@[simp] theorem Ev.updLens_before (e : Ev) (p : PortId) (f : Lens → Lens) : (e.updLens p f).before = e.before := rfl
@[simp] theorem Ev.updLens_offers (e : Ev) (p : PortId) (f : Lens → Lens) : (e.updLens p f).offers = e.offers := rfl
@[simp] theorem Ev.updLens_poolOffers (e : Ev) (p : PortId) (f : Lens → Lens) : (e.updLens p f).poolOffers = e.poolOffers := rfl
@[simp] theorem Ev.updLens_todo (e : Ev) (p : PortId) (f : Lens → Lens) : (e.updLens p f).todo = e.todo := rfl

/-! ### Ev.updIngress -/

@[simp] theorem Ev.updIngress_time (e : Ev) (p : PortId) (f : Ingress → Ingress) : (e.updIngress p f).time = e.time := rfl
@[simp] theorem Ev.updIngress_epoch (e : Ev) (p : PortId) (f : Ingress → Ingress) : (e.updIngress p f).epoch = e.epoch := rfl
@[simp] theorem Ev.updIngress_nreset (e : Ev) (p : PortId) (f : Ingress → Ingress) : (e.updIngress p f).nreset = e.nreset := rfl
@[simp] theorem Ev.updIngress_selfCheck (e : Ev) (p : PortId) (f : Ingress → Ingress) : (e.updIngress p f).selfCheck = e.selfCheck := rfl
@[simp] theorem Ev.updIngress_pool (e : Ev) (p : PortId) (f : Ingress → Ingress) : (e.updIngress p f).pool = e.pool := rfl
@[simp] theorem Ev.updIngress_router (e : Ev) (p : PortId) (f : Ingress → Ingress) : (e.updIngress p f).router = e.router := rfl
@[simp] theorem Ev.updIngress_output (e : Ev) (p : PortId) (f : Ingress → Ingress) : (e.updIngress p f).output = e.output := rfl
@[simp] theorem Ev.updIngress_relay (e : Ev) (p : PortId) (f : Ingress → Ingress) : (e.updIngress p f).relay = e.relay := rfl
@[simp] theorem Ev.updIngress_meter (e : Ev) (p : PortId) (f : Ingress → Ingress) : (e.updIngress p f).meter = e.meter := rfl
@[simp] theorem Ev.updIngress_kinds (e : Ev) (p : PortId) (f : Ingress → Ingress) : (e.updIngress p f).kinds = e.kinds := rfl
@[simp] theorem Ev.updIngress_breaks (e : Ev) (p : PortId) (f : Ingress → Ingress) : (e.updIngress p f).breaks = e.breaks := rfl
@[simp] theorem Ev.updIngress_link (e : Ev) (p : PortId) (f : Ingress → Ingress) : (e.updIngress p f).link = e.link := rfl
@[simp] theorem Ev.updIngress_pending (e : Ev) (p : PortId) (f : Ingress → Ingress) : (e.updIngress p f).pending = e.pending := rfl
@[simp] theorem Ev.updIngress_before (e : Ev) (p : PortId) (f : Ingress → Ingress) : (e.updIngress p f).before = e.before := rfl
@[simp] theorem Ev.updIngress_offers (e : Ev) (p : PortId) (f : Ingress → Ingress) : (e.updIngress p f).offers = e.offers := rfl
@[simp] theorem Ev.updIngress_poolOffers (e : Ev) (p : PortId) (f : Ingress → Ingress) : (e.updIngress p f).poolOffers = e.poolOffers := rfl
@[simp] theorem Ev.updIngress_todo (e : Ev) (p : PortId) (f : Ingress → Ingress) : (e.updIngress p f).todo = e.todo := rfl

/-! ### Ev.updRelay -/

@[simp] theorem Ev.updRelay_time (e : Ev) (p : PortId) (f : RelayCounters → RelayCounters) : (e.updRelay p f).time = e.time := rfl
@[simp] theorem Ev.updRelay_epoch (e : Ev) (p : PortId) (f : RelayCounters → RelayCounters) : (e.updRelay p f).epoch = e.epoch := rfl
@[simp] theorem Ev.updRelay_nreset (e : Ev) (p : PortId) (f : RelayCounters → RelayCounters) : (e.updRelay p f).nreset = e.nreset := rfl
@[simp] theorem Ev.updRelay_selfCheck (e : Ev) (p : PortId) (f : RelayCounters → RelayCounters) : (e.updRelay p f).selfCheck = e.selfCheck := rfl
@[simp] theorem Ev.updRelay_pool (e : Ev) (p : PortId) (f : RelayCounters → RelayCounters) : (e.updRelay p f).pool = e.pool := rfl
@[simp] theorem Ev.updRelay_router (e : Ev) (p : PortId) (f : RelayCounters → RelayCounters) : (e.updRelay p f).router = e.router := rfl
@[simp] theorem Ev.updRelay_output (e : Ev) (p : PortId) (f : RelayCounters → RelayCounters) : (e.updRelay p f).output = e.output := rfl
@[simp] theorem Ev.updRelay_relay (e : Ev) (p : PortId) (f : RelayCounters → RelayCounters) : (e.updRelay p f).relay = e.relay := rfl
@[simp] theorem Ev.updRelay_meter (e : Ev) (p : PortId) (f : RelayCounters → RelayCounters) : (e.updRelay p f).meter = e.meter := rfl
@[simp] theorem Ev.updRelay_kinds (e : Ev) (p : PortId) (f : RelayCounters → RelayCounters) : (e.updRelay p f).kinds = e.kinds := rfl
@[simp] theorem Ev.updRelay_breaks (e : Ev) (p : PortId) (f : RelayCounters → RelayCounters) : (e.updRelay p f).breaks = e.breaks := rfl
@[simp] theorem Ev.updRelay_link (e : Ev) (p : PortId) (f : RelayCounters → RelayCounters) : (e.updRelay p f).link = e.link := rfl
@[simp] theorem Ev.updRelay_pending (e : Ev) (p : PortId) (f : RelayCounters → RelayCounters) : (e.updRelay p f).pending = e.pending := rfl
@[simp] theorem Ev.updRelay_before (e : Ev) (p : PortId) (f : RelayCounters → RelayCounters) : (e.updRelay p f).before = e.before := rfl
@[simp] theorem Ev.updRelay_offers (e : Ev) (p : PortId) (f : RelayCounters → RelayCounters) : (e.updRelay p f).offers = e.offers := rfl
@[simp] theorem Ev.updRelay_poolOffers (e : Ev) (p : PortId) (f : RelayCounters → RelayCounters) : (e.updRelay p f).poolOffers = e.poolOffers := rfl
@[simp] theorem Ev.updRelay_todo (e : Ev) (p : PortId) (f : RelayCounters → RelayCounters) : (e.updRelay p f).todo = e.todo := rfl

/-! ### Ev.updCable -/

@[simp] theorem Ev.updCable_time (e : Ev) (p : PortId) (f : Cable → Cable) : (e.updCable p f).time = e.time := rfl
@[simp] theorem Ev.updCable_epoch (e : Ev) (p : PortId) (f : Cable → Cable) : (e.updCable p f).epoch = e.epoch := rfl
@[simp] theorem Ev.updCable_nreset (e : Ev) (p : PortId) (f : Cable → Cable) : (e.updCable p f).nreset = e.nreset := rfl
@[simp] theorem Ev.updCable_selfCheck (e : Ev) (p : PortId) (f : Cable → Cable) : (e.updCable p f).selfCheck = e.selfCheck := rfl
@[simp] theorem Ev.updCable_pool (e : Ev) (p : PortId) (f : Cable → Cable) : (e.updCable p f).pool = e.pool := rfl
@[simp] theorem Ev.updCable_router (e : Ev) (p : PortId) (f : Cable → Cable) : (e.updCable p f).router = e.router := rfl
@[simp] theorem Ev.updCable_output (e : Ev) (p : PortId) (f : Cable → Cable) : (e.updCable p f).output = e.output := rfl
@[simp] theorem Ev.updCable_relay (e : Ev) (p : PortId) (f : Cable → Cable) : (e.updCable p f).relay = e.relay := rfl
@[simp] theorem Ev.updCable_meter (e : Ev) (p : PortId) (f : Cable → Cable) : (e.updCable p f).meter = e.meter := rfl
@[simp] theorem Ev.updCable_kinds (e : Ev) (p : PortId) (f : Cable → Cable) : (e.updCable p f).kinds = e.kinds := rfl
@[simp] theorem Ev.updCable_breaks (e : Ev) (p : PortId) (f : Cable → Cable) : (e.updCable p f).breaks = e.breaks := rfl
@[simp] theorem Ev.updCable_link (e : Ev) (p : PortId) (f : Cable → Cable) : (e.updCable p f).link = e.link := rfl
@[simp] theorem Ev.updCable_pending (e : Ev) (p : PortId) (f : Cable → Cable) : (e.updCable p f).pending = e.pending := rfl
@[simp] theorem Ev.updCable_before (e : Ev) (p : PortId) (f : Cable → Cable) : (e.updCable p f).before = e.before := rfl
@[simp] theorem Ev.updCable_offers (e : Ev) (p : PortId) (f : Cable → Cable) : (e.updCable p f).offers = e.offers := rfl
@[simp] theorem Ev.updCable_poolOffers (e : Ev) (p : PortId) (f : Cable → Cable) : (e.updCable p f).poolOffers = e.poolOffers := rfl
@[simp] theorem Ev.updCable_todo (e : Ev) (p : PortId) (f : Cable → Cable) : (e.updCable p f).todo = e.todo := rfl

/-! ### Ev.countTether -/

@[simp] theorem Ev.countTether_time (e : Ev) (p : PortId) (f : TetherCounters → TetherCounters) : (e.countTether p f).time = e.time := rfl
@[simp] theorem Ev.countTether_epoch (e : Ev) (p : PortId) (f : TetherCounters → TetherCounters) : (e.countTether p f).epoch = e.epoch := rfl
@[simp] theorem Ev.countTether_nreset (e : Ev) (p : PortId) (f : TetherCounters → TetherCounters) : (e.countTether p f).nreset = e.nreset := rfl
@[simp] theorem Ev.countTether_selfCheck (e : Ev) (p : PortId) (f : TetherCounters → TetherCounters) : (e.countTether p f).selfCheck = e.selfCheck := rfl
@[simp] theorem Ev.countTether_pool (e : Ev) (p : PortId) (f : TetherCounters → TetherCounters) : (e.countTether p f).pool = e.pool := rfl
@[simp] theorem Ev.countTether_router (e : Ev) (p : PortId) (f : TetherCounters → TetherCounters) : (e.countTether p f).router = e.router := rfl
@[simp] theorem Ev.countTether_output (e : Ev) (p : PortId) (f : TetherCounters → TetherCounters) : (e.countTether p f).output = e.output := rfl
@[simp] theorem Ev.countTether_relay (e : Ev) (p : PortId) (f : TetherCounters → TetherCounters) : (e.countTether p f).relay = e.relay := rfl
@[simp] theorem Ev.countTether_meter (e : Ev) (p : PortId) (f : TetherCounters → TetherCounters) : (e.countTether p f).meter = e.meter := rfl
@[simp] theorem Ev.countTether_kinds (e : Ev) (p : PortId) (f : TetherCounters → TetherCounters) : (e.countTether p f).kinds = e.kinds := rfl
@[simp] theorem Ev.countTether_breaks (e : Ev) (p : PortId) (f : TetherCounters → TetherCounters) : (e.countTether p f).breaks = e.breaks := rfl
@[simp] theorem Ev.countTether_link (e : Ev) (p : PortId) (f : TetherCounters → TetherCounters) : (e.countTether p f).link = e.link := rfl
@[simp] theorem Ev.countTether_pending (e : Ev) (p : PortId) (f : TetherCounters → TetherCounters) : (e.countTether p f).pending = e.pending := rfl
@[simp] theorem Ev.countTether_before (e : Ev) (p : PortId) (f : TetherCounters → TetherCounters) : (e.countTether p f).before = e.before := rfl
@[simp] theorem Ev.countTether_offers (e : Ev) (p : PortId) (f : TetherCounters → TetherCounters) : (e.countTether p f).offers = e.offers := rfl
@[simp] theorem Ev.countTether_poolOffers (e : Ev) (p : PortId) (f : TetherCounters → TetherCounters) : (e.countTether p f).poolOffers = e.poolOffers := rfl
@[simp] theorem Ev.countTether_todo (e : Ev) (p : PortId) (f : TetherCounters → TetherCounters) : (e.countTether p f).todo = e.todo := rfl

/-! ### Ev.countFeed -/

@[simp] theorem Ev.countFeed_time (e : Ev) (p : PortId) (f : FeedCounters → FeedCounters) : (e.countFeed p f).time = e.time := rfl
@[simp] theorem Ev.countFeed_epoch (e : Ev) (p : PortId) (f : FeedCounters → FeedCounters) : (e.countFeed p f).epoch = e.epoch := rfl
@[simp] theorem Ev.countFeed_nreset (e : Ev) (p : PortId) (f : FeedCounters → FeedCounters) : (e.countFeed p f).nreset = e.nreset := rfl
@[simp] theorem Ev.countFeed_selfCheck (e : Ev) (p : PortId) (f : FeedCounters → FeedCounters) : (e.countFeed p f).selfCheck = e.selfCheck := rfl
@[simp] theorem Ev.countFeed_pool (e : Ev) (p : PortId) (f : FeedCounters → FeedCounters) : (e.countFeed p f).pool = e.pool := rfl
@[simp] theorem Ev.countFeed_router (e : Ev) (p : PortId) (f : FeedCounters → FeedCounters) : (e.countFeed p f).router = e.router := rfl
@[simp] theorem Ev.countFeed_output (e : Ev) (p : PortId) (f : FeedCounters → FeedCounters) : (e.countFeed p f).output = e.output := rfl
@[simp] theorem Ev.countFeed_relay (e : Ev) (p : PortId) (f : FeedCounters → FeedCounters) : (e.countFeed p f).relay = e.relay := rfl
@[simp] theorem Ev.countFeed_meter (e : Ev) (p : PortId) (f : FeedCounters → FeedCounters) : (e.countFeed p f).meter = e.meter := rfl
@[simp] theorem Ev.countFeed_kinds (e : Ev) (p : PortId) (f : FeedCounters → FeedCounters) : (e.countFeed p f).kinds = e.kinds := rfl
@[simp] theorem Ev.countFeed_breaks (e : Ev) (p : PortId) (f : FeedCounters → FeedCounters) : (e.countFeed p f).breaks = e.breaks := rfl
@[simp] theorem Ev.countFeed_link (e : Ev) (p : PortId) (f : FeedCounters → FeedCounters) : (e.countFeed p f).link = e.link := rfl
@[simp] theorem Ev.countFeed_pending (e : Ev) (p : PortId) (f : FeedCounters → FeedCounters) : (e.countFeed p f).pending = e.pending := rfl
@[simp] theorem Ev.countFeed_before (e : Ev) (p : PortId) (f : FeedCounters → FeedCounters) : (e.countFeed p f).before = e.before := rfl
@[simp] theorem Ev.countFeed_offers (e : Ev) (p : PortId) (f : FeedCounters → FeedCounters) : (e.countFeed p f).offers = e.offers := rfl
@[simp] theorem Ev.countFeed_poolOffers (e : Ev) (p : PortId) (f : FeedCounters → FeedCounters) : (e.countFeed p f).poolOffers = e.poolOffers := rfl
@[simp] theorem Ev.countFeed_todo (e : Ev) (p : PortId) (f : FeedCounters → FeedCounters) : (e.countFeed p f).todo = e.todo := rfl

/-! ### Ev.countCapture -/

@[simp] theorem Ev.countCapture_time (e : Ev) (p : PortId) (f : CaptureCounters → CaptureCounters) : (e.countCapture p f).time = e.time := rfl
@[simp] theorem Ev.countCapture_epoch (e : Ev) (p : PortId) (f : CaptureCounters → CaptureCounters) : (e.countCapture p f).epoch = e.epoch := rfl
@[simp] theorem Ev.countCapture_nreset (e : Ev) (p : PortId) (f : CaptureCounters → CaptureCounters) : (e.countCapture p f).nreset = e.nreset := rfl
@[simp] theorem Ev.countCapture_selfCheck (e : Ev) (p : PortId) (f : CaptureCounters → CaptureCounters) : (e.countCapture p f).selfCheck = e.selfCheck := rfl
@[simp] theorem Ev.countCapture_pool (e : Ev) (p : PortId) (f : CaptureCounters → CaptureCounters) : (e.countCapture p f).pool = e.pool := rfl
@[simp] theorem Ev.countCapture_router (e : Ev) (p : PortId) (f : CaptureCounters → CaptureCounters) : (e.countCapture p f).router = e.router := rfl
@[simp] theorem Ev.countCapture_output (e : Ev) (p : PortId) (f : CaptureCounters → CaptureCounters) : (e.countCapture p f).output = e.output := rfl
@[simp] theorem Ev.countCapture_relay (e : Ev) (p : PortId) (f : CaptureCounters → CaptureCounters) : (e.countCapture p f).relay = e.relay := rfl
@[simp] theorem Ev.countCapture_meter (e : Ev) (p : PortId) (f : CaptureCounters → CaptureCounters) : (e.countCapture p f).meter = e.meter := rfl
@[simp] theorem Ev.countCapture_kinds (e : Ev) (p : PortId) (f : CaptureCounters → CaptureCounters) : (e.countCapture p f).kinds = e.kinds := rfl
@[simp] theorem Ev.countCapture_breaks (e : Ev) (p : PortId) (f : CaptureCounters → CaptureCounters) : (e.countCapture p f).breaks = e.breaks := rfl
@[simp] theorem Ev.countCapture_link (e : Ev) (p : PortId) (f : CaptureCounters → CaptureCounters) : (e.countCapture p f).link = e.link := rfl
@[simp] theorem Ev.countCapture_pending (e : Ev) (p : PortId) (f : CaptureCounters → CaptureCounters) : (e.countCapture p f).pending = e.pending := rfl
@[simp] theorem Ev.countCapture_before (e : Ev) (p : PortId) (f : CaptureCounters → CaptureCounters) : (e.countCapture p f).before = e.before := rfl
@[simp] theorem Ev.countCapture_offers (e : Ev) (p : PortId) (f : CaptureCounters → CaptureCounters) : (e.countCapture p f).offers = e.offers := rfl
@[simp] theorem Ev.countCapture_poolOffers (e : Ev) (p : PortId) (f : CaptureCounters → CaptureCounters) : (e.countCapture p f).poolOffers = e.poolOffers := rfl
@[simp] theorem Ev.countCapture_todo (e : Ev) (p : PortId) (f : CaptureCounters → CaptureCounters) : (e.countCapture p f).todo = e.todo := rfl

/-! ### Ev.countLens -/

@[simp] theorem Ev.countLens_time (e : Ev) (p : PortId) (f : LensCounters → LensCounters) : (e.countLens p f).time = e.time := rfl
@[simp] theorem Ev.countLens_epoch (e : Ev) (p : PortId) (f : LensCounters → LensCounters) : (e.countLens p f).epoch = e.epoch := rfl
@[simp] theorem Ev.countLens_nreset (e : Ev) (p : PortId) (f : LensCounters → LensCounters) : (e.countLens p f).nreset = e.nreset := rfl
@[simp] theorem Ev.countLens_selfCheck (e : Ev) (p : PortId) (f : LensCounters → LensCounters) : (e.countLens p f).selfCheck = e.selfCheck := rfl
@[simp] theorem Ev.countLens_pool (e : Ev) (p : PortId) (f : LensCounters → LensCounters) : (e.countLens p f).pool = e.pool := rfl
@[simp] theorem Ev.countLens_router (e : Ev) (p : PortId) (f : LensCounters → LensCounters) : (e.countLens p f).router = e.router := rfl
@[simp] theorem Ev.countLens_output (e : Ev) (p : PortId) (f : LensCounters → LensCounters) : (e.countLens p f).output = e.output := rfl
@[simp] theorem Ev.countLens_relay (e : Ev) (p : PortId) (f : LensCounters → LensCounters) : (e.countLens p f).relay = e.relay := rfl
@[simp] theorem Ev.countLens_meter (e : Ev) (p : PortId) (f : LensCounters → LensCounters) : (e.countLens p f).meter = e.meter := rfl
@[simp] theorem Ev.countLens_kinds (e : Ev) (p : PortId) (f : LensCounters → LensCounters) : (e.countLens p f).kinds = e.kinds := rfl
@[simp] theorem Ev.countLens_breaks (e : Ev) (p : PortId) (f : LensCounters → LensCounters) : (e.countLens p f).breaks = e.breaks := rfl
@[simp] theorem Ev.countLens_link (e : Ev) (p : PortId) (f : LensCounters → LensCounters) : (e.countLens p f).link = e.link := rfl
@[simp] theorem Ev.countLens_pending (e : Ev) (p : PortId) (f : LensCounters → LensCounters) : (e.countLens p f).pending = e.pending := rfl
@[simp] theorem Ev.countLens_before (e : Ev) (p : PortId) (f : LensCounters → LensCounters) : (e.countLens p f).before = e.before := rfl
@[simp] theorem Ev.countLens_offers (e : Ev) (p : PortId) (f : LensCounters → LensCounters) : (e.countLens p f).offers = e.offers := rfl
@[simp] theorem Ev.countLens_poolOffers (e : Ev) (p : PortId) (f : LensCounters → LensCounters) : (e.countLens p f).poolOffers = e.poolOffers := rfl
@[simp] theorem Ev.countLens_todo (e : Ev) (p : PortId) (f : LensCounters → LensCounters) : (e.countLens p f).todo = e.todo := rfl

/-! ### Ev.countIngress -/

@[simp] theorem Ev.countIngress_time (e : Ev) (p : PortId) (f : IngressCounters → IngressCounters) : (e.countIngress p f).time = e.time := rfl
@[simp] theorem Ev.countIngress_epoch (e : Ev) (p : PortId) (f : IngressCounters → IngressCounters) : (e.countIngress p f).epoch = e.epoch := rfl
@[simp] theorem Ev.countIngress_nreset (e : Ev) (p : PortId) (f : IngressCounters → IngressCounters) : (e.countIngress p f).nreset = e.nreset := rfl
@[simp] theorem Ev.countIngress_selfCheck (e : Ev) (p : PortId) (f : IngressCounters → IngressCounters) : (e.countIngress p f).selfCheck = e.selfCheck := rfl
@[simp] theorem Ev.countIngress_pool (e : Ev) (p : PortId) (f : IngressCounters → IngressCounters) : (e.countIngress p f).pool = e.pool := rfl
@[simp] theorem Ev.countIngress_router (e : Ev) (p : PortId) (f : IngressCounters → IngressCounters) : (e.countIngress p f).router = e.router := rfl
@[simp] theorem Ev.countIngress_output (e : Ev) (p : PortId) (f : IngressCounters → IngressCounters) : (e.countIngress p f).output = e.output := rfl
@[simp] theorem Ev.countIngress_relay (e : Ev) (p : PortId) (f : IngressCounters → IngressCounters) : (e.countIngress p f).relay = e.relay := rfl
@[simp] theorem Ev.countIngress_meter (e : Ev) (p : PortId) (f : IngressCounters → IngressCounters) : (e.countIngress p f).meter = e.meter := rfl
@[simp] theorem Ev.countIngress_kinds (e : Ev) (p : PortId) (f : IngressCounters → IngressCounters) : (e.countIngress p f).kinds = e.kinds := rfl
@[simp] theorem Ev.countIngress_breaks (e : Ev) (p : PortId) (f : IngressCounters → IngressCounters) : (e.countIngress p f).breaks = e.breaks := rfl
@[simp] theorem Ev.countIngress_link (e : Ev) (p : PortId) (f : IngressCounters → IngressCounters) : (e.countIngress p f).link = e.link := rfl
@[simp] theorem Ev.countIngress_pending (e : Ev) (p : PortId) (f : IngressCounters → IngressCounters) : (e.countIngress p f).pending = e.pending := rfl
@[simp] theorem Ev.countIngress_before (e : Ev) (p : PortId) (f : IngressCounters → IngressCounters) : (e.countIngress p f).before = e.before := rfl
@[simp] theorem Ev.countIngress_offers (e : Ev) (p : PortId) (f : IngressCounters → IngressCounters) : (e.countIngress p f).offers = e.offers := rfl
@[simp] theorem Ev.countIngress_poolOffers (e : Ev) (p : PortId) (f : IngressCounters → IngressCounters) : (e.countIngress p f).poolOffers = e.poolOffers := rfl
@[simp] theorem Ev.countIngress_todo (e : Ev) (p : PortId) (f : IngressCounters → IngressCounters) : (e.countIngress p f).todo = e.todo := rfl

/-! ### Ev.countCable -/

@[simp] theorem Ev.countCable_time (e : Ev) (p : PortId) (f : BreakCounters → BreakCounters) : (e.countCable p f).time = e.time := rfl
@[simp] theorem Ev.countCable_epoch (e : Ev) (p : PortId) (f : BreakCounters → BreakCounters) : (e.countCable p f).epoch = e.epoch := rfl
@[simp] theorem Ev.countCable_nreset (e : Ev) (p : PortId) (f : BreakCounters → BreakCounters) : (e.countCable p f).nreset = e.nreset := rfl
@[simp] theorem Ev.countCable_selfCheck (e : Ev) (p : PortId) (f : BreakCounters → BreakCounters) : (e.countCable p f).selfCheck = e.selfCheck := rfl
@[simp] theorem Ev.countCable_pool (e : Ev) (p : PortId) (f : BreakCounters → BreakCounters) : (e.countCable p f).pool = e.pool := rfl
@[simp] theorem Ev.countCable_router (e : Ev) (p : PortId) (f : BreakCounters → BreakCounters) : (e.countCable p f).router = e.router := rfl
@[simp] theorem Ev.countCable_output (e : Ev) (p : PortId) (f : BreakCounters → BreakCounters) : (e.countCable p f).output = e.output := rfl
@[simp] theorem Ev.countCable_relay (e : Ev) (p : PortId) (f : BreakCounters → BreakCounters) : (e.countCable p f).relay = e.relay := rfl
@[simp] theorem Ev.countCable_meter (e : Ev) (p : PortId) (f : BreakCounters → BreakCounters) : (e.countCable p f).meter = e.meter := rfl
@[simp] theorem Ev.countCable_kinds (e : Ev) (p : PortId) (f : BreakCounters → BreakCounters) : (e.countCable p f).kinds = e.kinds := rfl
@[simp] theorem Ev.countCable_breaks (e : Ev) (p : PortId) (f : BreakCounters → BreakCounters) : (e.countCable p f).breaks = e.breaks := rfl
@[simp] theorem Ev.countCable_link (e : Ev) (p : PortId) (f : BreakCounters → BreakCounters) : (e.countCable p f).link = e.link := rfl
@[simp] theorem Ev.countCable_pending (e : Ev) (p : PortId) (f : BreakCounters → BreakCounters) : (e.countCable p f).pending = e.pending := rfl
@[simp] theorem Ev.countCable_before (e : Ev) (p : PortId) (f : BreakCounters → BreakCounters) : (e.countCable p f).before = e.before := rfl
@[simp] theorem Ev.countCable_offers (e : Ev) (p : PortId) (f : BreakCounters → BreakCounters) : (e.countCable p f).offers = e.offers := rfl
@[simp] theorem Ev.countCable_poolOffers (e : Ev) (p : PortId) (f : BreakCounters → BreakCounters) : (e.countCable p f).poolOffers = e.poolOffers := rfl
@[simp] theorem Ev.countCable_todo (e : Ev) (p : PortId) (f : BreakCounters → BreakCounters) : (e.countCable p f).todo = e.todo := rfl

/-! ### Ev.updPool -/

@[simp] theorem Ev.updPool_time (e : Ev) (f : Pool → Pool) : (e.updPool f).time = e.time := rfl
@[simp] theorem Ev.updPool_epoch (e : Ev) (f : Pool → Pool) : (e.updPool f).epoch = e.epoch := rfl
@[simp] theorem Ev.updPool_nreset (e : Ev) (f : Pool → Pool) : (e.updPool f).nreset = e.nreset := rfl
@[simp] theorem Ev.updPool_selfCheck (e : Ev) (f : Pool → Pool) : (e.updPool f).selfCheck = e.selfCheck := rfl
@[simp] theorem Ev.updPool_ports (e : Ev) (f : Pool → Pool) : (e.updPool f).ports = e.ports := rfl
@[simp] theorem Ev.updPool_router (e : Ev) (f : Pool → Pool) : (e.updPool f).router = e.router := rfl
@[simp] theorem Ev.updPool_output (e : Ev) (f : Pool → Pool) : (e.updPool f).output = e.output := rfl
@[simp] theorem Ev.updPool_relay (e : Ev) (f : Pool → Pool) : (e.updPool f).relay = e.relay := rfl
@[simp] theorem Ev.updPool_meter (e : Ev) (f : Pool → Pool) : (e.updPool f).meter = e.meter := rfl
@[simp] theorem Ev.updPool_kinds (e : Ev) (f : Pool → Pool) : (e.updPool f).kinds = e.kinds := rfl
@[simp] theorem Ev.updPool_breaks (e : Ev) (f : Pool → Pool) : (e.updPool f).breaks = e.breaks := rfl
@[simp] theorem Ev.updPool_link (e : Ev) (f : Pool → Pool) : (e.updPool f).link = e.link := rfl
@[simp] theorem Ev.updPool_pending (e : Ev) (f : Pool → Pool) : (e.updPool f).pending = e.pending := rfl
@[simp] theorem Ev.updPool_before (e : Ev) (f : Pool → Pool) : (e.updPool f).before = e.before := rfl
@[simp] theorem Ev.updPool_offers (e : Ev) (f : Pool → Pool) : (e.updPool f).offers = e.offers := rfl
@[simp] theorem Ev.updPool_poolOffers (e : Ev) (f : Pool → Pool) : (e.updPool f).poolOffers = e.poolOffers := rfl
@[simp] theorem Ev.updPool_todo (e : Ev) (f : Pool → Pool) : (e.updPool f).todo = e.todo := rfl

/-! ### Ev.countPool -/

@[simp] theorem Ev.countPool_time (e : Ev) (f : PoolCounters → PoolCounters) : (e.countPool f).time = e.time := rfl
@[simp] theorem Ev.countPool_epoch (e : Ev) (f : PoolCounters → PoolCounters) : (e.countPool f).epoch = e.epoch := rfl
@[simp] theorem Ev.countPool_nreset (e : Ev) (f : PoolCounters → PoolCounters) : (e.countPool f).nreset = e.nreset := rfl
@[simp] theorem Ev.countPool_selfCheck (e : Ev) (f : PoolCounters → PoolCounters) : (e.countPool f).selfCheck = e.selfCheck := rfl
@[simp] theorem Ev.countPool_ports (e : Ev) (f : PoolCounters → PoolCounters) : (e.countPool f).ports = e.ports := rfl
@[simp] theorem Ev.countPool_router (e : Ev) (f : PoolCounters → PoolCounters) : (e.countPool f).router = e.router := rfl
@[simp] theorem Ev.countPool_output (e : Ev) (f : PoolCounters → PoolCounters) : (e.countPool f).output = e.output := rfl
@[simp] theorem Ev.countPool_relay (e : Ev) (f : PoolCounters → PoolCounters) : (e.countPool f).relay = e.relay := rfl
@[simp] theorem Ev.countPool_meter (e : Ev) (f : PoolCounters → PoolCounters) : (e.countPool f).meter = e.meter := rfl
@[simp] theorem Ev.countPool_kinds (e : Ev) (f : PoolCounters → PoolCounters) : (e.countPool f).kinds = e.kinds := rfl
@[simp] theorem Ev.countPool_breaks (e : Ev) (f : PoolCounters → PoolCounters) : (e.countPool f).breaks = e.breaks := rfl
@[simp] theorem Ev.countPool_link (e : Ev) (f : PoolCounters → PoolCounters) : (e.countPool f).link = e.link := rfl
@[simp] theorem Ev.countPool_pending (e : Ev) (f : PoolCounters → PoolCounters) : (e.countPool f).pending = e.pending := rfl
@[simp] theorem Ev.countPool_before (e : Ev) (f : PoolCounters → PoolCounters) : (e.countPool f).before = e.before := rfl
@[simp] theorem Ev.countPool_offers (e : Ev) (f : PoolCounters → PoolCounters) : (e.countPool f).offers = e.offers := rfl
@[simp] theorem Ev.countPool_poolOffers (e : Ev) (f : PoolCounters → PoolCounters) : (e.countPool f).poolOffers = e.poolOffers := rfl
@[simp] theorem Ev.countPool_todo (e : Ev) (f : PoolCounters → PoolCounters) : (e.countPool f).todo = e.todo := rfl

/-! ### Ev.updRouter -/

@[simp] theorem Ev.updRouter_time (e : Ev) (f : Router → Router) : (e.updRouter f).time = e.time := rfl
@[simp] theorem Ev.updRouter_epoch (e : Ev) (f : Router → Router) : (e.updRouter f).epoch = e.epoch := rfl
@[simp] theorem Ev.updRouter_nreset (e : Ev) (f : Router → Router) : (e.updRouter f).nreset = e.nreset := rfl
@[simp] theorem Ev.updRouter_selfCheck (e : Ev) (f : Router → Router) : (e.updRouter f).selfCheck = e.selfCheck := rfl
@[simp] theorem Ev.updRouter_ports (e : Ev) (f : Router → Router) : (e.updRouter f).ports = e.ports := rfl
@[simp] theorem Ev.updRouter_pool (e : Ev) (f : Router → Router) : (e.updRouter f).pool = e.pool := rfl
@[simp] theorem Ev.updRouter_output (e : Ev) (f : Router → Router) : (e.updRouter f).output = e.output := rfl
@[simp] theorem Ev.updRouter_relay (e : Ev) (f : Router → Router) : (e.updRouter f).relay = e.relay := rfl
@[simp] theorem Ev.updRouter_meter (e : Ev) (f : Router → Router) : (e.updRouter f).meter = e.meter := rfl
@[simp] theorem Ev.updRouter_kinds (e : Ev) (f : Router → Router) : (e.updRouter f).kinds = e.kinds := rfl
@[simp] theorem Ev.updRouter_breaks (e : Ev) (f : Router → Router) : (e.updRouter f).breaks = e.breaks := rfl
@[simp] theorem Ev.updRouter_link (e : Ev) (f : Router → Router) : (e.updRouter f).link = e.link := rfl
@[simp] theorem Ev.updRouter_pending (e : Ev) (f : Router → Router) : (e.updRouter f).pending = e.pending := rfl
@[simp] theorem Ev.updRouter_before (e : Ev) (f : Router → Router) : (e.updRouter f).before = e.before := rfl
@[simp] theorem Ev.updRouter_offers (e : Ev) (f : Router → Router) : (e.updRouter f).offers = e.offers := rfl
@[simp] theorem Ev.updRouter_poolOffers (e : Ev) (f : Router → Router) : (e.updRouter f).poolOffers = e.poolOffers := rfl
@[simp] theorem Ev.updRouter_todo (e : Ev) (f : Router → Router) : (e.updRouter f).todo = e.todo := rfl

/-! ### Ev.updOutput -/

@[simp] theorem Ev.updOutput_time (e : Ev) (f : Output → Output) : (e.updOutput f).time = e.time := rfl
@[simp] theorem Ev.updOutput_epoch (e : Ev) (f : Output → Output) : (e.updOutput f).epoch = e.epoch := rfl
@[simp] theorem Ev.updOutput_nreset (e : Ev) (f : Output → Output) : (e.updOutput f).nreset = e.nreset := rfl
@[simp] theorem Ev.updOutput_selfCheck (e : Ev) (f : Output → Output) : (e.updOutput f).selfCheck = e.selfCheck := rfl
@[simp] theorem Ev.updOutput_ports (e : Ev) (f : Output → Output) : (e.updOutput f).ports = e.ports := rfl
@[simp] theorem Ev.updOutput_pool (e : Ev) (f : Output → Output) : (e.updOutput f).pool = e.pool := rfl
@[simp] theorem Ev.updOutput_router (e : Ev) (f : Output → Output) : (e.updOutput f).router = e.router := rfl
@[simp] theorem Ev.updOutput_relay (e : Ev) (f : Output → Output) : (e.updOutput f).relay = e.relay := rfl
@[simp] theorem Ev.updOutput_meter (e : Ev) (f : Output → Output) : (e.updOutput f).meter = e.meter := rfl
@[simp] theorem Ev.updOutput_kinds (e : Ev) (f : Output → Output) : (e.updOutput f).kinds = e.kinds := rfl
@[simp] theorem Ev.updOutput_breaks (e : Ev) (f : Output → Output) : (e.updOutput f).breaks = e.breaks := rfl
@[simp] theorem Ev.updOutput_link (e : Ev) (f : Output → Output) : (e.updOutput f).link = e.link := rfl
@[simp] theorem Ev.updOutput_pending (e : Ev) (f : Output → Output) : (e.updOutput f).pending = e.pending := rfl
@[simp] theorem Ev.updOutput_before (e : Ev) (f : Output → Output) : (e.updOutput f).before = e.before := rfl
@[simp] theorem Ev.updOutput_offers (e : Ev) (f : Output → Output) : (e.updOutput f).offers = e.offers := rfl
@[simp] theorem Ev.updOutput_poolOffers (e : Ev) (f : Output → Output) : (e.updOutput f).poolOffers = e.poolOffers := rfl
@[simp] theorem Ev.updOutput_todo (e : Ev) (f : Output → Output) : (e.updOutput f).todo = e.todo := rfl

/-! ### Ev.countOutput -/

@[simp] theorem Ev.countOutput_time (e : Ev) (f : OutputCounters → OutputCounters) : (e.countOutput f).time = e.time := rfl
@[simp] theorem Ev.countOutput_epoch (e : Ev) (f : OutputCounters → OutputCounters) : (e.countOutput f).epoch = e.epoch := rfl
@[simp] theorem Ev.countOutput_nreset (e : Ev) (f : OutputCounters → OutputCounters) : (e.countOutput f).nreset = e.nreset := rfl
@[simp] theorem Ev.countOutput_selfCheck (e : Ev) (f : OutputCounters → OutputCounters) : (e.countOutput f).selfCheck = e.selfCheck := rfl
@[simp] theorem Ev.countOutput_ports (e : Ev) (f : OutputCounters → OutputCounters) : (e.countOutput f).ports = e.ports := rfl
@[simp] theorem Ev.countOutput_pool (e : Ev) (f : OutputCounters → OutputCounters) : (e.countOutput f).pool = e.pool := rfl
@[simp] theorem Ev.countOutput_router (e : Ev) (f : OutputCounters → OutputCounters) : (e.countOutput f).router = e.router := rfl
@[simp] theorem Ev.countOutput_relay (e : Ev) (f : OutputCounters → OutputCounters) : (e.countOutput f).relay = e.relay := rfl
@[simp] theorem Ev.countOutput_meter (e : Ev) (f : OutputCounters → OutputCounters) : (e.countOutput f).meter = e.meter := rfl
@[simp] theorem Ev.countOutput_kinds (e : Ev) (f : OutputCounters → OutputCounters) : (e.countOutput f).kinds = e.kinds := rfl
@[simp] theorem Ev.countOutput_breaks (e : Ev) (f : OutputCounters → OutputCounters) : (e.countOutput f).breaks = e.breaks := rfl
@[simp] theorem Ev.countOutput_link (e : Ev) (f : OutputCounters → OutputCounters) : (e.countOutput f).link = e.link := rfl
@[simp] theorem Ev.countOutput_pending (e : Ev) (f : OutputCounters → OutputCounters) : (e.countOutput f).pending = e.pending := rfl
@[simp] theorem Ev.countOutput_before (e : Ev) (f : OutputCounters → OutputCounters) : (e.countOutput f).before = e.before := rfl
@[simp] theorem Ev.countOutput_offers (e : Ev) (f : OutputCounters → OutputCounters) : (e.countOutput f).offers = e.offers := rfl
@[simp] theorem Ev.countOutput_poolOffers (e : Ev) (f : OutputCounters → OutputCounters) : (e.countOutput f).poolOffers = e.poolOffers := rfl
@[simp] theorem Ev.countOutput_todo (e : Ev) (f : OutputCounters → OutputCounters) : (e.countOutput f).todo = e.todo := rfl

/-! ### Ev.updMeter -/

@[simp] theorem Ev.updMeter_time (e : Ev) (f : Meter → Meter) : (e.updMeter f).time = e.time := rfl
@[simp] theorem Ev.updMeter_epoch (e : Ev) (f : Meter → Meter) : (e.updMeter f).epoch = e.epoch := rfl
@[simp] theorem Ev.updMeter_nreset (e : Ev) (f : Meter → Meter) : (e.updMeter f).nreset = e.nreset := rfl
@[simp] theorem Ev.updMeter_selfCheck (e : Ev) (f : Meter → Meter) : (e.updMeter f).selfCheck = e.selfCheck := rfl
@[simp] theorem Ev.updMeter_ports (e : Ev) (f : Meter → Meter) : (e.updMeter f).ports = e.ports := rfl
@[simp] theorem Ev.updMeter_pool (e : Ev) (f : Meter → Meter) : (e.updMeter f).pool = e.pool := rfl
@[simp] theorem Ev.updMeter_router (e : Ev) (f : Meter → Meter) : (e.updMeter f).router = e.router := rfl
@[simp] theorem Ev.updMeter_output (e : Ev) (f : Meter → Meter) : (e.updMeter f).output = e.output := rfl
@[simp] theorem Ev.updMeter_relay (e : Ev) (f : Meter → Meter) : (e.updMeter f).relay = e.relay := rfl
@[simp] theorem Ev.updMeter_kinds (e : Ev) (f : Meter → Meter) : (e.updMeter f).kinds = e.kinds := rfl
@[simp] theorem Ev.updMeter_breaks (e : Ev) (f : Meter → Meter) : (e.updMeter f).breaks = e.breaks := rfl
@[simp] theorem Ev.updMeter_link (e : Ev) (f : Meter → Meter) : (e.updMeter f).link = e.link := rfl
@[simp] theorem Ev.updMeter_pending (e : Ev) (f : Meter → Meter) : (e.updMeter f).pending = e.pending := rfl
@[simp] theorem Ev.updMeter_before (e : Ev) (f : Meter → Meter) : (e.updMeter f).before = e.before := rfl
@[simp] theorem Ev.updMeter_offers (e : Ev) (f : Meter → Meter) : (e.updMeter f).offers = e.offers := rfl
@[simp] theorem Ev.updMeter_poolOffers (e : Ev) (f : Meter → Meter) : (e.updMeter f).poolOffers = e.poolOffers := rfl
@[simp] theorem Ev.updMeter_todo (e : Ev) (f : Meter → Meter) : (e.updMeter f).todo = e.todo := rfl

/-! ### Ev.countMeter -/

@[simp] theorem Ev.countMeter_time (e : Ev) (f : MeterCounters → MeterCounters) : (e.countMeter f).time = e.time := rfl
@[simp] theorem Ev.countMeter_epoch (e : Ev) (f : MeterCounters → MeterCounters) : (e.countMeter f).epoch = e.epoch := rfl
@[simp] theorem Ev.countMeter_nreset (e : Ev) (f : MeterCounters → MeterCounters) : (e.countMeter f).nreset = e.nreset := rfl
@[simp] theorem Ev.countMeter_selfCheck (e : Ev) (f : MeterCounters → MeterCounters) : (e.countMeter f).selfCheck = e.selfCheck := rfl
@[simp] theorem Ev.countMeter_ports (e : Ev) (f : MeterCounters → MeterCounters) : (e.countMeter f).ports = e.ports := rfl
@[simp] theorem Ev.countMeter_pool (e : Ev) (f : MeterCounters → MeterCounters) : (e.countMeter f).pool = e.pool := rfl
@[simp] theorem Ev.countMeter_router (e : Ev) (f : MeterCounters → MeterCounters) : (e.countMeter f).router = e.router := rfl
@[simp] theorem Ev.countMeter_output (e : Ev) (f : MeterCounters → MeterCounters) : (e.countMeter f).output = e.output := rfl
@[simp] theorem Ev.countMeter_relay (e : Ev) (f : MeterCounters → MeterCounters) : (e.countMeter f).relay = e.relay := rfl
@[simp] theorem Ev.countMeter_kinds (e : Ev) (f : MeterCounters → MeterCounters) : (e.countMeter f).kinds = e.kinds := rfl
@[simp] theorem Ev.countMeter_breaks (e : Ev) (f : MeterCounters → MeterCounters) : (e.countMeter f).breaks = e.breaks := rfl
@[simp] theorem Ev.countMeter_link (e : Ev) (f : MeterCounters → MeterCounters) : (e.countMeter f).link = e.link := rfl
@[simp] theorem Ev.countMeter_pending (e : Ev) (f : MeterCounters → MeterCounters) : (e.countMeter f).pending = e.pending := rfl
@[simp] theorem Ev.countMeter_before (e : Ev) (f : MeterCounters → MeterCounters) : (e.countMeter f).before = e.before := rfl
@[simp] theorem Ev.countMeter_offers (e : Ev) (f : MeterCounters → MeterCounters) : (e.countMeter f).offers = e.offers := rfl
@[simp] theorem Ev.countMeter_poolOffers (e : Ev) (f : MeterCounters → MeterCounters) : (e.countMeter f).poolOffers = e.poolOffers := rfl
@[simp] theorem Ev.countMeter_todo (e : Ev) (f : MeterCounters → MeterCounters) : (e.countMeter f).todo = e.todo := rfl

/-! ### Ev.updBreaks -/

@[simp] theorem Ev.updBreaks_time (e : Ev) (f : Breaks → Breaks) : (e.updBreaks f).time = e.time := rfl
@[simp] theorem Ev.updBreaks_epoch (e : Ev) (f : Breaks → Breaks) : (e.updBreaks f).epoch = e.epoch := rfl
@[simp] theorem Ev.updBreaks_nreset (e : Ev) (f : Breaks → Breaks) : (e.updBreaks f).nreset = e.nreset := rfl
@[simp] theorem Ev.updBreaks_selfCheck (e : Ev) (f : Breaks → Breaks) : (e.updBreaks f).selfCheck = e.selfCheck := rfl
@[simp] theorem Ev.updBreaks_ports (e : Ev) (f : Breaks → Breaks) : (e.updBreaks f).ports = e.ports := rfl
@[simp] theorem Ev.updBreaks_pool (e : Ev) (f : Breaks → Breaks) : (e.updBreaks f).pool = e.pool := rfl
@[simp] theorem Ev.updBreaks_router (e : Ev) (f : Breaks → Breaks) : (e.updBreaks f).router = e.router := rfl
@[simp] theorem Ev.updBreaks_output (e : Ev) (f : Breaks → Breaks) : (e.updBreaks f).output = e.output := rfl
@[simp] theorem Ev.updBreaks_relay (e : Ev) (f : Breaks → Breaks) : (e.updBreaks f).relay = e.relay := rfl
@[simp] theorem Ev.updBreaks_meter (e : Ev) (f : Breaks → Breaks) : (e.updBreaks f).meter = e.meter := rfl
@[simp] theorem Ev.updBreaks_kinds (e : Ev) (f : Breaks → Breaks) : (e.updBreaks f).kinds = e.kinds := rfl
@[simp] theorem Ev.updBreaks_link (e : Ev) (f : Breaks → Breaks) : (e.updBreaks f).link = e.link := rfl
@[simp] theorem Ev.updBreaks_pending (e : Ev) (f : Breaks → Breaks) : (e.updBreaks f).pending = e.pending := rfl
@[simp] theorem Ev.updBreaks_before (e : Ev) (f : Breaks → Breaks) : (e.updBreaks f).before = e.before := rfl
@[simp] theorem Ev.updBreaks_offers (e : Ev) (f : Breaks → Breaks) : (e.updBreaks f).offers = e.offers := rfl
@[simp] theorem Ev.updBreaks_poolOffers (e : Ev) (f : Breaks → Breaks) : (e.updBreaks f).poolOffers = e.poolOffers := rfl
@[simp] theorem Ev.updBreaks_todo (e : Ev) (f : Breaks → Breaks) : (e.updBreaks f).todo = e.todo := rfl

/-! ### Ev.updLink -/

@[simp] theorem Ev.updLink_time (e : Ev) (f : Link → Link) : (e.updLink f).time = e.time := rfl
@[simp] theorem Ev.updLink_epoch (e : Ev) (f : Link → Link) : (e.updLink f).epoch = e.epoch := rfl
@[simp] theorem Ev.updLink_nreset (e : Ev) (f : Link → Link) : (e.updLink f).nreset = e.nreset := rfl
@[simp] theorem Ev.updLink_selfCheck (e : Ev) (f : Link → Link) : (e.updLink f).selfCheck = e.selfCheck := rfl
@[simp] theorem Ev.updLink_ports (e : Ev) (f : Link → Link) : (e.updLink f).ports = e.ports := rfl
@[simp] theorem Ev.updLink_pool (e : Ev) (f : Link → Link) : (e.updLink f).pool = e.pool := rfl
@[simp] theorem Ev.updLink_router (e : Ev) (f : Link → Link) : (e.updLink f).router = e.router := rfl
@[simp] theorem Ev.updLink_output (e : Ev) (f : Link → Link) : (e.updLink f).output = e.output := rfl
@[simp] theorem Ev.updLink_relay (e : Ev) (f : Link → Link) : (e.updLink f).relay = e.relay := rfl
@[simp] theorem Ev.updLink_meter (e : Ev) (f : Link → Link) : (e.updLink f).meter = e.meter := rfl
@[simp] theorem Ev.updLink_kinds (e : Ev) (f : Link → Link) : (e.updLink f).kinds = e.kinds := rfl
@[simp] theorem Ev.updLink_breaks (e : Ev) (f : Link → Link) : (e.updLink f).breaks = e.breaks := rfl
@[simp] theorem Ev.updLink_pending (e : Ev) (f : Link → Link) : (e.updLink f).pending = e.pending := rfl
@[simp] theorem Ev.updLink_before (e : Ev) (f : Link → Link) : (e.updLink f).before = e.before := rfl
@[simp] theorem Ev.updLink_offers (e : Ev) (f : Link → Link) : (e.updLink f).offers = e.offers := rfl
@[simp] theorem Ev.updLink_poolOffers (e : Ev) (f : Link → Link) : (e.updLink f).poolOffers = e.poolOffers := rfl
@[simp] theorem Ev.updLink_todo (e : Ev) (f : Link → Link) : (e.updLink f).todo = e.todo := rfl

/-! ### Ev.countLink -/

@[simp] theorem Ev.countLink_time (e : Ev) (f : LinkCounters → LinkCounters) : (e.countLink f).time = e.time := rfl
@[simp] theorem Ev.countLink_epoch (e : Ev) (f : LinkCounters → LinkCounters) : (e.countLink f).epoch = e.epoch := rfl
@[simp] theorem Ev.countLink_nreset (e : Ev) (f : LinkCounters → LinkCounters) : (e.countLink f).nreset = e.nreset := rfl
@[simp] theorem Ev.countLink_selfCheck (e : Ev) (f : LinkCounters → LinkCounters) : (e.countLink f).selfCheck = e.selfCheck := rfl
@[simp] theorem Ev.countLink_ports (e : Ev) (f : LinkCounters → LinkCounters) : (e.countLink f).ports = e.ports := rfl
@[simp] theorem Ev.countLink_pool (e : Ev) (f : LinkCounters → LinkCounters) : (e.countLink f).pool = e.pool := rfl
@[simp] theorem Ev.countLink_router (e : Ev) (f : LinkCounters → LinkCounters) : (e.countLink f).router = e.router := rfl
@[simp] theorem Ev.countLink_output (e : Ev) (f : LinkCounters → LinkCounters) : (e.countLink f).output = e.output := rfl
@[simp] theorem Ev.countLink_relay (e : Ev) (f : LinkCounters → LinkCounters) : (e.countLink f).relay = e.relay := rfl
@[simp] theorem Ev.countLink_meter (e : Ev) (f : LinkCounters → LinkCounters) : (e.countLink f).meter = e.meter := rfl
@[simp] theorem Ev.countLink_kinds (e : Ev) (f : LinkCounters → LinkCounters) : (e.countLink f).kinds = e.kinds := rfl
@[simp] theorem Ev.countLink_breaks (e : Ev) (f : LinkCounters → LinkCounters) : (e.countLink f).breaks = e.breaks := rfl
@[simp] theorem Ev.countLink_pending (e : Ev) (f : LinkCounters → LinkCounters) : (e.countLink f).pending = e.pending := rfl
@[simp] theorem Ev.countLink_before (e : Ev) (f : LinkCounters → LinkCounters) : (e.countLink f).before = e.before := rfl
@[simp] theorem Ev.countLink_offers (e : Ev) (f : LinkCounters → LinkCounters) : (e.countLink f).offers = e.offers := rfl
@[simp] theorem Ev.countLink_poolOffers (e : Ev) (f : LinkCounters → LinkCounters) : (e.countLink f).poolOffers = e.poolOffers := rfl
@[simp] theorem Ev.countLink_todo (e : Ev) (f : LinkCounters → LinkCounters) : (e.countLink f).todo = e.todo := rfl

/-! ### Ev.push -/

@[simp] theorem Ev.push_time (e : Ev) (t : Task) : (e.push t).time = e.time := rfl
@[simp] theorem Ev.push_epoch (e : Ev) (t : Task) : (e.push t).epoch = e.epoch := rfl
@[simp] theorem Ev.push_nreset (e : Ev) (t : Task) : (e.push t).nreset = e.nreset := rfl
@[simp] theorem Ev.push_selfCheck (e : Ev) (t : Task) : (e.push t).selfCheck = e.selfCheck := rfl
@[simp] theorem Ev.push_ports (e : Ev) (t : Task) : (e.push t).ports = e.ports := rfl
@[simp] theorem Ev.push_pool (e : Ev) (t : Task) : (e.push t).pool = e.pool := rfl
@[simp] theorem Ev.push_router (e : Ev) (t : Task) : (e.push t).router = e.router := rfl
@[simp] theorem Ev.push_output (e : Ev) (t : Task) : (e.push t).output = e.output := rfl
@[simp] theorem Ev.push_relay (e : Ev) (t : Task) : (e.push t).relay = e.relay := rfl
@[simp] theorem Ev.push_meter (e : Ev) (t : Task) : (e.push t).meter = e.meter := rfl
@[simp] theorem Ev.push_kinds (e : Ev) (t : Task) : (e.push t).kinds = e.kinds := rfl
@[simp] theorem Ev.push_breaks (e : Ev) (t : Task) : (e.push t).breaks = e.breaks := rfl
@[simp] theorem Ev.push_link (e : Ev) (t : Task) : (e.push t).link = e.link := rfl
@[simp] theorem Ev.push_pending (e : Ev) (t : Task) : (e.push t).pending = e.pending := rfl
@[simp] theorem Ev.push_before (e : Ev) (t : Task) : (e.push t).before = e.before := rfl
@[simp] theorem Ev.push_offers (e : Ev) (t : Task) : (e.push t).offers = e.offers := rfl
@[simp] theorem Ev.push_poolOffers (e : Ev) (t : Task) : (e.push t).poolOffers = e.poolOffers := rfl

/-! ### Ev.offer -/

@[simp] theorem Ev.offer_time (e : Ev) (n : Notice) : (e.offer n).time = e.time := rfl
@[simp] theorem Ev.offer_epoch (e : Ev) (n : Notice) : (e.offer n).epoch = e.epoch := rfl
@[simp] theorem Ev.offer_nreset (e : Ev) (n : Notice) : (e.offer n).nreset = e.nreset := rfl
@[simp] theorem Ev.offer_selfCheck (e : Ev) (n : Notice) : (e.offer n).selfCheck = e.selfCheck := rfl
@[simp] theorem Ev.offer_ports (e : Ev) (n : Notice) : (e.offer n).ports = e.ports := rfl
@[simp] theorem Ev.offer_pool (e : Ev) (n : Notice) : (e.offer n).pool = e.pool := rfl
@[simp] theorem Ev.offer_router (e : Ev) (n : Notice) : (e.offer n).router = e.router := rfl
@[simp] theorem Ev.offer_output (e : Ev) (n : Notice) : (e.offer n).output = e.output := rfl
@[simp] theorem Ev.offer_relay (e : Ev) (n : Notice) : (e.offer n).relay = e.relay := rfl
@[simp] theorem Ev.offer_meter (e : Ev) (n : Notice) : (e.offer n).meter = e.meter := rfl
@[simp] theorem Ev.offer_kinds (e : Ev) (n : Notice) : (e.offer n).kinds = e.kinds := rfl
@[simp] theorem Ev.offer_breaks (e : Ev) (n : Notice) : (e.offer n).breaks = e.breaks := rfl
@[simp] theorem Ev.offer_link (e : Ev) (n : Notice) : (e.offer n).link = e.link := rfl
@[simp] theorem Ev.offer_pending (e : Ev) (n : Notice) : (e.offer n).pending = e.pending := rfl
@[simp] theorem Ev.offer_before (e : Ev) (n : Notice) : (e.offer n).before = e.before := rfl
@[simp] theorem Ev.offer_poolOffers (e : Ev) (n : Notice) : (e.offer n).poolOffers = e.poolOffers := rfl
@[simp] theorem Ev.offer_todo (e : Ev) (n : Notice) : (e.offer n).todo = e.todo := rfl

/-! ### Ev.reach -/

@[simp] theorem Ev.reach_epoch (e : Ev) (d : Nat) : (e.reach d).epoch = e.epoch := rfl
@[simp] theorem Ev.reach_nreset (e : Ev) (d : Nat) : (e.reach d).nreset = e.nreset := rfl
@[simp] theorem Ev.reach_selfCheck (e : Ev) (d : Nat) : (e.reach d).selfCheck = e.selfCheck := rfl
@[simp] theorem Ev.reach_ports (e : Ev) (d : Nat) : (e.reach d).ports = e.ports := rfl
@[simp] theorem Ev.reach_pool (e : Ev) (d : Nat) : (e.reach d).pool = e.pool := rfl
@[simp] theorem Ev.reach_router (e : Ev) (d : Nat) : (e.reach d).router = e.router := rfl
@[simp] theorem Ev.reach_output (e : Ev) (d : Nat) : (e.reach d).output = e.output := rfl
@[simp] theorem Ev.reach_relay (e : Ev) (d : Nat) : (e.reach d).relay = e.relay := rfl
@[simp] theorem Ev.reach_meter (e : Ev) (d : Nat) : (e.reach d).meter = e.meter := rfl
@[simp] theorem Ev.reach_kinds (e : Ev) (d : Nat) : (e.reach d).kinds = e.kinds := rfl
@[simp] theorem Ev.reach_breaks (e : Ev) (d : Nat) : (e.reach d).breaks = e.breaks := rfl
@[simp] theorem Ev.reach_link (e : Ev) (d : Nat) : (e.reach d).link = e.link := rfl
@[simp] theorem Ev.reach_pending (e : Ev) (d : Nat) : (e.reach d).pending = e.pending := rfl
@[simp] theorem Ev.reach_before (e : Ev) (d : Nat) : (e.reach d).before = e.before := rfl
@[simp] theorem Ev.reach_offers (e : Ev) (d : Nat) : (e.reach d).offers = e.offers := rfl
@[simp] theorem Ev.reach_poolOffers (e : Ev) (d : Nat) : (e.reach d).poolOffers = e.poolOffers := rfl
@[simp] theorem Ev.reach_todo (e : Ev) (d : Nat) : (e.reach d).todo = e.todo := rfl

/-! ### Ev.markPower -/

@[simp] theorem Ev.markPower_time (e : Ev) (p : PortId) (c : PowerCause) : (e.markPower p c).time = e.time := rfl
@[simp] theorem Ev.markPower_epoch (e : Ev) (p : PortId) (c : PowerCause) : (e.markPower p c).epoch = e.epoch := rfl
@[simp] theorem Ev.markPower_nreset (e : Ev) (p : PortId) (c : PowerCause) : (e.markPower p c).nreset = e.nreset := rfl
@[simp] theorem Ev.markPower_selfCheck (e : Ev) (p : PortId) (c : PowerCause) : (e.markPower p c).selfCheck = e.selfCheck := rfl
@[simp] theorem Ev.markPower_ports (e : Ev) (p : PortId) (c : PowerCause) : (e.markPower p c).ports = e.ports := rfl
@[simp] theorem Ev.markPower_pool (e : Ev) (p : PortId) (c : PowerCause) : (e.markPower p c).pool = e.pool := rfl
@[simp] theorem Ev.markPower_router (e : Ev) (p : PortId) (c : PowerCause) : (e.markPower p c).router = e.router := rfl
@[simp] theorem Ev.markPower_output (e : Ev) (p : PortId) (c : PowerCause) : (e.markPower p c).output = e.output := rfl
@[simp] theorem Ev.markPower_relay (e : Ev) (p : PortId) (c : PowerCause) : (e.markPower p c).relay = e.relay := rfl
@[simp] theorem Ev.markPower_meter (e : Ev) (p : PortId) (c : PowerCause) : (e.markPower p c).meter = e.meter := rfl
@[simp] theorem Ev.markPower_kinds (e : Ev) (p : PortId) (c : PowerCause) : (e.markPower p c).kinds = e.kinds := rfl
@[simp] theorem Ev.markPower_breaks (e : Ev) (p : PortId) (c : PowerCause) : (e.markPower p c).breaks = e.breaks := rfl
@[simp] theorem Ev.markPower_link (e : Ev) (p : PortId) (c : PowerCause) : (e.markPower p c).link = e.link := rfl
@[simp] theorem Ev.markPower_pending (e : Ev) (p : PortId) (c : PowerCause) : (e.markPower p c).pending = e.pending := rfl
@[simp] theorem Ev.markPower_before (e : Ev) (p : PortId) (c : PowerCause) : (e.markPower p c).before = e.before := rfl
@[simp] theorem Ev.markPower_poolOffers (e : Ev) (p : PortId) (c : PowerCause) : (e.markPower p c).poolOffers = e.poolOffers := rfl
@[simp] theorem Ev.markPower_todo (e : Ev) (p : PortId) (c : PowerCause) : (e.markPower p c).todo = e.todo := rfl

/-! ### Ev.setPower -/

@[simp] theorem Ev.setPower_time (e : Ev) (p : PortId) (x : PowerState) (c : PowerCause) : (e.setPower p x c).time = e.time := rfl
@[simp] theorem Ev.setPower_epoch (e : Ev) (p : PortId) (x : PowerState) (c : PowerCause) : (e.setPower p x c).epoch = e.epoch := rfl
@[simp] theorem Ev.setPower_nreset (e : Ev) (p : PortId) (x : PowerState) (c : PowerCause) : (e.setPower p x c).nreset = e.nreset := rfl
@[simp] theorem Ev.setPower_selfCheck (e : Ev) (p : PortId) (x : PowerState) (c : PowerCause) : (e.setPower p x c).selfCheck = e.selfCheck := rfl
@[simp] theorem Ev.setPower_pool (e : Ev) (p : PortId) (x : PowerState) (c : PowerCause) : (e.setPower p x c).pool = e.pool := rfl
@[simp] theorem Ev.setPower_router (e : Ev) (p : PortId) (x : PowerState) (c : PowerCause) : (e.setPower p x c).router = e.router := rfl
@[simp] theorem Ev.setPower_output (e : Ev) (p : PortId) (x : PowerState) (c : PowerCause) : (e.setPower p x c).output = e.output := rfl
@[simp] theorem Ev.setPower_relay (e : Ev) (p : PortId) (x : PowerState) (c : PowerCause) : (e.setPower p x c).relay = e.relay := rfl
@[simp] theorem Ev.setPower_meter (e : Ev) (p : PortId) (x : PowerState) (c : PowerCause) : (e.setPower p x c).meter = e.meter := rfl
@[simp] theorem Ev.setPower_kinds (e : Ev) (p : PortId) (x : PowerState) (c : PowerCause) : (e.setPower p x c).kinds = e.kinds := rfl
@[simp] theorem Ev.setPower_breaks (e : Ev) (p : PortId) (x : PowerState) (c : PowerCause) : (e.setPower p x c).breaks = e.breaks := rfl
@[simp] theorem Ev.setPower_link (e : Ev) (p : PortId) (x : PowerState) (c : PowerCause) : (e.setPower p x c).link = e.link := rfl
@[simp] theorem Ev.setPower_pending (e : Ev) (p : PortId) (x : PowerState) (c : PowerCause) : (e.setPower p x c).pending = e.pending := rfl
@[simp] theorem Ev.setPower_before (e : Ev) (p : PortId) (x : PowerState) (c : PowerCause) : (e.setPower p x c).before = e.before := rfl
@[simp] theorem Ev.setPower_poolOffers (e : Ev) (p : PortId) (x : PowerState) (c : PowerCause) : (e.setPower p x c).poolOffers = e.poolOffers := rfl
@[simp] theorem Ev.setPower_todo (e : Ev) (p : PortId) (x : PowerState) (c : PowerCause) : (e.setPower p x c).todo = e.todo := rfl

/-! ### Ev.setHold -/

@[simp] theorem Ev.setHold_time (e : Ev) (p : PortId) (b : Bool) (c : PowerCause) : (e.setHold p b c).time = e.time := rfl
@[simp] theorem Ev.setHold_epoch (e : Ev) (p : PortId) (b : Bool) (c : PowerCause) : (e.setHold p b c).epoch = e.epoch := rfl
@[simp] theorem Ev.setHold_nreset (e : Ev) (p : PortId) (b : Bool) (c : PowerCause) : (e.setHold p b c).nreset = e.nreset := rfl
@[simp] theorem Ev.setHold_selfCheck (e : Ev) (p : PortId) (b : Bool) (c : PowerCause) : (e.setHold p b c).selfCheck = e.selfCheck := rfl
@[simp] theorem Ev.setHold_pool (e : Ev) (p : PortId) (b : Bool) (c : PowerCause) : (e.setHold p b c).pool = e.pool := rfl
@[simp] theorem Ev.setHold_router (e : Ev) (p : PortId) (b : Bool) (c : PowerCause) : (e.setHold p b c).router = e.router := rfl
@[simp] theorem Ev.setHold_output (e : Ev) (p : PortId) (b : Bool) (c : PowerCause) : (e.setHold p b c).output = e.output := rfl
@[simp] theorem Ev.setHold_relay (e : Ev) (p : PortId) (b : Bool) (c : PowerCause) : (e.setHold p b c).relay = e.relay := rfl
@[simp] theorem Ev.setHold_meter (e : Ev) (p : PortId) (b : Bool) (c : PowerCause) : (e.setHold p b c).meter = e.meter := rfl
@[simp] theorem Ev.setHold_kinds (e : Ev) (p : PortId) (b : Bool) (c : PowerCause) : (e.setHold p b c).kinds = e.kinds := rfl
@[simp] theorem Ev.setHold_breaks (e : Ev) (p : PortId) (b : Bool) (c : PowerCause) : (e.setHold p b c).breaks = e.breaks := rfl
@[simp] theorem Ev.setHold_link (e : Ev) (p : PortId) (b : Bool) (c : PowerCause) : (e.setHold p b c).link = e.link := rfl
@[simp] theorem Ev.setHold_pending (e : Ev) (p : PortId) (b : Bool) (c : PowerCause) : (e.setHold p b c).pending = e.pending := rfl
@[simp] theorem Ev.setHold_before (e : Ev) (p : PortId) (b : Bool) (c : PowerCause) : (e.setHold p b c).before = e.before := rfl
@[simp] theorem Ev.setHold_poolOffers (e : Ev) (p : PortId) (b : Bool) (c : PowerCause) : (e.setHold p b c).poolOffers = e.poolOffers := rfl
@[simp] theorem Ev.setHold_todo (e : Ev) (p : PortId) (b : Bool) (c : PowerCause) : (e.setHold p b c).todo = e.todo := rfl

/-! ### Ev.setRelay -/

@[simp] theorem Ev.setRelay_time (e : Ev) (l : List RelayEntry) : (e.setRelay l).time = e.time := rfl
@[simp] theorem Ev.setRelay_epoch (e : Ev) (l : List RelayEntry) : (e.setRelay l).epoch = e.epoch := rfl
@[simp] theorem Ev.setRelay_nreset (e : Ev) (l : List RelayEntry) : (e.setRelay l).nreset = e.nreset := rfl
@[simp] theorem Ev.setRelay_selfCheck (e : Ev) (l : List RelayEntry) : (e.setRelay l).selfCheck = e.selfCheck := rfl
@[simp] theorem Ev.setRelay_ports (e : Ev) (l : List RelayEntry) : (e.setRelay l).ports = e.ports := rfl
@[simp] theorem Ev.setRelay_pool (e : Ev) (l : List RelayEntry) : (e.setRelay l).pool = e.pool := rfl
@[simp] theorem Ev.setRelay_router (e : Ev) (l : List RelayEntry) : (e.setRelay l).router = e.router := rfl
@[simp] theorem Ev.setRelay_output (e : Ev) (l : List RelayEntry) : (e.setRelay l).output = e.output := rfl
@[simp] theorem Ev.setRelay_meter (e : Ev) (l : List RelayEntry) : (e.setRelay l).meter = e.meter := rfl
@[simp] theorem Ev.setRelay_kinds (e : Ev) (l : List RelayEntry) : (e.setRelay l).kinds = e.kinds := rfl
@[simp] theorem Ev.setRelay_breaks (e : Ev) (l : List RelayEntry) : (e.setRelay l).breaks = e.breaks := rfl
@[simp] theorem Ev.setRelay_link (e : Ev) (l : List RelayEntry) : (e.setRelay l).link = e.link := rfl
@[simp] theorem Ev.setRelay_pending (e : Ev) (l : List RelayEntry) : (e.setRelay l).pending = e.pending := rfl
@[simp] theorem Ev.setRelay_before (e : Ev) (l : List RelayEntry) : (e.setRelay l).before = e.before := rfl
@[simp] theorem Ev.setRelay_offers (e : Ev) (l : List RelayEntry) : (e.setRelay l).offers = e.offers := rfl
@[simp] theorem Ev.setRelay_poolOffers (e : Ev) (l : List RelayEntry) : (e.setRelay l).poolOffers = e.poolOffers := rfl
@[simp] theorem Ev.setRelay_todo (e : Ev) (l : List RelayEntry) : (e.setRelay l).todo = e.todo := rfl

/-! ### Ev.writeReply -/

@[simp] theorem Ev.writeReply_time (e : Ev) (r : Reply) : (e.writeReply r).time = e.time := rfl
@[simp] theorem Ev.writeReply_epoch (e : Ev) (r : Reply) : (e.writeReply r).epoch = e.epoch := rfl
@[simp] theorem Ev.writeReply_nreset (e : Ev) (r : Reply) : (e.writeReply r).nreset = e.nreset := rfl
@[simp] theorem Ev.writeReply_selfCheck (e : Ev) (r : Reply) : (e.writeReply r).selfCheck = e.selfCheck := rfl
@[simp] theorem Ev.writeReply_ports (e : Ev) (r : Reply) : (e.writeReply r).ports = e.ports := rfl
@[simp] theorem Ev.writeReply_pool (e : Ev) (r : Reply) : (e.writeReply r).pool = e.pool := rfl
@[simp] theorem Ev.writeReply_router (e : Ev) (r : Reply) : (e.writeReply r).router = e.router := rfl
@[simp] theorem Ev.writeReply_output (e : Ev) (r : Reply) : (e.writeReply r).output = e.output := rfl
@[simp] theorem Ev.writeReply_relay (e : Ev) (r : Reply) : (e.writeReply r).relay = e.relay := rfl
@[simp] theorem Ev.writeReply_meter (e : Ev) (r : Reply) : (e.writeReply r).meter = e.meter := rfl
@[simp] theorem Ev.writeReply_kinds (e : Ev) (r : Reply) : (e.writeReply r).kinds = e.kinds := rfl
@[simp] theorem Ev.writeReply_breaks (e : Ev) (r : Reply) : (e.writeReply r).breaks = e.breaks := rfl
@[simp] theorem Ev.writeReply_pending (e : Ev) (r : Reply) : (e.writeReply r).pending = e.pending := rfl
@[simp] theorem Ev.writeReply_before (e : Ev) (r : Reply) : (e.writeReply r).before = e.before := rfl
@[simp] theorem Ev.writeReply_offers (e : Ev) (r : Reply) : (e.writeReply r).offers = e.offers := rfl
@[simp] theorem Ev.writeReply_poolOffers (e : Ev) (r : Reply) : (e.writeReply r).poolOffers = e.poolOffers := rfl
@[simp] theorem Ev.writeReply_todo (e : Ev) (r : Reply) : (e.writeReply r).todo = e.todo := rfl

/-! ### Ev.setDiag -/

@[simp] theorem Ev.setDiag_time (e : Ev) (p : PortId) (d : DiagState) : (e.setDiag p d).time = e.time := rfl
@[simp] theorem Ev.setDiag_epoch (e : Ev) (p : PortId) (d : DiagState) : (e.setDiag p d).epoch = e.epoch := rfl
@[simp] theorem Ev.setDiag_nreset (e : Ev) (p : PortId) (d : DiagState) : (e.setDiag p d).nreset = e.nreset := rfl
@[simp] theorem Ev.setDiag_selfCheck (e : Ev) (p : PortId) (d : DiagState) : (e.setDiag p d).selfCheck = e.selfCheck := rfl
@[simp] theorem Ev.setDiag_pool (e : Ev) (p : PortId) (d : DiagState) : (e.setDiag p d).pool = e.pool := rfl
@[simp] theorem Ev.setDiag_router (e : Ev) (p : PortId) (d : DiagState) : (e.setDiag p d).router = e.router := rfl
@[simp] theorem Ev.setDiag_output (e : Ev) (p : PortId) (d : DiagState) : (e.setDiag p d).output = e.output := rfl
@[simp] theorem Ev.setDiag_relay (e : Ev) (p : PortId) (d : DiagState) : (e.setDiag p d).relay = e.relay := rfl
@[simp] theorem Ev.setDiag_meter (e : Ev) (p : PortId) (d : DiagState) : (e.setDiag p d).meter = e.meter := rfl
@[simp] theorem Ev.setDiag_kinds (e : Ev) (p : PortId) (d : DiagState) : (e.setDiag p d).kinds = e.kinds := rfl
@[simp] theorem Ev.setDiag_breaks (e : Ev) (p : PortId) (d : DiagState) : (e.setDiag p d).breaks = e.breaks := rfl
@[simp] theorem Ev.setDiag_link (e : Ev) (p : PortId) (d : DiagState) : (e.setDiag p d).link = e.link := rfl
@[simp] theorem Ev.setDiag_pending (e : Ev) (p : PortId) (d : DiagState) : (e.setDiag p d).pending = e.pending := rfl
@[simp] theorem Ev.setDiag_before (e : Ev) (p : PortId) (d : DiagState) : (e.setDiag p d).before = e.before := rfl
@[simp] theorem Ev.setDiag_offers (e : Ev) (p : PortId) (d : DiagState) : (e.setDiag p d).offers = e.offers := rfl
@[simp] theorem Ev.setDiag_poolOffers (e : Ev) (p : PortId) (d : DiagState) : (e.setDiag p d).poolOffers = e.poolOffers := rfl
@[simp] theorem Ev.setDiag_todo (e : Ev) (p : PortId) (d : DiagState) : (e.setDiag p d).todo = e.todo := rfl

/-! ### What an update changes -/

@[simp] theorem Ev.updPool_pool (e : Ev) (f : Pool → Pool) : (e.updPool f).pool = f e.pool := rfl
@[simp] theorem Ev.updRouter_router (e : Ev) (f : Router → Router) : (e.updRouter f).router = f e.router := rfl
@[simp] theorem Ev.updOutput_output (e : Ev) (f : Output → Output) : (e.updOutput f).output = f e.output := rfl
@[simp] theorem Ev.updMeter_meter (e : Ev) (f : Meter → Meter) : (e.updMeter f).meter = f e.meter := rfl
@[simp] theorem Ev.updBreaks_breaks (e : Ev) (f : Breaks → Breaks) : (e.updBreaks f).breaks = f e.breaks := rfl
@[simp] theorem Ev.updLink_link (e : Ev) (f : Link → Link) : (e.updLink f).link = f e.link := rfl
@[simp] theorem Ev.setRelay_relay (e : Ev) (l : List RelayEntry) : (e.setRelay l).relay = l := rfl
@[simp] theorem Ev.push_todo (e : Ev) (t : Task) : (e.push t).todo = e.todo ++ [t] := rfl
@[simp] theorem Ev.offer_offers (e : Ev) (n : Notice) : (e.offer n).offers = e.offers ++ [.notice n] := rfl
@[simp] theorem Ev.reach_time (e : Ev) (d : Nat) : (e.reach d).time = max e.time d := rfl
@[simp] theorem Ev.updPort_ports (e : Ev) (p : PortId) (f : Port → Port) :
    (e.updPort p f).ports = modifyAt e.ports p f := rfl

/-! ### One entry of a vector changed -/

@[simp] theorem modifyAt_get {α : Type} {n : Nat} (v : Vector α n) (i : Fin n) (f : α → α) :
    (modifyAt v i f).get i = f (v.get i) := by
  simp [modifyAt, Vector.get_eq_getElem]

theorem modifyAt_get_other {α : Type} {n : Nat} (v : Vector α n) (i j : Fin n) (f : α → α) (h : j ≠ i) :
    (modifyAt v i f).get j = v.get j := by
  have : i.val ≠ j.val := fun k => h (Fin.ext k.symm)
  simp [modifyAt, Vector.get_eq_getElem, this]

@[simp] theorem modifyAt_twice {α : Type} {n : Nat} (v : Vector α n) (i : Fin n) (f g : α → α) :
    modifyAt (modifyAt v i f) i g = modifyAt v i fun x => g (f x) := by
  simp [modifyAt, Vector.get_eq_getElem]

/-- Two changes of one entry agree when they agree on the entry. -/
theorem modifyAt_congr {α : Type} {n : Nat} (v : Vector α n) (i : Fin n) {f g : α → α} (h : f (v.get i) = g (v.get i)) :
    modifyAt v i f = modifyAt v i g := by
  simp [modifyAt, h]

/-- A change that leaves the entry leaves the vector. -/
theorem modifyAt_same {α : Type} {n : Nat} (v : Vector α n) (i : Fin n) {f : α → α} (h : f (v.get i) = v.get i) :
    modifyAt v i f = v := by
  rw [modifyAt_congr v i (g := id) h]
  simp [modifyAt, Vector.get_eq_getElem]

/-! ### Port columns -/

/-- The column of a port after a change of a port's column. -/
theorem Ev.port_updPort (e : Ev) (p q : PortId) (f : Port → Port) :
    (e.updPort p f).port q = if q = p then f (e.port q) else e.port q := by
  split
  · next h => subst h; simp [State.port]
  · next h => simp [State.port, modifyAt_get_other _ _ _ _ h]

@[simp] theorem Ev.updTether_port (e : Ev) (p : PortId) (f : Tether → Tether) :
    (e.updTether p f).port p = { e.port p with tether := f (e.port p).tether } := by
  simp [Ev.updTether, Ev.port_updPort]

theorem Ev.updTether_port_other (e : Ev) (p q : PortId) (f : Tether → Tether) (h : q ≠ p) : (e.updTether p f).port q = e.port q := by
  simp [Ev.updTether, Ev.port_updPort, h]

@[simp] theorem Ev.updFeed_port (e : Ev) (p : PortId) (f : Feed → Feed) :
    (e.updFeed p f).port p = { e.port p with feed := f (e.port p).feed } := by
  simp [Ev.updFeed, Ev.port_updPort]

theorem Ev.updFeed_port_other (e : Ev) (p q : PortId) (f : Feed → Feed) (h : q ≠ p) : (e.updFeed p f).port q = e.port q := by
  simp [Ev.updFeed, Ev.port_updPort, h]

@[simp] theorem Ev.updFigures_port (e : Ev) (p : PortId) (f : PoolPort → PoolPort) :
    (e.updFigures p f).port p = { e.port p with pool := f (e.port p).pool } := by
  simp [Ev.updFigures, Ev.port_updPort]

theorem Ev.updFigures_port_other (e : Ev) (p q : PortId) (f : PoolPort → PoolPort) (h : q ≠ p) : (e.updFigures p f).port q = e.port q := by
  simp [Ev.updFigures, Ev.port_updPort, h]

@[simp] theorem Ev.updCapture_port (e : Ev) (p : PortId) (f : Capture → Capture) :
    (e.updCapture p f).port p = { e.port p with capture := f (e.port p).capture } := by
  simp [Ev.updCapture, Ev.port_updPort]

theorem Ev.updCapture_port_other (e : Ev) (p q : PortId) (f : Capture → Capture) (h : q ≠ p) : (e.updCapture p f).port q = e.port q := by
  simp [Ev.updCapture, Ev.port_updPort, h]

@[simp] theorem Ev.updLens_port (e : Ev) (p : PortId) (f : Lens → Lens) :
    (e.updLens p f).port p = { e.port p with lens := f (e.port p).lens } := by
  simp [Ev.updLens, Ev.port_updPort]

theorem Ev.updLens_port_other (e : Ev) (p q : PortId) (f : Lens → Lens) (h : q ≠ p) : (e.updLens p f).port q = e.port q := by
  simp [Ev.updLens, Ev.port_updPort, h]

@[simp] theorem Ev.updIngress_port (e : Ev) (p : PortId) (f : Ingress → Ingress) :
    (e.updIngress p f).port p = { e.port p with ingress := f (e.port p).ingress } := by
  simp [Ev.updIngress, Ev.port_updPort]

theorem Ev.updIngress_port_other (e : Ev) (p q : PortId) (f : Ingress → Ingress) (h : q ≠ p) : (e.updIngress p f).port q = e.port q := by
  simp [Ev.updIngress, Ev.port_updPort, h]

@[simp] theorem Ev.updRelay_port (e : Ev) (p : PortId) (f : RelayCounters → RelayCounters) :
    (e.updRelay p f).port p = { e.port p with relay := f (e.port p).relay } := by
  simp [Ev.updRelay, Ev.port_updPort]

theorem Ev.updRelay_port_other (e : Ev) (p q : PortId) (f : RelayCounters → RelayCounters) (h : q ≠ p) : (e.updRelay p f).port q = e.port q := by
  simp [Ev.updRelay, Ev.port_updPort, h]

@[simp] theorem Ev.updCable_port (e : Ev) (p : PortId) (f : Cable → Cable) :
    (e.updCable p f).port p = { e.port p with cable := f (e.port p).cable } := by
  simp [Ev.updCable, Ev.port_updPort]

theorem Ev.updCable_port_other (e : Ev) (p q : PortId) (f : Cable → Cable) (h : q ≠ p) : (e.updCable p f).port q = e.port q := by
  simp [Ev.updCable, Ev.port_updPort, h]

end Sys2Proof.Machine
end

