-- ==== Sys2Proof/Laws/Event.lean ====
section
/-! SUPPORT. What an event, a request and the control link's shared operations can do, each said once: the end of an
event with and without remaining work and notices, the taking of a request, the joining of notices. -/

namespace Sys2Proof.Machine

/-! ### Remaining work -/

/-- With no work left nothing more happens. -/
theorem Ev.settleBy_done (k : Nat) (e : Ev) (h : e.todo = []) : Ev.settleBy k e = e := by
  cases k <;> simp [Ev.settleBy, h]

/-- One piece of work is performed before the rest. -/
theorem Ev.settleBy_cons (k : Nat) (e : Ev) (t : Task) (rest : List Task) (h : e.todo = t :: rest) :
    Ev.settleBy (k + 1) e = Ev.settleBy k (({ e with todo := rest } : Ev).perform t) := by
  simp [Ev.settleBy, h]

/-- An event with no work left ends as it is. -/
theorem Ev.settle_done (e : Ev) (h : e.todo = []) : e.settle = e := Ev.settleBy_done _ e h

/-- An event with one piece of work left, which leaves no more. -/
theorem Ev.settle_one (e : Ev) (t : Task) (h : e.todo = [t])
    (h' : (({ e with todo := [] } : Ev).perform t).todo = []) : e.settle = ({ e with todo := [] } : Ev).perform t := by
  rw [Ev.settle, workBound, Ev.settleBy_cons 511 e t [] h, Ev.settleBy_done _ _ h']

/-- An event with two pieces of work left, neither of which leaves more. -/
theorem Ev.settle_two (e f : Ev) (t u : Task) (h : e.todo = [t, u])
    (hf : ({ e with todo := [u] } : Ev).perform t = f) (h' : f.todo = [u])
    (h'' : (({ f with todo := [] } : Ev).perform u).todo = []) : e.settle = ({ f with todo := [] } : Ev).perform u := by
  rw [Ev.settle, workBound, Ev.settleBy_cons 511 e t [u] h, hf, Ev.settleBy_cons 510 f u [] h', Ev.settleBy_done _ _ h'']

/-! ### The end of an event -/

/-- An event that offers no notice leaves its state. -/
theorem Ev.finish_quiet (e : Ev) (h : e.offers = []) (h' : e.poolOffers = []) : e.finish = e.toState := by
  simp [Ev.finish, Ev.notices, h, h']

/-- The end of an event changes the control link only, and of it what the joining of notices changes. -/
theorem Ev.finish_eq (e : Ev) : e.finish = { e.toState with link := e.notices.foldl Link.join e.link } := rfl

/-- An event without work or notices left is what its action makes of the state. -/
theorem State.event_quiet (s : State) (act : Ev → Ev) (ht : (act s.begin).todo = []) (ho : (act s.begin).offers = [])
    (hp : (act s.begin).poolOffers = []) : s.event act = (act s.begin).toState := by
  rw [State.event, Ev.settle_done _ ht, Ev.finish_quiet _ ho hp]

/-- An event without work left: its action, then its notices. -/
theorem State.event_settled (s : State) (act : Ev → Ev) (ht : (act s.begin).todo = []) :
    s.event act = (act s.begin).finish := by
  rw [State.event, Ev.settle_done _ ht]

/-! ### Running and listening -/

theorem State.running.blocksRun {s : State} (h : s.running) : s.blocksRun = true := by
  obtain ⟨h1, h2 | h2⟩ := h <;> simp [State.blocksRun, h1, h2]

/-- Where the blocks run, a block's event runs. -/
theorem State.blockEvent_running (s : State) (act : Ev → Ev) (h : s.running) : s.blockEvent act = s.event act := by
  simp [State.blockEvent, h.blocksRun]

/-- A listening hub takes every kind of request. -/
theorem State.listens.mayTake {s : State} (h : s.listens) (code : Byte) : s.mayTake code = true := by
  obtain ⟨⟨-, h2⟩, h3⟩ := h
  have h4 : 0 < s.freeReplies := Nat.sub_pos_of_lt h3
  rcases h2 with h2 | h2 <;> simp [State.mayTake, h2, h4]

/-- A listening hub takes a request and carries it out in one event. -/
theorem State.takeRequest_listens (s : State) (code : Byte) (act : Ev → Ev) (h : s.listens) :
    s.takeRequest code act = s.event fun e => act e.countTaken := by
  simp [State.takeRequest, h.1.1, h.mayTake]

/-- A request to the hub as a whole, taken by a listening hub. -/
theorem State.hubRequest_listens (s : State) (code : Byte) (h : ReqHeader) (body : Ev → Ev × Answer) (hs : s.listens) :
    s.hubRequest code h body = s.event fun e => Ev.respond code h (body e.countTaken) := by
  rw [State.hubRequest, State.takeRequest_listens _ _ _ hs]

/-- A request that names a port, taken by a listening hub. -/
theorem State.portRequest_listens (s : State) (code : Byte) (h : ReqHeader) (body : PortId → Ev → Ev × Answer)
    (p : PortId) (hs : s.listens) (hp : portOf h.port = some p) :
    s.portRequest code h body = s.event fun e => Ev.respond code h (body p e.countTaken) := by
  rw [State.portRequest, State.hubRequest_listens _ _ _ _ hs]
  simp only [hp]

/-- A request whose port field names no port, taken by a listening hub. -/
theorem State.portRequest_badPort (s : State) (code : Byte) (h : ReqHeader) (body : PortId → Ev → Ev × Answer)
    (hs : s.listens) (hp : portOf h.port = none) :
    s.portRequest code h body = s.replied code h .badArgument [] := by
  rw [State.portRequest, State.hubRequest_listens _ _ _ _ hs]
  simp only [hp]
  rw [State.event_quiet] <;> rfl

/-! ### Notices (R184) -/

/-- What the joining of a notice can do to the control link: nothing but the queue, the loss flag with the transaction's
note of it, and the counters changes, and the queue stays within 32. -/
theorem Link.join_spec (l : Link) (n : Notice) :
    ((l.join n).notices = l.notices ++ [n] ∧ l.notices.length < 32 ∨ (l.join n).notices = l.notices)
      ∧ (l.join n).opState = l.opState ∧ (l.join n).written = l.written ∧ (l.join n).mask = l.mask
      ∧ (l.join n).frameRejected = l.frameRejected ∧ (l.join n).requestDropped = l.requestDropped
      ∧ (l.join n).failure = l.failure ∧ (l.join n).sdo = l.sdo := by
  unfold Link.join
  split
  · split
    · next h => exact ⟨.inl ⟨rfl, h⟩, rfl, rfl, rfl, rfl, rfl, rfl, rfl⟩
    · exact ⟨.inr rfl, rfl, rfl, rfl, rfl, rfl, rfl, rfl⟩
  · exact ⟨.inr rfl, rfl, rfl, rfl, rfl, rfl, rfl, rfl⟩

/-- The notice queue stays within 32 while notices join. -/
theorem Link.joins_notices_le (l : Link) (ns : List Notice) (h : l.notices.length ≤ 32) :
    (ns.foldl Link.join l).notices.length ≤ 32 := by
  induction ns generalizing l with
  | nil => exact h
  | cons n ns ih =>
    refine ih _ ?_
    obtain ⟨h1 | h1, -⟩ := Link.join_spec l n
    · rw [h1.1, List.length_append]; simp; omega
    · rw [h1]; exact h

/-- The joining of notices leaves the written replies. -/
theorem Link.joins_written (l : Link) (ns : List Notice) : (ns.foldl Link.join l).written = l.written := by
  induction ns generalizing l with
  | nil => rfl
  | cons n ns ih => exact (ih _).trans (Link.join_spec l n).2.2.1

/-- The joining of notices leaves the operating state. -/
theorem Link.joins_opState (l : Link) (ns : List Notice) : (ns.foldl Link.join l).opState = l.opState := by
  induction ns generalizing l with
  | nil => rfl
  | cons n ns ih => exact (ih _).trans (Link.join_spec l n).2.1

/-! ### Timers -/

/-- The expiry of a running timer. -/
theorem Ev.onExpiry_running (e : Ev) (d : Nat) (act : Ev → Ev) : e.onExpiry (some d) act = act (e.reach d) := rfl

/-- A stopped timer has no expiry (Timers, 00). -/
theorem Ev.onExpiry_stopped (e : Ev) (act : Ev → Ev) : e.onExpiry none act = e := rfl

/-! ### Clamping (Refusal and clamping, 00) -/

/-- A clamped value lies in its range. -/
theorem clampTo_range (lo hi v : Nat) (h : lo ≤ hi) : lo ≤ clampTo lo hi v ∧ clampTo lo hi v ≤ hi := by
  unfold clampTo
  split
  · omega
  · split <;> omega

/-- A field keeps its value or takes one in its range. -/
theorem takeField_range (b : Bool) (lo hi new old : Nat) (h : lo ≤ hi) (h' : lo ≤ old ∧ old ≤ hi) :
    lo ≤ (takeField b lo hi new old).1 ∧ (takeField b lo hi new old).1 ≤ hi := by
  cases b
  · exact h'
  · exact clampTo_range lo hi new h

end Sys2Proof.Machine
end

