-- ==== Sys2Proof/Tests/Slice0.lean ====
section
/-! SUPPORT. The model's own tests: the checks of WellFormed refuse ill-formed terms; the worked figures and worked
sequences of the manual, one step each; and for every statement a witness that meets its hypotheses. The expected values
of the tests are the manual's; the section that gives each is named. -/

namespace Sys2Proof.Tests

open Sys2Proof Sys2Proof.Machine

set_option Elab.async false

/-! ## Small states -/

/-- The state after a command; on a stop, the state before it. -/
def after (s : State) (c : Instr) : State :=
  match exec c s with
  | .next t => t
  | .fault _ => s
  | .refused _ => s

/-- A hub in CONFIG with a pool budget, one second after reset. -/
def cfg : State :=
  { State.reset with
    time := 1000000, selfCheck := none, link := { opState := .config }
    pool := { sampleTimer := some 1000500, settings := { budget := 60000 }, sampleMv := 24000 } }

/-- The same hub in RUN. -/
def run : State := { cfg with link := { opState := .run } }

/-- A port FULL with its link UP, no credit due. -/
def fullPort (x : Port) : Port :=
  { x with
    feed := { x.feed with
      power := .full, enabled := true, limit := 695, sampleTimer := some 1000900, fullSessionTimer := some 3000000 }
    pool := { x.pool with
      base := 10177, rUsed := some (571, .learned), estClass := 556, estLens := 667, surchargeAmount := 2078 }
    tether := { x.tether with
      link := .up, session := some ⟨true, true⟩, cameraId := some 7, cameraHeld := 16, lockCheck := some 1000700 }
    cable := { x.cable with driftArmed := true, flexTimer := some 1500000 } }

/-- Port 3 FULL. -/
def full3 : State := run.onPort 3 fullPort

/-- Port 3 FULL, its downstream channel busy. -/
def busy3 : State := full3.onTether 3 fun t => { t with channel := some .wake }

/-- A request of port 3. -/
def h3 : ReqHeader := ⟨0x1234, 3⟩

/-- A packet of the camera, with its CRC-32 (R190, R192). -/
def packet (code a b c : Nat) (payload : List Byte) : List Byte :=
  tetherFrame code a b c payload ++ crc32Bytes (tetherFrame code a b c payload)

/-- A GOOD packet of port 3. -/
def up3 (code a b c : Nat) (payload : List Byte) : Instr := .upstreamPacketEnd 3 .delimiter (packet code a b c payload)

/-- A shot with one echo that begins at a tick. -/
def shot (t1 : Nat) (d : Int) : Samples := List.replicate (t1 - 1) 0 ++ [d, d, d]

/-! ## WellFormed refuses ill-formed terms (R146, R180) -/

theorem test_deviation_above_range : Instr.wellFormed (.liveShotComplete [1001]) = false := by decide

theorem test_deviation_below_range : Instr.wellFormed (.fullMeasurementComplete [] none (some []) (some [0, -1001])) = false := by decide

theorem test_shot_too_long : Instr.wellFormed (.liveShotComplete (List.replicate 4096 0)) = false := by decide +kernel

theorem test_program_too_long :
    Instr.wellFormed (.setProgram h3 0 (List.replicate 49 ⟨0xFF, 1⟩)) = false := by decide

/-! ## Check sequences and frames (R190, 11.5) -/

theorem test_crc16_check : crc16 [0x31, 0x32, 0x33, 0x34, 0x35, 0x36, 0x37, 0x38, 0x39] = 0x29B1 := by decide +kernel

theorem test_crc32_check : crc32 [0x31, 0x32, 0x33, 0x34, 0x35, 0x36, 0x37, 0x38, 0x39] = 0xCBF43926 := by
  decide +kernel

/-- The SET_PRESET of 11.5 on the wire: the length byte, the header and the payload. -/
theorem test_set_preset_on_the_wire :
    (requestFrame (0x50, ⟨0x0102, 1⟩, [0x05, 0x31] ++ be2 2400 ++ be2 0 ++ be2 0 ++ [0, 4, 1])).take 16
      = [0x0F, 0x50, 0x01, 0x02, 0x01, 0x05, 0x31, 0x09, 0x60, 0x00, 0x00, 0x00, 0x00, 0x00, 0x04, 0x01] := by
  decide +kernel

theorem test_set_preset_read_back :
    readRequest (requestFrame (0x50, ⟨0x0102, 1⟩, [0x05, 0x31] ++ be2 2400 ++ be2 0 ++ be2 0 ++ [0, 4, 1]))
      = some (.setPreset ⟨0x0102, 1⟩ ⟨5, 0x31, 2400, 0, 0, 0, 4, 1⟩) := by decide +kernel

/-- SET_PRESET of 11.5: focus and tolerance written, the preset valid, the reply DONE without payload. -/
theorem test_set_preset :
    let t := after cfg (.setPreset ⟨0x0102, 1⟩ ⟨5, 0x31, 2400, 0, 0, 0, 4, 1⟩)
    ((t.port 1).lens.presets.get 5, t.link.written)
      = ({ focus := 2400, tolerance := 4, valid := true }, [⟨0x50, 0x0102, 1, .done, []⟩]) := by decide +kernel

/-! ## Feed figures (2.8, 3.2) -/

theorem test_signature_resistance : roundHalfUp 4000000 266 = 15038 := by decide +kernel

theorem test_probe_valid : judgeProbe 267 533 = .valid := by decide +kernel

theorem test_length_to_resistance : rFromLength {} 247 = 571 := by decide +kernel

theorem test_boot_figure : feedCalculation 3000 24000 18000 571 60000 = .feasible 3016 167 := by decide +kernel

theorem test_class_figure : feedCalculation 10000 24000 18000 571 60000 = .feasible 10177 556 := by decide +kernel

theorem test_lens_figure : feedCalculation 12000 24000 18000 571 60000 = .feasible 12255 667 := by decide +kernel

theorem test_drop_fails : feedCalculation 18000 24000 18000 7700 120000 = .infeasible .drop := by decide +kernel

theorem test_current_limits : (limitOf 167, limitOf 556, limitOf 667) = (209, 695, 834) := by decide +kernel

/-! ## Cable figures (8.3, 8.9, 9.7, 9.8) -/

/-- The timebase of 9.7: p = 125 ps, t0 = 36. -/
def tb36 : Timebase := { t0 := 36, valid := true, everCompleted := true }

theorem test_tick_of_calibration : (roundHalfUp 160000 1280, roundHalfUp 160000 1275) = (125, 125) := by decide +kernel

theorem test_distances :
    ((distanceOf 236 tb36 660).1, (distanceOf 158 tb36 660).1, (distanceOf 171 tb36 660).1, (distanceOf 170 tb36 660).1,
      (distanceOf 300 tb36 660).1, (distanceOf 236 {} 660).1) = (247, 151, 167, 166, 326, 292) := by decide +kernel

/-- The four shots of 8.9: median 158, negative, amplitude -505, 151 cm, three echoing. -/
theorem test_shots_combined :
    combineShots ([shot 158 (-512), shot 160 (-498), [], shot 157 (-505)].map fullShot) tb36 660
      = { echo := some (⟨158, .negative, -505⟩, 151, false), echoing := 3, uncalibrated := false } := by decide +kernel

/-- The four-echo variation of 8.9: the middle two give 159; two against two, the polarity of t1 = 157. -/
theorem test_four_echoes :
    ((combineShots ([shot 158 300, shot 163 300, shot 157 (-300), shot 160 (-300)].map fullShot) tb36 660).echo.map fun x =>
      (x.1.t1, x.1.polarity)) = some (159, .negative) := by decide +kernel

/-! ## From reset to CONFIG and RUN (10.3) -/

theorem test_hard_reset : (after run .hardReset).nreset = true ∧ (after run .hardReset).link.opState = .init := by
  decide +kernel

theorem test_nreset_release : (after (after run .hardReset) .nresetRelease).selfCheck = some 5000 := by decide +kernel

theorem test_self_check_pass : (after State.reset .selfCheckPass).link.opState = .config := by decide +kernel

theorem test_self_check_failure :
    ((after State.reset .selfCheckFailure).link.opState, (after State.reset .selfCheckFailure).link.failure)
      = (.halted, true) := by decide +kernel

theorem test_enter_run : (after cfg (.enterRun h3)).link.opState = .run := by decide +kernel

theorem test_enter_run_without_budget :
    (after { cfg with pool := {} } (.enterRun h3)).link.written = [⟨0x03, 0x1234, 3, .badConfig, []⟩] := by decide +kernel

/-! ## From probe to full power (2.8), retries to lockout (2.9) -/

/-- A learned cable of 247 cm (3.2). -/
def learned (x : Port) : Port :=
  { x with cable := { x.cable with echoBase := some ⟨236, .positive, 500, 247, false, false⟩ } }

/-- Port 3 in a power state, on the learned cable, with a lens power of 2000 mW. -/
def powered (w : PowerState) (l : LinkState) (base : Nat) : State :=
  run.onPort 3 fun x => learned { x with
    feed := { x.feed with
      power := w, enabled := true, settings := { x.feed.settings with lensPower := 2000 }
      probeTimer := some 1000777, inrushTimer := some 1050000, bootLimitEstimate := 167, backoffTimer := some 1000888 }
    tether := { x.tether with link := l, session := some ⟨false, true⟩, channel := some .wake }
    pool := { x.pool with base := base, rUsed := some (571, .learned) } }

theorem test_port_enable : ((after run (.portEnable h3)).port 3).feed.power = .probing := by decide +kernel

theorem test_probe :
    let x := (after (powered .probing .down 0) (.probeTimerExpiry 3 267 533)).port 3
    (x.feed.power, x.pool.base, x.feed.limit, x.tether.link) = (.boot, 3016, 1500, .waking) := by decide +kernel

theorem test_inrush : ((after (powered .boot .up 3016) (.inrushTimerExpiry 3)).port 3).feed.limit = 209 := by
  decide +kernel

theorem test_hello :
    let x := (after (powered .boot .up 3016) (up3 0x10 3 0 1 [0, 0, 0, 9])).port 3
    (x.feed.power, x.pool.base, x.pool.surcharge, x.feed.limit, x.lens.state) = (.full, 10177, 2078, 834, .homing) := by
  decide +kernel

/-- Port 3 FULL with a homing lens and its surcharge. -/
def homing3 : State :=
  busy3.onPort 3 fun x => { x with
    pool := { x.pool with surcharge := 2078 }
    lens := { x.lens with
      kind := .focus, state := .homing
      move := some { kind := .home, origin := .autoHome, target := none, downTag := some 5, admitted := true } }
    tether := { x.tether with outstanding := [⟨5, .lensHome, 6000000⟩] } }

theorem test_home_answer :
    let x := (after homing3 (up3 0x12 5 0 0 [0, 0, 0, 0, 0, 0, 0, 0, 0, 0])).port 3
    (x.pool.base, x.pool.surcharge, x.feed.limit, x.lens.state) = (10177, 0, 695, .idle) := by decide +kernel

/-- Port 3 FULL with a retry count and one sample above the limit, its reactions all RETRY. -/
def retry3 (k : Nat) : State :=
  busy3.onPort 3 fun x => { x with
    feed := { x.feed with retry := k, overCount := 1 }, cable := { x.cable with reactions := Vector.replicate 14 .retry } }

theorem test_second_retry :
    let x := (after (retry3 1) (.sampleTimerExpiry 3 700)).port 3
    (x.feed.power, x.feed.retry, x.feed.backoffTimer) = (.backoff, 2, some (1000900 + 2000000)) := by decide +kernel

theorem test_fourth_retry_locks_out :
    let x := (after (retry3 3) (.sampleTimerExpiry 3 700)).port 3
    (x.feed.power, x.feed.retry) = (.lockedOut, 3) := by decide +kernel

theorem test_backoff : ((after (powered .backoff .down 0) (.backoffTimerExpiry 3)).port 3).feed.power = .probing := by
  decide +kernel

theorem test_release :
    let x := (after (run.onFeed 3 fun f => { f with power := .lockedOut, retry := 3 }) (.portRelease h3)).port 3
    (x.feed.power, x.feed.retry) = (.probing, 0) := by decide +kernel

theorem test_full_session :
    ((after (full3.onFeed 3 fun f => { f with retry := 2 }) (.fullSessionTimerExpiry 3)).port 3).feed.retry = 0 := by
  decide +kernel

/-! ## Bring-up, credits and frames (1.8, 6.9) -/

/-- Port 3 in bring-up with marks and good windows. -/
def bringUp (l : LinkState) (marks good : Nat) : State :=
  (powered .boot l 3016).onTether 3 fun t => { t with
    lockCheck := some 1000700, wakeTimer := some 1500000, marks := marks, goodWindows := good, channel := none
    session := some ⟨false, false⟩ }

theorem test_wake_sent : ((after (bringUp .waking 0 0) (.lockCheckExpiry 3)).port 3).tether.channel = some .wake := by
  decide +kernel

theorem test_third_good_window :
    let t := ((after (bringUp .locking 12 2) (.lockCheckExpiry 3)).port 3).tether
    (t.link, t.wakeTimer, t.helloTimer, t.channel, t.cameraHeld, t.unreturned)
      = (.up, none, some 1200700, some (.credit 16), 16, 0) := by decide +kernel

/-- The credits of 1.8 after (c): occupied 2, camera-held 12, unreturned 2. -/
def credits (held unreturned : Nat) : State :=
  full3.onPort 3 fun x => { x with
    tether := { x.tether with occupied := 2, cameraHeld := held, unreturned := unreturned }
    ingress := { x.ingress with
      queue := List.replicate 2 ⟨false, { kind := .line, frame := 7, sequence := 1, damaged := false, payload := [1] }⟩
      ingressCount := 2, expected := 4
      record := .openFrame
        { number := 7, trigger := some (40, .trig0), step := .index 0, preset := some 4, flags := {}, held := none
          exposureUsed := 100, start := 5000, received := 3, lost := 0, damaged := 0 } } }

/-- Occupied, camera-held and unreturned of port 3. -/
def counts (s : State) : Nat × Nat × Nat :=
  ((s.port 3).tether.occupied, (s.port 3).tether.cameraHeld, (s.port 3).tether.unreturned)

theorem test_damaged_line_is_charged :
    counts (after (credits 12 2) (.upstreamPacketEnd 3 .delimiter (tetherFrame 0x21 4 7 0 [9] ++ [1, 2, 3, 4])))
      = (2, 11, 3) := by decide +kernel

/-- The output port sends the head of port 3. -/
def sending3 (s : State) : State :=
  { s with output := { s.output with
      sending := some
        { port := 3, reserve := false, egress := 0, flushed := false
          packet := { kind := .line, frame := 7, sequence := 1, damaged := false, payload := [1] } } } }

theorem test_fourth_unreturned_starts_credit :
    let t := after (sending3 (credits 11 3)) .transmissionComplete
    (counts t, (t.port 3).tether.channel) = ((1, 15, 0), some (.credit 4)) := by decide +kernel

theorem test_lock_loss :
    let t := after (credits 12 2) (.lockCheckExpiry 3)
    (counts t, (t.port 3).tether.link, (t.port 3).ingress.record, (t.port 3).tether.relockTimer)
      = ((2, 0, 2), .locking, .empty, some 1200700) := by decide +kernel

/-- The truncated trailer of 6.9 (f), in the bytes of R192: frame 7, tag 40, step 0, preset 4, no positions. -/
theorem test_truncated_trailer :
    ((after (credits 12 2) (.lockCheckExpiry 3)).port 3).ingress.queue.getLast?.map (fun x => (x.reserve, x.packet.payload))
      = some (true, [0, 7, 0, 40, 0, 4, 255, 255, 255, 255, 255, 255, 0, 0, 0, 100, 0, 3, 0, 0, 0, 0, 1, 0, 0, 39, 193, 0,
          0, 19, 136]) := by decide +kernel

/-- An image packet without a credit is OVERRUN, with a good CRC and with a bad one (R18, R112). -/
theorem test_overrun_while_locking :
    [packet 0x21 4 7 0 [9], tetherFrame 0x21 4 7 0 [9] ++ [1, 2, 3, 4]].map (fun bytes =>
      let x := (after ((credits 0 2).onTether 3 fun t => { t with link := .locking }) (.upstreamPacketEnd 3 .delimiter bytes)).port 3
      (x.tether.counters.overrun, x.tether.counters.crcBad, x.tether.marks, x.tether.occupied))
      = [(1, 0, 1, 2), (1, 0, 1, 2)] := by decide +kernel

theorem test_gap_counts_lost_lines :
    (match ((after (credits 12 2) (up3 0x21 6 7 0 [9])).port 3).ingress.record with
      | .openFrame f => some (f.received, f.lost)
      | _ => none) = some (4, 2) := by decide +kernel

theorem test_frame_start_truncates_and_opens :
    let x := ((after (credits 12 2) (up3 0x20 0 8 50 [0, 0, 0, 1])).port 3)
    (x.ingress.counters.truncated, x.ingress.counters.opened, x.capture.counters.untriggered, x.ingress.expected)
      = (1, 1, 1, 1) := by decide +kernel

/-! ## The pool (3.6) -/

/-- The pool of 3.6 after (e): ports 0 and 1 FULL, port 2 in FULL_WAIT, port 5 in BOOT_WAIT. -/
def pool36 : State :=
  let put (p : PortId) (w : PowerState) (priority base : Nat) (s : State) : State := s.onPort p fun x => { x with
    feed := { x.feed with power := w, settings := { x.feed.settings with priority := priority } }
    pool := { x.pool with base := base, estClass := 556, bootEstimate := 167 }
    tether := { x.tether with link := if base = 0 then .down else .up, channel := some .wake } }
  { put 5 .bootWait 0 0 (put 2 .fullWait 3 3016 (put 1 .full 1 10177 (put 0 .full 1 10177 run))) with
    pool := { run.pool with
      settings := { budget := 28000 }, admitted := [2, 0, 1], lowCount := 4
      queue := [⟨2, .full, 7161, 3, 3⟩, ⟨5, .boot, 3016, 0, 4⟩], stamp := 5 } }

/-- The arrival stamp counter stops at its maximum (00, Counters and tags), and arrival still orders the queue. -/
theorem test_stamp_counter_stops :
    let q := (({ stamp := 4294967295 } : Pool).join 6 .boot 3016 1).join 2 .boot 3016 1
    (q.stamp, q.queue.map AdmissionEntry.port) = (4294967295, [6, 2]) := by decide

theorem test_blocked_head : after pool36 .admission = pool36 := by decide +kernel

theorem test_derate_sheds_and_serves :
    let t := after pool36 (.poolSample 21000)
    (t.pool.admitted, t.allocationSum, t.pool.effectiveBudget, t.pool.queue.map AdmissionEntry.port,
        (t.port 1).feed.power, (t.port 2).feed.power) = ([0, 2], 20354, 21000, [5], .shed, .full) := by decide +kernel

theorem test_derate_ends :
    let s := after pool36 (.poolSample 21000)
    let t := after { s with pool := { s.pool with recoveryCount := 99 } } (.poolSample 22000)
    (t.pool.admitted, t.allocationSum, t.pool.queue, (t.port 1).feed.power, (t.port 5).feed.power)
      = ([0, 2, 5], 23370, [], .probing, .boot) := by decide +kernel

theorem test_kill :
    let t := after pool36 (.poolSample 18000)
    (t.pool.feedEnable, t.allocationSum, t.pool.queue, [0, 1, 2, 5].map fun p => (t.port p).feed.power)
      = (false, 0, [], [.poolHalt, .poolHalt, .poolHalt, .poolHalt]) := by decide +kernel

theorem test_feed_restore :
    let s := after pool36 (.poolSample 18000)
    let t := after { s with pool := { s.pool with sampleMv := 23000 } } (.feedRestore h3)
    (t.pool.feedEnable, [0, 1, 2, 5].map fun p => (t.port p).feed.power)
      = (true, [.probing, .probing, .probing, .probing]) := by decide +kernel

/-! ## Triggers and the lens (4.6, 5.8) -/

/-- A focus plane of 4.6: a settle time of 5 ms. -/
def plane (focus : Nat) : Preset := { focus := focus, settle := 5, valid := true }

/-- Port 3 of 4.6: program A, the lens IDLE at preset 4, TRIG0 rising with a holdoff of 1000 microseconds. -/
def stack3 : State :=
  { full3.onPort 3 (fun x => { x with
      capture := { x.capture with program := [⟨some 4, 3000⟩, ⟨some 5, 3000⟩, ⟨some 6, 3000⟩, ⟨some 7, 3000⟩] }
      lens := { x.lens with
        kind := .focus, state := .idle, held := some ⟨400, none, none⟩
        presets := (((x.lens.presets.set 4 (plane 400)).set 5 (plane 500)).set 6 (plane 600)).set 7 (plane 700) } }) with
    router := { run.router with
      pins := run.router.pins.set 0 { edge := .rising, holdoff := 1000 }, map := run.router.map.set 0 8
      tagCounter := 40 } }

theorem test_edge_is_dispatched :
    let t := after stack3 (.triggerPinEdge 0 true)
    ((t.port 3).capture.exposure.map (fun x => (x.tag, x.deadline)), (t.port 3).capture.cursor, (t.router.pins.get 0).timer,
        t.router.tagCounter) = (some (40, 1053000), 1, some 1001000, 41) := by decide +kernel

theorem test_invalid_preset_is_taken_as_none :
    let s := stack3.onLens 3 fun l => { l with presets := l.presets.set 4 { plane 400 with valid := false } }
    ((after s (.triggerPinEdge 0 true)).port 3).capture.exposure.map (fun x => (x.step, x.preset, x.invalid))
      = some (.index 0, none, true) := by decide +kernel

theorem test_edge_in_holdoff_is_suppressed :
    let t := after (after stack3 (.triggerPinEdge 0 true)) (.triggerPinEdge 0 true)
    ((t.router.counters.get 0).suppressed, t.router.tagCounter) = (1, 41) := by decide +kernel

/-- Port 3 of 4.6 at 2.0: exposure 40 open, the cursor at 1. -/
def open3 : State :=
  { stack3.onCapture 3 (fun c => { c with
      cursor := 1
      exposure := some
        { tag := 40, source := .trig0, step := .index 0, preset := some 4, invalid := false, unreferenced := false
          exposure := 3000, dispatch := 1000000, deadline := 1053000 } }) with
    router := { stack3.router with tagCounter := 41 } }

theorem test_waiting_head_wants_its_preset :
    let x := (after open3 (.triggerPinEdge 0 true)).port 3
    (x.capture.queue.map (fun e => (e.tag, e.step, e.stale)), x.lens.state, x.lens.want, x.pool.surcharge)
      = ([(41, .index 1, some 1100000)], .moveWait, some 5, 2078) := by decide +kernel

theorem test_frame_start_lets_the_move_go :
    let x := (after (after open3 (.triggerPinEdge 0 true)) (up3 0x20 0 1 40 [0, 0, 0, 9])).port 3
    (x.capture.exposure, x.lens.state, x.tether.channel)
      = (none, .moving, some (.packet (.lensMove 0 ⟨500, none, none⟩))) := by decide +kernel

theorem test_stale_head_is_dropped :
    let x := (after (after open3 (.triggerPinEdge 0 true)) (.staleTimerExpiry 3)).port 3
    (x.capture.queue, x.lens.state, x.lens.want, x.capture.counters.stale, x.lens.counters.abandoned)
      = ([], .idle, none, 1, 1) := by decide +kernel

/-- Port 3 of 5.8 at 1320: a move toward preset 2 (focus 1800, iris 64, tolerance 8) at an attempt. -/
def moving3 (attempt : Nat) : State :=
  full3.onPort 3 fun x => { x with
    lens := { x.lens with
      kind := .focusIris, state := .moving, want := some 2, presets := x.lens.presets.set 2 ⟨1800, 64, 500, 10, 8, true⟩
      move := some
        { kind := .move, origin := .queue, target := some 2, attempt := attempt, downTag := some 12, admitted := true
          captured := some (⟨1800, some 64, none⟩, 10) } }
    tether := { x.tether with outstanding := [⟨12, .lensMove, 3000000⟩], downTag := 13 } }

/-- An answer to tag 12 with a focus and an iris. -/
def answer12 (focus iris : Nat) : Instr := up3 0x12 12 0 0 ([0, 0, 0, 0] ++ be2 focus ++ be2 iris ++ [0, 0])

theorem test_off_target_answer :
    let x := (after (moving3 1) (answer12 1789 64)).port 3
    (x.lens.state, x.lens.held, [x.lens.counters.offTarget, x.lens.counters.moves], x.lens.move.map fun m => (m.attempt, m.downTag))
      = (.moving, some ⟨1789, some 64, none⟩, [1, 1], some (2, some 13)) := by decide +kernel

theorem test_second_miss_stalls :
    let x := (after (moving3 2) (answer12 1810 64)).port 3
    (x.lens.state, x.lens.held, x.feed.hold) = (.stalled, some ⟨1810, some 64, none⟩, true) := by decide +kernel

theorem test_on_target_answer_settles :
    let x := (after (moving3 2) (answer12 1796 64)).port 3
    (x.lens.state, x.lens.lastTarget, x.lens.settleTimer) = (.settling, some 2, some 1010000) := by decide +kernel

/-- R193: the deadline left of a lens packet that is out, and none in SETTLING, whatever bears its down tag by then. -/
theorem test_deadline_left_is_the_lens_packets :
    let settling := (after (moving3 2) (answer12 1796 64)).onTether 3 fun t => { t with outstanding := [⟨12, .camRead, 1100000⟩] }
    (((moving3 2).port 3).moveLeft 1000000, (settling.port 3).lens.state, (settling.port 3).moveLeft 1000000)
      = ([0x07, 0xD0], .settling, [0xFF, 0xFF]) := by decide +kernel

/-! ## Arbitration and camera access (7.6, 7.7) -/

/-- The queues of 7.6: ports 0 and 4 in HIGH, ports 1, 2 and 6 in LOW. -/
def arbitration (high : Fin 9) (low : Fin 8) (ports : List PortId) : State :=
  { run with
    output := { highPtr := high, lowPtr := low }
    ports := Vector.ofFn fun p => { run.port p with
      feed := { (run.port p).feed with
        settings := { (run.port p).feed.settings with outputGroup := if p = 0 ∨ p = 4 then .high else .low } }
      ingress := { (run.port p).ingress with
        queue := if p ∈ ports then
          [⟨true, { kind := .line, frame := 1, sequence := 1, damaged := false, payload := [1] }⟩] else [] } } }

/-- The port granted and the pointers after a pick. -/
def pick (s : State) : Option PortId × Fin 9 × Fin 8 :=
  let t := after s .transmissionStart
  (t.output.sending.map Transmission.port, t.output.highPtr, t.output.lowPtr)

theorem test_arbitration_picks :
    [pick (arbitration 8 7 [0, 1, 2, 4, 6]), pick (arbitration 0 7 [0, 1, 2, 4, 6]), pick (arbitration 4 7 [0, 1, 2, 4, 6]),
        pick (arbitration 0 1 [0, 1, 2, 6]), pick (arbitration 0 2 [1, 2, 6]), pick (arbitration 8 6 [1, 2, 4, 6])]
      = [(some 0, 0, 7), (some 4, 4, 7), (some 1, 8, 1), (some 2, 8, 2), (some 6, 8, 6), (some 4, 4, 6)] := by
  decide +kernel

/-- A relay entry of port 3. -/
def entry (tag : Byte) (stage : RelayStage) : RelayEntry :=
  { port := 3, hostTag := 17, portField := 3, kind := .read, param := 310, value := 0, downTag := tag, stage := stage }

/-- Port 3 of 7.7 with a relay entry; 902 packets placed, 896 gone. -/
def relay3 (r : RelayEntry) : State :=
  { busy3.onPort 3 (fun x => { x with
      ingress := { x.ingress with ingressCount := 902, egressCount := 896 }
      tether := { x.tether with outstanding := [⟨33, .camRead, 1100000⟩] } }) with relay := [r] }

theorem test_answer_is_held :
    (after (relay3 (entry 33 .sent)) (up3 0x12 33 0 0 (be4 1250))).relay = [entry 33 (.held 0 1250 902 false)] := by
  decide +kernel

theorem test_access_times_out :
    (after (relay3 (entry 33 .sent)) (.answerDeadlineExpiry 3 33)).link.written.map Reply.status = [.timeout] := by
  decide +kernel

theorem test_watermark_releases_the_reply :
    let s := (relay3 (entry 33 (.held 0 1250 902 false))).onPort 3 fun x =>
      { x with ingress := { x.ingress with egressCount := 902 } }
    (after s (.watermarkReached 3)).link.written
      = [⟨0x60, 17, 3, .done, [0, 1, 54, 0, 0, 0, 4, 226, 0]⟩] := by decide +kernel

theorem test_cam_access_is_sent :
    ((after full3 (.camAccess h3 ⟨0, 310, 0⟩)).port 3).tether.channel = some (.packet (.camRead 0 310)) := by
  decide +kernel

/-! ## Resistance, diagnosis and flexing (8.9, 8.10, 9.7, 9.8) -/

/-- Port 3 of 8.10 with R_f and a baseline, its current 1000 mA. -/
def filter3 (r : Nat) : State :=
  busy3.onPort 3 fun x => { x with
    feed := { x.feed with lastSample := 1000 }
    cable := { x.cable with resistanceCount := 8, resistanceSum := 5186, filtered := some r, resistanceBase := some 648 } }

theorem test_filter_steps :
    [(648, 23300), (654, 23400), (648, 23347), (648, 24500)].map
        (fun x => ((after (filter3 x.1) (up3 0x11 0 x.2 0 [0, 0, 0, 0, 0, 0])).port 3).cable.filtered)
      = [some 654, some 648, some 648, some 567] := by decide +kernel

/-- Port 3 in a diagnosis, measuring, with the timebase of 8.9. -/
def measured (u : Purpose) (w : PowerState) (b : Option EchoBase) : State :=
  { run.onPort 3 (fun x => { x with
      feed := { x.feed with power := w }, tether := { x.tether with link := .quiet }
      cable := { x.cable with echoBase := b, diag := .measuring } }) with
    meter := { holder := some (.full 3 true false [], 1000999), timebase := tb36 }
    breaks := { queue := [⟨3, u, 4⟩] } }

theorem test_short_locks_out :
    let t := after (measured (.reaction .portOvercurrent) .diagnosing (some ⟨236, .positive, 500, 247, false, false⟩))
      (.fullMeasurementComplete (shot 158 (-512)) (some (shot 160 (-498))) (some []) (some (shot 157 (-505))))
    ((t.port 3).feed.power, (t.port 3).cable.latest.map fun f => (f.kind, f.distance, f.source))
      = (.lockedOut, some (.short, some 151, .diagnosis)) := by decide +kernel

/-- The results of the shots are held one by one, each 1 ms after the one before (R143, R145). -/
theorem test_shots_are_held :
    let s := after (measured .host .disabled none) (.fullMeasurementComplete (shot 158 (-512)) none none none)
    (s.meter.holder, s.time)
      = (some (.full 3 true false [some ⟨158, .negative, -512⟩], 1000999), 1000000) := by decide +kernel

theorem test_unjudged_without_baseline :
    let t := after (measured .host .disabled none)
      (.fullMeasurementComplete (shot 300 512) (some (shot 300 498)) (some (shot 300 505)) (some (shot 300 505)))
    ((t.port 3).feed.power, (t.port 3).cable.latest.map fun f => (f.kind, f.distance, f.flags))
      = (.disabled, some (.unjudged, some 326, { noBaseline := true })) := by decide +kernel

theorem test_calibration :
    let s := { run with meter := { holder := some (.calibration, 1000999) } }
    let x := (after s (.calibrationComplete 1280 36)).meter.timebase
    (x.p, x.t0, x.valid, x.ageTimer) = (125, 36, true, some 61000999) := by decide +kernel

/-- Port 3 of 9.7 at the end of its window: two lock losses, a count of CRC_BAD packets, the nearest echo at 171. -/
def flex3 (crc : Nat) : State :=
  full3.onCable 3 fun c => { c with flex :=
    { lockLosses := 2, crcBad := crc, taken := 6, echoing := 4, nearest := some ⟨171, 167, .positive, false, false⟩ } }

/-- R168 and R43 with the default reactions: CAMERA_UNDERVOLT cuts the feed, and NO_LOAD of the same STATUS still places
the locked out port in the diagnosis queue. -/
theorem test_second_fault_of_a_status_is_queued :
    let s := busy3.onFeed 3 fun f => { f with lastSample := 5, underVolt := { count := 2 }, noLoad := { count := 2 } }
    let t := after s (up3 0x11 0 17000 0 [0, 0, 0, 0, 0, 0])
    ((t.port 3).feed.power, (t.port 3).tether.link, t.breaks.queue.map fun x => (x.port, x.purpose))
      = (.lockedOut, .quiet, [(3, .reaction .noLoad)]) := by decide +kernel

/-- R168: both notices bear the power state FULL and the retry count 0 in which the faults arose, though the reaction to
the first, RETRY, has raised the count and left BACKOFF by the time the second is taken. -/
theorem test_second_fault_bears_the_state_it_arose_in :
    let s := (busy3.onFeed 3 fun f =>
        { f with lastSample := 5, underVolt := { count := 2 }, noLoad := { count := 2 } }).onCable 3 fun c =>
      { c with reactions := c.reactions.set FaultKind.cameraUndervolt.index .retry }
    (after s (up3 0x11 0 17000 0 [0, 0, 0, 0, 0, 0])).link.notices.filterMap (fun n =>
        match n with | .fault p k r w i _ => some (p, k, r, w, i) | _ => none)
      = [(3, .cameraUndervolt, .retry, .full, 0), (3, .noLoad, .diagnose, .full, 0)] := by decide +kernel

theorem test_flex_window_over_threshold :
    let t := after (flex3 5) (.flexWindowExpiry 3)
    ((t.port 3).cable.latest.map (fun f => (f.kind, f.distance, f.source, f.repeats)), (t.port 3).feed.power)
      = (some (.intermittent, some 167, .flex, 1), .full) := by decide +kernel

theorem test_flex_window_below_threshold : ((after (flex3 3) (.flexWindowExpiry 3)).port 3).cable.latest = none := by
  decide +kernel

theorem test_diagnose_waits_behind_the_head :
    let s : State := { run with breaks := { queue := [⟨4, .reaction .portOvercurrent, 0⟩] } }
    let t := after s (.diagnose h3 0)
    ((t.port 3).cable.diag, (t.port 3).tether.link, (t.port 3).feed.power, t.breaks.queue.map DiagEntry.port)
      = (.queued, .quiet, .disabled, [4, 3]) := by decide +kernel

theorem test_port_disable_aborts_a_measurement :
    let t := after (measured .host .diagnosing none) (.portDisable h3)
    ((t.port 3).feed.power, (t.port 3).cable.diag, (t.port 3).tether.link, t.breaks.queue, t.meter.counters.fullCut)
      = (.disabled, .clear, .down, [], 1) := by decide +kernel

/-- R29: the POWER_CHANGE of a cut goes ahead of the LINK_CHANGE and the LENS_CHANGE. -/
theorem test_port_disable_tells_power_first :
    (after stack3 (.portDisable h3)).link.notices.map (fun n => n.kindIndex.val) = [0, 1, 2] := by decide +kernel

/-! ## Transactions (10.5) -/

/-- The hub of 10.5 with a written reply and a transaction in progress. -/
def transacting (x : Chosen) : State :=
  { run with link := { run.link with
      written := [⟨0x35, 31, 2, .done, [1]⟩]
      transaction := some
        { status := 0x80, chosen := x, frame := Reply.frame ⟨0x35, 31, 2, .done, [1]⟩, clearRejected := false
          clearDropped := false, clearLost := false } } }

theorem test_cut_off_frame_stays :
    let l := (after (transacting .reply) (.transactionEnd (List.replicate 9 0))).link
    (l.written.length, l.counters.resent) = (1, 1) := by decide +kernel

theorem test_rejected_frame :
    let l := (after (transacting .reply) (.transactionEnd [4, 0, 0, 0, 0, 1, 2, 0, 0, 0, 0])).link
    (l.written, l.frameRejected, l.counters.crcBad) = ([], true, 1) := by decide +kernel

theorem test_status_reports_the_rejected_flag :
    (after { run with link := { run.link with frameRejected := true } } .transactionStart).link.transaction.map
      (fun x => (x.status, x.chosen, x.clearRejected)) = some (0xA0, .idle, true) := by decide +kernel

/-- Every reply to a CAM_ACCESS carries its nine bytes, one of a wrong length too (R191). -/
theorem test_short_access_is_answered_in_nine_bytes :
    (after { run with link := { run.link with transaction := some { status := 0x80, chosen := .idle, frame := []
                                                                    clearRejected := false, clearDropped := false
                                                                    clearLost := false } } }
        (.transactionEnd (requestFrame (0x60, h3, [1, 0x0A, 0x0B])))).link.written
      = [⟨0x60, 0x1234, 3, .badRequest, [1, 0x0A, 0x0B, 0, 0, 0, 0, 0, 0]⟩] := by decide +kernel

/-- A position takes two bytes, the iris (0 to 255) and an answer code one (R104, R190, R194). -/
theorem test_lens_change_payload :
    (Notice.lensChange 3 .moving .stalled .stall none (some ⟨0x0123, some 64, none⟩) (some 7)).payload.drop 6
      = [0x01, 0x23, 64, 0xFF, 0xFF, 7] := by decide +kernel

/-! ## Witnesses: for every statement, states and operands that meet its hypotheses, clause by clause -/

/-- A transaction in progress with a frame of eight bytes from a queue. -/
def inProgress (x : Chosen) : Transaction :=
  { status := 0x80, chosen := x, frame := Reply.frame ⟨0x35, 31, 2, .done, [1]⟩, clearRejected := false
    clearDropped := false, clearLost := false }

/-- A hub in HALTED. -/
def halted : State := { State.reset with link := { opState := .halted, failure := true } }

/-- A hub whose eight reply entries are taken. -/
def crowded : State := { run with link := { run.link with written := List.replicate 8 ⟨0x03, 1, 0xFF, .done, []⟩ } }

/-- A notice. -/
def notice : Notice := .linkChange 3 .down .waking 5

/-- A link with so many notices queued. -/
def queued (n : Nat) : Link := { opState := .run, notices := List.replicate n notice }

/-- Fields of SET_PORT with a mask. -/
def portFields (mask : Half) : SetPortFields := ⟨mask, 3, 7, 9999, 9000, 5000, 7, 1, 1, 255, 100, 1000000, 10000, 1⟩

theorem witness_StepRunsTheFrontCommand :
    ({ cfg with pending := [.beacon 3] } : State).pending = [.beacon 3] ∧ cfg.pending = [] := ⟨rfl, rfl⟩

theorem witness_ResetAndSelfCheck :
    (State.hardReset false []).nreset = true ∧ State.reset.nreset = false ∧ State.reset.link.opState = .init
      ∧ State.reset.selfCheck = some 5000 := by decide

theorem witness_TransactionStartChoosesTheFrame :
    (cfg.nreset = false ∧ cfg.link.transaction = none ∧ cfg.link.written = [] ∧ cfg.link.notices = [])
      ∧ (crowded.nreset = false ∧ crowded.link.transaction = none ∧ ∃ r rest, crowded.link.written = r :: rest)
      ∧ ∃ rest, (queued 32).transaction = none ∧ (queued 32).written = [] ∧ (queued 32).notices = notice :: rest :=
  ⟨⟨rfl, rfl, rfl, rfl⟩, ⟨rfl, rfl, _, _, rfl⟩, _, rfl, rfl, rfl⟩

theorem witness_TransactionEndSettlesTheFrame :
    (∀ c ∈ [Chosen.reply, .notice, .idle],
      ({ run with link := { run.link with transaction := some (inProgress c) } } : State).link.transaction
        = some (inProgress c))
      ∧ (inProgress .reply).frame.length = 9 ∧ (inProgress .notice).chosen ≠ .idle
      ∧ ∀ sdi ∈ [[], [0#8], List.replicate 9 0, List.replicate 10 0], ∀ n ∈ sdi.head?, n = 0 := by decide +kernel

theorem witness_BadRequestFramesAreRejected :
    250 < (251#8).toNat
      ∧ (1 ≤ (1#8).toNat ∧ (1#8).toNat < 4) ∧ (1 ≤ (250#8).toNat ∧ (250#8).toNat ≤ 250 ∧ 251 < (250#8).toNat + 2)
      ∧ ((4#8).toNat + 2 ≤ [0#8, 0, 0, 0, 1, 2].length
        ∧ crc16Bytes (4#8 :: [0#8, 0, 0, 0]) ≠ ([0#8, 0, 0, 0, 1, 2].drop (4#8).toNat).take 2) := by decide +kernel

theorem witness_SoundFramesAreCarriedOut :
    (frameClass (requestFrame (0x03, h3, [])) = .sound
      ∧ readRequest (requestFrame (0x03, h3, [])) = some (.enterRun h3))
      ∧ (frameClass (requestFrame (0x7F, h3, [])) = .sound ∧ readRequest (requestFrame (0x7F, h3, [])) = none
        ∧ ({ run with link := run.link.settle (inProgress .idle) 7 } : State).listens)
      ∧ ∀ b ∈ [[], [1#8, 2], [1, 2, 3]], frameClass (requestFrame (0x60, h3, b)) = .sound
        ∧ readRequest (requestFrame (0x60, h3, b)) = none := by decide +kernel

theorem witness_RequestFramesReadBack :
    ∃ x, Instr.wellFormed (.setProgram h3 1 (List.replicate 48 ⟨0xFF, 1⟩)) = true
      ∧ requestBytes (.setProgram h3 1 (List.replicate 48 ⟨0xFF, 1⟩)) = some x ∧ x.2.2.length = 242 :=
  ⟨_, by decide, rfl, by decide +kernel⟩

theorem witness_UntakenRequestsAreDropped :
    isRequest (.readPort h3) = true ∧ (State.reset.nreset = false ∧ State.reset.link.opState = .init)
      ∧ (halted.nreset = false ∧ halted.link.opState = .halted ∧ ∀ h, Instr.readPort h3 ≠ .identify h)
      ∧ (crowded.nreset = false ∧ ¬ crowded.hasRoom) :=
  ⟨rfl, ⟨rfl, rfl⟩, ⟨rfl, rfl, fun _ h => by cases h⟩, rfl, by decide⟩

theorem witness_ReadingRequestsOnlyReply :
    (halted.nreset = false ∧ halted.link.opState ≠ .init ∧ halted.hasRoom) ∧ cfg.listens ∧ full3.listens
      ∧ portOf 0 = some 0 ∧ portOf 7 = some 7 := by decide

theorem witness_StructuralErrorsAreBadArgument :
    cfg.listens ∧ 8 ≤ (8#8).toNat ∧ 8 ≤ (0xFF#8).toNat
      ∧ (named (portFields 2).mask 1 = true ∧ 8 ≤ ({ portFields 2 with cableKind := 8 } : SetPortFields).cableKind.toNat)
      ∧ (named (portFields 0x1000).mask 12 = true
        ∧ 2 ≤ ({ portFields 0x1000 with outputGroup := 2 } : SetPortFields).outputGroup.toNat)
      ∧ 14 ≤ (14#8).toNat ∧ 5 ≤ (5#8).toNat ∧ 16 ≤ (16#8).toNat ∧ 4095 < (4096#16).toNat
      ∧ ((4#8).toNat = 4 ∧ named (1#8) 0 = true) ∧ ((3#8).toNat < 4 ∧ named (4#8) 2 = true) := by decide

theorem witness_NoticesPassTheMaskAndTheQueue :
    cfg.listens ∧ ({ queued 0 with mask := 0x1FD } : Link).mask.getLsbD notice.kindIndex.val = false
      ∧ ((queued 32).mask.getLsbD notice.kindIndex.val = true ∧ 32 ≤ (queued 32).notices.length)
      ∧ ((queued 31).mask.getLsbD notice.kindIndex.val = true ∧ (queued 31).notices.length < 32) := by decide

theorem witness_SetPoolWritesThePoolSettings : cfg.listens ∧ cfg.link.opState = .config := by decide

theorem witness_SetCableKindWritesOneKind :
    cfg.listens ∧ cfg.link.opState = .config ∧ (⟨7, 7, 500, 2000, 5000⟩ : SetCableKindFields).index.toNat = (7 : Fin 8).val := by
  decide

theorem witness_LockedSettingsAreRefusedInRun :
    run.listens ∧ run.link.opState = .run ∧ (7#8).toNat < 8 ∧ h3.port.toNat < 8 ∧ setPortBad (portFields 0x20) = false
      ∧ named (portFields 0x20).mask 5 = true := by decide +kernel

theorem witness_SetPortWritesThePortSettings :
    (cfg.listens ∧ portOf h3.port = some 3 ∧ setPortBad (portFields 0x1FFF) = false
        ∧ (cfg.link.opState = .run → setPortLocked (portFields 0x1FFF) = false) ∧ ∀ a ∈ cfg.pool.queue, a.port ≠ 3)
      ∧ (run.listens ∧ setPortBad (portFields 0x1FC1) = false
        ∧ (run.link.opState = .run → setPortLocked (portFields 0x1FC1) = false) ∧ ∀ a ∈ run.pool.queue, a.port ≠ 3) := by
  decide +kernel

theorem witness_SetReactionWritesTheTable :
    cfg.listens ∧ portOf h3.port = some 3 ∧ FaultKind.feedInfeasible.index.val = (13#8).toNat
      ∧ Reaction.report.code = (4#8).toNat ∧ Reaction.report ∉ FaultKind.feedInfeasible.allowed
      ∧ Reaction.cut ∈ FaultKind.feedInfeasible.allowed := by decide

theorem witness_SetSourceWritesOneSource :
    cfg.listens
      ∧ ((⟨3, 0xB, 3, 65536, 0, 0xFF⟩ : SetSourceFields).source.toNat = (3 : Fin 4).val ∧ (3#8).toNat < 4
        ∧ named (0xB#8) 2 = false)
      ∧ ((⟨4, 0xC, 0, 0, 99, 0xFF⟩ : SetSourceFields).source = 4 ∧ named (0xC#8) 0 = false ∧ named (0xC#8) 1 = false
        ∧ named (0xC#8) 2 = true ∧ 100 = if (99#32) = 0 then 0 else clampTo 100 10000000 (99#32).toNat)
      ∧ (named (8#8) 2 = false ∧ named (8#8) 0 = false ∧ named (8#8) 1 = false) := by decide

theorem witness_SetProgramWritesTheProgram :
    cfg.listens ∧ portOf h3.port = some 3
      ∧ ((1#8).toNat < 2 ∧ (List.replicate 8 (⟨15, 0⟩ : WireStep)).length ≤ 8
        ∧ ∀ x ∈ List.replicate 8 (⟨15, 0⟩ : WireStep), x.preset.toNat < 16 ∨ x.preset = 0xFF)
      ∧ 2 ≤ (2#8).toNat ∧ 8 < (List.replicate 9 (⟨15, 1⟩ : WireStep)).length
      ∧ (16 ≤ (16#8).toNat ∧ (16#8 : Byte) ≠ 0xFF) := by decide

theorem witness_SetPresetWritesOnePreset :
    cfg.listens ∧ portOf h3.port = some 3 ∧ (15#8).toNat = (15 : Fin 16).val ∧ 16 ≤ (16#8).toNat := by decide

theorem witness_EnterRunStartsTheHub :
    (run.listens ∧ run.link.opState = .run) ∧ (cfg.listens ∧ cfg.link.opState = .config ∧ cfg.pool.settings.budget ≠ 0)
      ∧ (({ cfg with pool := {} } : State).listens ∧ ({ cfg with pool := {} } : State).pool.settings.budget = 0) := by
  decide

theorem witness_EnterConfigQuietsTheHub :
    (cfg.listens ∧ cfg.link.opState = .config) ∧ (full3.listens ∧ full3.link.opState = .run)
      ∧ ((full3.port 3).feed.power.feedOn = true ∧ (full3.port 3).tether.link ≠ .quiet)
      ∧ ((full3.port 0).cable.diag = .clear ∧ (full3.port 0).tether.link = .down ∧ (full3.port 0).tether.channel = none
        ∧ (full3.port 0).tether.queue = [] ∧ (full3.port 0).tether.outstanding = [])
      ∧ ((measured .host .disabled none).listens ∧ (measured .host .disabled none).link.opState = .run
        ∧ ∃ x ∈ (measured .host .disabled none).breaks.queue, x.port = 3) := by decide

/-- Port 3 with two image packets queued and an answer HELD behind them. -/
def heldBehind : State := { credits 12 2 with relay := [entry 33 (.held 0 1250 2 false)] }

theorem witness_EnterConfigQuietsTheHub_relay :
    (heldBehind.listens ∧ heldBehind.link.opState = .run)
      ∧ (∀ p, (heldBehind.port p).ingress.egressCount + BitVec.ofNat 32 (heldBehind.port p).ingress.queue.length
          = (heldBehind.port p).ingress.ingressCount)
      ∧ ∀ r ∈ heldBehind.relay, ∀ code value w cut, r.stage = .held code value w cut →
          ((heldBehind.port r.port).ingress.ingressCount - w).toNat < 2 ^ 30 := by
  refine ⟨by decide +kernel, by decide +kernel, ?_⟩
  simp only [heldBehind, entry, List.mem_singleton, forall_eq, RelayStage.held.injEq]
  rintro code value w cut ⟨-, -, rfl, -⟩
  decide +kernel

theorem witness_RestartKeepsTheCableKnowledge : cfg.listens ∧ full3.listens := by decide

/-- A hub after a kill, with a voltage at the latest sample. -/
def killed (mv ma : Nat) : State :=
  (run.onFeed 3 fun f => { f with power := .poolHalt }).onFeed 2 (fun f => f) |> fun s =>
    { s with pool := { s.pool with feedEnable := false, sampleMv := mv, sampleMa := ma } }

theorem witness_FeedRestoreBringsThePortsBack :
    ((killed 18999 0).listens ∧ (killed 18999 0).pool.sampleMv < (killed 18999 0).pool.settings.kill)
      ∧ ((killed 19000 5001).listens ∧ (killed 19000 5001).pool.settings.trip < (killed 19000 5001).pool.sampleMa)
      ∧ ((killed 19000 5000).listens ∧ (killed 19000 5000).pool.settings.kill ≤ (killed 19000 5000).pool.sampleMv
        ∧ (killed 19000 5000).pool.sampleMa ≤ (killed 19000 5000).pool.settings.trip
        ∧ (killed 19000 5000).pool.feedEnable = false)
      ∧ (run.listens ∧ run.pool.settings.kill ≤ run.pool.sampleMv ∧ run.pool.feedEnable = true) := by decide +kernel

/-- Port 3 in a power state, without feed. -/
def unfed (w : PowerState) : State := run.onFeed 3 fun f => { f with power := w, enabled := true }

/-- Port 3 FULL and on HOLD. -/
def onHold : State := full3.onFeed 3 fun f => { f with hold := true }

theorem witness_EnableAndReleaseActOnThePort :
    portOf h3.port = some 3 ∧ (cfg.listens ∧ cfg.link.opState = .config)
      ∧ (full3.listens ∧ full3.link.opState = .run ∧ (full3.port 3).feed.power ≠ .disabled)
      ∧ (run.listens ∧ run.link.opState = .run ∧ (run.port 3).feed.power = .disabled)
      ∧ ((unfed .lockedOut).listens ∧ ((unfed .lockedOut).port 3).feed.power = .lockedOut)
      ∧ ((full3.port 3).feed.power ≠ .lockedOut ∧ (full3.port 3).feed.hold = false)
      ∧ (onHold.listens ∧ (onHold.port 3).feed.power ≠ .lockedOut ∧ (onHold.port 3).feed.hold = true
        ∧ (onHold.port 3).lens.state ≠ .moveWait ∧ (onHold.port 3).capture.queue = []
        ∧ (onHold.port 3).capture.want = none) := by decide +kernel

theorem witness_PortDisableEndsThePort :
    (run.listens ∧ portOf h3.port = some 3 ∧ (∀ x ∈ run.breaks.queue, x.port ≠ 3) ∧ (run.port 3).feed.power = .disabled)
      ∧ ∀ w ∈ [PowerState.probing, .vacant, .backoff, .shed, .poolHalt, .diagnosing, .lockedOut],
        (unfed w).listens ∧ (∀ x ∈ (unfed w).breaks.queue, x.port ≠ 3) ∧ ((unfed w).port 3).feed.power ≠ .disabled
          ∧ ((unfed w).port 3).feed.power.feedOn = false ∧ ((unfed w).port 3).feed.power ≠ .bootWait
          ∧ ((unfed w).port 3).lens = { ((unfed w).port 3).lens with
              state := .absent, move := none, want := none, held := none, lastTarget := none, settleTimer := none }
          ∧ ((unfed w).port 3).capture.queue = [] ∧ ((unfed w).port 3).capture.exposure = none
          ∧ ((unfed w).port 3).capture.want = none ∧ ((unfed w).port 3).ingress.record = .empty
          ∧ ((unfed w).port 3).ingress.queue = [] ∧ ((unfed w).port 3).ingress.expected = 1
          ∧ ((unfed w).port 3).ingress.counters.flushed ≤ 4294967295 ∧ ((unfed w).port 3).tether.occupied = 0
          ∧ ((unfed w).port 3).tether.unreturned = 0 ∧ (∀ x ∈ (unfed w).pool.queue, x.port ≠ 3)
          ∧ (∀ r ∈ (unfed w).relay, r.port ≠ 3) ∧ (unfed w).output.sending = none := by decide +kernel

/-- Port 3 in a power state behind a diagnosis of port 6. -/
def behind6 (w : PowerState) : State := { unfed w with breaks := { queue := [⟨6, .host, 4⟩] } }

theorem witness_DiagnosesJoinTheQueue :
    portOf h3.port = some 3
      ∧ ((measured .host .disabled none).listens ∧ ((measured .host .disabled none).port 3).cable.diag ≠ .clear
        ∧ ((measured .host .disabled none).port 3).feed.power = .disabled)
      ∧ (full3.listens ∧ (full3.port 3).cable.diag = .clear ∧ (full3.port 3).feed.power.feedOn = true
        ∧ named (0xFE#8) 0 = false)
      ∧ (full3.link.opState = .run ∧ (full3.port 3).feed.power ≠ .disabled ∧ (full3.port 3).feed.power ≠ .lockedOut)
      ∧ ∀ w ∈ [PowerState.probing, .vacant, .disabled, .lockedOut],
        (behind6 w).listens ∧ ((behind6 w).port 3).cable.diag = .clear ∧ ((behind6 w).port 3).feed.power.feedOn = false
          ∧ ((behind6 w).port 3).feed.power ≠ .bootWait ∧ ((behind6 w).port 3).tether.link = .down
          ∧ (behind6 w).breaks.queue ≠ [] := by decide +kernel

theorem witness_ClearingRequestsEmptyTheirRecords :
    full3.listens ∧ portOf h3.port = some 3 ∧ (0x80#8 : Byte) ≠ 0 := by decide

/-- A calibration in progress. -/
def calibrating : State :=
  { run with meter := { holder := some (.calibration, 1000999), timebase := { ageTimer := some 1000001 } } }

theorem witness_CalibrationsSetTheTimebase :
    (run.listens ∧ run.meter.holder = none) ∧ (calibrating.listens ∧ calibrating.meter.holder ≠ none)
      ∧ (({ run with meter := { pendingCal := true } } : State).running
        ∧ ({ run with meter := { pendingCal := true } } : State).meter.holder = none)
      ∧ (calibrating.running ∧ calibrating.meter.holder = some (.calibration, 1000999)
        ∧ calibrating.meter.pendingCal = false ∧ calibrating.meter.livePlaces = Vector.replicate 8 false
        ∧ calibrating.meter.offered = none ∧ 960 ≤ 960 ∧ 1600 ≤ 1600 ∧ 255 ≤ 255 ∧ (959 < 960 ∧ 1600 < 1601 ∧ 255 < 256))
      ∧ calibrating.meter.timebase.ageTimer = some 1000001 := by decide +kernel

theorem witness_TriggerGivesConsecutiveTags :
    (run.listens ∧ 32 ≤ (32#8).toNat) ∧ (cfg.listens ∧ (31#8 : Byte) ≠ 0 ∧ (31#8).toNat < 32 ∧ cfg.link.opState = .config)
      ∧ (run.link.opState = .run ∧ ∀ i : Fin 5, (31#8).getLsbD i.val = true → run.router.map.get i = 0) := by
  decide +kernel

/-- TRIG2 with an edge selection, a holdoff of 50 microseconds and its timer; the period timer running. -/
def pin2 (edge : EdgeSelection) (timer : Option Nat) : State :=
  { run with router := { run.router with
      pins := run.router.pins.set 2 { edge := edge, holdoff := 50, timer := timer }, map := run.router.map.set 1 0xFF
      period := 300, periodTimer := some 1000001 } }

theorem witness_PinsAndPeriodGiveTriggers :
    (cfg.running ∧ cfg.link.opState = .config) ∧ ((pin2 .off none).running ∧ ((pin2 .off none).router.pins.get 2).edge = .off)
      ∧ ((pin2 .rising (some 1000020)).running ∧ (pin2 .rising (some 1000020)).link.opState = .run
        ∧ ((pin2 .rising (some 1000020)).router.pins.get 2).edge = .rising
        ∧ ((pin2 .rising (some 1000020)).router.pins.get 2).timer = some 1000020)
      ∧ ((pin2 .both none).running ∧ ((pin2 .both none).router.pins.get 2).edge = .both
        ∧ ((pin2 .both none).router.pins.get 2).timer = none
        ∧ (pin2 .both none).router.map.get (Fin.castSucc (2 : Fin 4)) = 0)
      ∧ ((pin2 .both none).router.periodTimer = some 1000001 ∧ (pin2 .both none).router.map.get 4 = 0) := by
  decide +kernel

/-- Port 3 FULL and busy, TRIG2 on both edges and mapped to it. -/
def both3 (f : Port → Port) : State :=
  { busy3.onPort 3 f with router := { run.router with
      pins := run.router.pins.set 2 { edge := .both }, map := run.router.map.set 2 8, tagCounter := 0xFFFF } }

/-- A pending trigger without a preset. -/
def waiting (tag : Half) (stale : Option Nat) : PendingTrigger :=
  { tag := tag, source := .trig1, step := .default, preset := none, invalid := false, exposure := 40, arrival := 900000
    stale := stale }

/-- An open exposure. -/
def exposure40 : Exposure := ⟨40, .trig0, .default, none, false, false, 40, 900000, 1002000⟩

theorem witness_TriggersAreAcceptedAndDispatched :
    (∀ f ∈ [fun x : Port => x, fun x => { x with feed := { x.feed with hold := true } },
          fun x => { x with capture := { x.capture with queue := List.replicate 4 (waiting 1 none) } },
          fun x => { x with capture := { x.capture with exposure := some exposure40 } }],
        (both3 f).running ∧ (both3 f).link.opState = .run ∧ ((both3 f).router.pins.get 2).edge = .both
          ∧ ((both3 f).router.pins.get 2).timer = none ∧ ((both3 f).router.pins.get 2).holdoff = 0
          ∧ maskPorts ((both3 f).router.map.get (Fin.castSucc (2 : Fin 4))) = [3]
          ∧ ((both3 f).port 3).feed.power = .full ∧ ((both3 f).port 3).tether.link = .up
          ∧ ((both3 f).port 3).lens.state = .absent ∧ ((both3 f).port 3).capture.want = none
          ∧ ((both3 f).port 3).tether.camWriteStands = false ∧ ((both3 f).port 3).tether.channel ≠ none)
      ∧ Source.trig2.index = Fin.castSucc (2 : Fin 4)
      ∧ ((both3 fun x => x).port 3).capture.resolve 1000
        = ((.default, none, 1000), ((both3 fun x => x).port 3).capture) := by
  refine ⟨?_, by decide, by decide +kernel⟩
  simp only [List.forall_mem_cons, List.not_mem_nil, false_imp_iff, implies_true, and_true]
  decide +kernel

/-- Port 3 FULL and busy with its head, its stale time running, or an exposure open. -/
def head3 (x : PendingTrigger) : State := busy3.onCapture 3 fun c => { c with queue := [x] }

theorem witness_PendingTriggersAndExposuresEnd :
    ((head3 (waiting 9 (some 1000000))).running
        ∧ ((head3 (waiting 9 (some 1000000))).port 3).capture.queue = [waiting 9 (some 1000000)]
        ∧ (waiting 9 (some 1000000)).stale = some 1000000
        ∧ ((head3 (waiting 9 (some 1000000))).port 3).capture.want = none)
      ∧ ((∀ d, (waiting 9 (some 1000001)).stale = some d → (head3 (waiting 9 (some 1000001))).time < d)
        ∧ ((head3 (waiting 9 (some 1000001))).port 3).capture.exposure = none
        ∧ ((head3 (waiting 9 (some 1000001))).port 3).feed.hold = false
        ∧ ((head3 (waiting 9 (some 1000001))).port 3).tether.link = .up
        ∧ ((head3 (waiting 9 (some 1000001))).port 3).lens.state = .absent
        ∧ ((head3 (waiting 9 (some 1000001))).port 3).tether.camWriteStands = false
        ∧ ((head3 (waiting 9 (some 1000001))).port 3).tether.channel ≠ none)
      ∧ ((both3 fun x => { x with capture := { x.capture with exposure := some exposure40 } }).port 3).capture.exposure
        = some exposure40 :=
  ⟨by decide +kernel, ⟨fun d h => by cases h; decide, by decide +kernel⟩, by decide +kernel⟩

/-- Port 3 FULL and busy with a lens at preset 6, preset 4 valid, and no surcharge. -/
def lens3 (state : LensState) : State :=
  busy3.onPort 3 fun x => { x with
    pool := { x.pool with surchargeAmount := 0 }
    lens := { x.lens with
      kind := .focusIris, state := state, held := some ⟨5, some 2, none⟩, settleTimer := some 1000444
      presets := (x.lens.presets.set 4 { focus := 100, iris := 7, settle := 2, valid := true }).set 6
        { focus := 5, iris := 2, valid := true } } }

theorem witness_LensRequestsMoveTheLens :
    portOf h3.port = some 3 ∧ (4#8).toNat = (4 : PresetId).val ∧ (full3.listens ∧ (full3.port 3).lens.state = .absent)
      ∧ ((lens3 .settling).listens ∧ ((lens3 .settling).port 3).feed.hold = false
        ∧ ((lens3 .settling).port 3).capture.queue = [])
      ∧ ((lens3 .stalled).listens ∧ ((lens3 .stalled).port 3).lens.state = .stalled)
      ∧ ((lens3 .idle).listens ∧ ((lens3 .idle).port 3).lens.state = .idle
        ∧ (((lens3 .idle).port 3).lens.presets.get 0).valid = false
        ∧ (((lens3 .idle).port 3).lens.presets.get 6).valid = true ∧ ((lens3 .idle).port 3).lens.holds 6 = true
        ∧ (((lens3 .idle).port 3).lens.presets.get 4).valid = true ∧ ((lens3 .idle).port 3).lens.holds 4 = false
        ∧ ((lens3 .idle).port 3).pool.surchargeAmount = 0 ∧ ((lens3 .idle).port 3).capture.want = none
        ∧ ((lens3 .idle).port 3).capture.exposure = none ∧ ((lens3 .idle).port 3).tether.channel ≠ none
        ∧ (lens3 .idle).feedFor 3
            (classPower ((lens3 .idle).port 3).feed.powerClass + ((lens3 .idle).port 3).feed.settings.lensPower)
          = .feasible 4029 223) := by decide +kernel

/-- A homing packet that waits, its surcharge admitted or not. -/
def waitingHome (admitted : Bool) : Move := { kind := .home, origin := .autoHome, target := none, admitted := admitted }

/-- Port 3 with a homing packet that waits. -/
def homeWait (admitted : Bool) : State :=
  (lens3 .moveWait).onLens 3 fun l => { l with move := some (waitingHome admitted) }

theorem witness_LensPacketsAndSettling :
    (∀ b ∈ [true, false],
      (homeWait b).running ∧ ((homeWait b).port 3).lens.state = .moveWait
        ∧ ((homeWait b).port 3).lens.move = some (waitingHome b) ∧ (waitingHome b).kind = .home
        ∧ ((homeWait b).port 3).tether.channel ≠ none ∧ (waitingHome b).admitted = b
        ∧ ((homeWait b).port 3).capture.exposure = none ∧ ((homeWait b).port 3).feed.hold = false)
      ∧ ((lens3 .settling).running ∧ ((lens3 .settling).port 3).lens.settleTimer = some 1000444
        ∧ ((lens3 .settling).port 3).lens.want = none ∧ ((lens3 .settling).port 3).capture.queue = []
        ∧ ((lens3 .settling).port 3).capture.want = none) := by decide +kernel

/-- Port 3 FULL and busy with relay entries. -/
def relays (l : List RelayEntry) : State := { busy3 with relay := l }

theorem witness_CameraAccessesAreTaken :
    portOf h3.port = some 3 ∧ AccessKind.write.code = (1#8).toNat ∧ (4095#16).toNat ≤ 4095
      ∧ (cfg.listens ∧ cfg.link.opState = .config) ∧ onHold.listens
      ∧ ((relays [entry 0 .queued, entry 1 .sent, entry 2 .sent]).listens
        ∧ 3 ≤ ((relays [entry 0 .queued, entry 1 .sent, entry 2 .sent]).relay.filter fun r =>
          decide (r.port = 3) && r.stage.unanswered).length)
      ∧ ((relays [entry 0 .queued, entry 1 .sent]).listens ∧ (relays [entry 0 .queued, entry 1 .sent]).link.opState = .run
        ∧ ((relays [entry 0 .queued, entry 1 .sent]).port 3).feed.power = .full
        ∧ ((relays [entry 0 .queued, entry 1 .sent]).relay.filter fun r =>
            decide (r.port = 3) && r.stage.unanswered).length < 3
        ∧ ((relays [entry 0 .queued, entry 1 .sent]).port 3).tether.channel ≠ none) := by decide +kernel

theorem witness_RelayAnswersAtItsMoment :
    ((relay3 (entry 33 .sent)).running
        ∧ ((relay3 (entry 33 .sent)).port 3).tether.outstanding.find? (fun x => decide (x.tag = 33))
          = some ⟨33, .camRead, 1100000⟩
        ∧ (relay3 (entry 33 .sent)).relay.find?
            (fun x => decide (x.port = 3) && decide (x.stage = .sent) && decide (x.downTag = 33)) = some (entry 33 .sent)
        ∧ ((relay3 (entry 33 .sent)).port 3).tether.channel ≠ none)
      ∧ (entry 33 (.held 0 9 896 true)).stage = .held 0 9 896 true := by decide +kernel

/-- Port 3 at a lock-check expiry with a busy channel. -/
def lockCheck3 (link : LinkState) (marks good allowance : Nat) : State :=
  { busy3.onPort 3 (fun x => { x with
      tether := { x.tether with link := link, marks := marks, goodWindows := good }
      cable := { x.cable with allowance := allowance } }) with
    meter := { holder := some (.calibration, 1000999) } }

theorem witness_LockChecksDriveTheLink :
    ∀ x ∈ [(LinkState.waking, 0, 0, 0), (.waking, 1, 0, 0), (.locking, 5, 2, 0), (.locking, 6, 1, 0), (.locking, 5, 0, 8),
        (.locking, 6, 2, 0), (.up, 6, 3, 0), (.up, 5, 3, 0)],
      let s := lockCheck3 x.1 x.2.1 x.2.2.1 x.2.2.2
      s.running ∧ (s.port 3).tether.lockCheck = some 1000700 ∧ (s.port 3).tether.channel ≠ none
        ∧ (s.port 3).tether.link = x.1 ∧ (s.port 3).tether.marks = x.2.1 ∧ (s.port 3).tether.goodWindows = x.2.2.1
        ∧ (s.port 3).cable.allowance = x.2.2.2 ∧ s.meter.holder ≠ none ∧ (s.port 3).capture.queue = []
        ∧ (s.port 3).capture.want = none ∧ (s.port 3).tether.queue.any DownPacket.isTrigger = false
        ∧ (s.port 3).ingress.record = .empty := by decide +kernel

theorem witness_LockChecksDriveTheLink_noLiveShot (l : LinkState) (m g a e : Nat) :
    (lockCheck3 l m g a).meter.holder ≠ some (.live 3, e) := by
  simp [lockCheck3]

/-- Port 3 fed, each fault's reaction the same, its three timers running, one sample above the limit. -/
def faulty (r : Reaction) (w : PowerState) : State :=
  busy3.onPort 3 fun x => { x with
    tether := { x.tether with wakeTimer := some 1000005, relockTimer := some 1000005, helloTimer := some 1000005 }
    feed := { x.feed with power := w, overCount := 1, sampleTimer := some 1000005 }
    cable := { x.cable with reactions := Vector.replicate 14 r } }

theorem witness_FaultsCutTheFeed :
    ∀ r ∈ [Reaction.cut, .retry], ∀ w ∈ [PowerState.full, .boot],
      (faulty r w).running ∧ ((faulty r w).port 3).feed.power.feedOn = true ∧ (faulty r w).pool.queue = []
        ∧ (faulty r w).meter.holder = none ∧ ((faulty r w).port 3).tether.wakeTimer = some 1000005
        ∧ ((faulty r w).port 3).tether.relockTimer = some 1000005 ∧ ((faulty r w).port 3).tether.helloTimer = some 1000005
        ∧ (∀ k ∈ [FaultKind.linkNoWake, .linkLost, .helloMissing, .bootOverload, .portOvercurrent],
            ((faulty r w).port 3).cable.reactions.get k.index = r)
        ∧ ((faulty r w).port 3).feed.sampleTimer = some 1000005 ∧ ((faulty r w).port 3).feed.limit < (696#16).toNat
        ∧ ((faulty r w).port 3).feed.overCount = 1 := by decide +kernel

/-- Port 3's downstream channel with a WAKE due while WAKING, or a CREDIT due otherwise, and a queue. -/
def channel3 (l : LinkState) (due : Bool) (i : Option DownItem) (q : List DownPacket) : State :=
  full3.onTether 3 fun t => { t with
    link := l, channel := i, queue := q, wakeDue := due && decide (l = .waking), creditDue := due && decide (l = .up) }

theorem witness_ChannelSendsInOrder :
    (busy3.running ∧ (busy3.port 3).tether.channel ≠ none)
      ∧ ((channel3 .waking true none []).running ∧ ((channel3 .waking true none []).port 3).tether.channel = none
        ∧ ((channel3 .waking true none []).port 3).tether.wakeDue = true)
      ∧ (((channel3 .up true none []).port 3).tether.channel = none
        ∧ ((channel3 .up true none []).port 3).tether.link = .up
        ∧ ((channel3 .up true none []).port 3).tether.creditDue = true)
      ∧ (∀ l ∈ [LinkState.locking, .up],
        ((channel3 l false none [.lensHome 3]).port 3).tether.channel = none
          ∧ ((channel3 l false none [.lensHome 3]).port 3).tether.link = l
          ∧ ((channel3 l false none [.lensHome 3]).port 3).tether.creditDue = false
          ∧ ((channel3 l false none [.lensHome 3]).port 3).tether.queue = [.lensHome 3])
      ∧ ∀ i ∈ [DownItem.wake, .credit 16, .packet (.trigger 1 2), .packet (.lensHome 3),
            .packet (.lensMove 3 ⟨1, none, none⟩), .packet (.camRead 3 4), .packet (.camWrite 3 4 5)],
          ((channel3 .up false (some i) []).port 3).tether.channel = some i
            ∧ ((channel3 .up false (some i) []).port 3).tether.queue = []
            ∧ ((channel3 .up false (some i) []).port 3).tether.wakeDue = false
            ∧ ((channel3 .up false (some i) []).port 3).tether.creditDue = false := by decide +kernel

theorem witness_GoodImagePacketsAreKept :
    (run.running ∧ (run.port 3).tether.link = .down)
      ∧ ((full3.port 3).tether.link ≠ .down ∧ (full3.port 3).tether.link ≠ .quiet ∧ [1#8, 2, 3, 4, 5, 6, 7].length < 8)
      ∧ ∃ f, ((sending3 (credits 12 2)).port 3).ingress.record = .openFrame f ∧ (sending3 (credits 12 2)).running
        ∧ ((sending3 (credits 12 2)).port 3).tether.link = .up
        ∧ 0 < ((sending3 (credits 12 2)).port 3).tether.cameraHeld ∧ (sending3 (credits 12 2)).output.sending ≠ none
        ∧ classify 12 .delimiter (packet 0x21 4 7 0 [9]) = .good ∧ halfAt (packet 0x21 4 7 0 [9]) 2 = f.number
        ∧ byteAt (packet 0x21 4 7 0 [9]) 1 = ((sending3 (credits 12 2)).port 3).ingress.expected
        ∧ ((sending3 (credits 12 2)).port 3).ingress.counters.linesLost ≤ 4294967295 ∧ f.lost ≤ 65535
        ∧ byteAt (packet 0x21 4 7 0 [9]) 0 = 0x21
        ∧ classify 12 .delimiter (packet 0x22 4 7 3 []) = .good ∧ halfAt (packet 0x22 4 7 3 []) 2 = f.number
        ∧ byteAt (packet 0x22 4 7 3 []) 1 = ((sending3 (credits 12 2)).port 3).ingress.expected
        ∧ byteAt (packet 0x22 4 7 3 []) 0 = 0x22 :=
  ⟨by decide +kernel, by decide +kernel, _, rfl, by decide +kernel⟩

/-- Port 3 of 1.8 with a busy channel, an output port that sends, a frame record and an exposure. -/
def assembling (r : FrameRecord) (y : Option Exposure) : State :=
  sending3 ((credits 12 2).onPort 3 fun x => { x with
    tether := { x.tether with channel := some .wake }, ingress := { x.ingress with record := r }
    capture := { x.capture with exposure := y } })

/-- An open frame of number 7, its exposure used 100 microseconds. -/
def frame7 : OpenFrame :=
  { number := 7, trigger := none, step := .absent, preset := none, flags := {}, held := none, exposureUsed := 100
    start := 5000, received := 3, lost := 0, damaged := 0 }

/-- The frames that FRAME_START 8 of tag 50 opens at 1 s: untriggered, and answering exposure 40. -/
theorem witness_GoodImagePacketsAreKept_starts (r : FrameRecord) :
    (∃ g c, (assembling r none).frameOpens 3 (packet 0x20 0 8 50 [0, 0, 0, 1]) g c)
      ∧ ∃ g c, (assembling r (some exposure40)).frameOpens 3 (packet 0x20 0 8 50 [0, 0, 0, 1]) g c :=
  ⟨⟨⟨8, none, .absent, none, { untriggered := true }, none, 1, 1000000, 0, 0, 0⟩, _,
      rfl, rfl, rfl, rfl, rfl, rfl, rfl, .inl ⟨rfl, rfl, rfl, rfl, rfl, rfl⟩⟩,
    ⟨8, some (40, .trig0), .default, none, { tagMismatch := true }, none, 1, 1000000, 0, 0, 0⟩, _,
      rfl, rfl, rfl, rfl, rfl, rfl, rfl, .inr ⟨exposure40, rfl, rfl, rfl, fun h => LensState.noConfusion h, rfl, rfl, rfl, rfl, rfl⟩⟩

theorem witness_GoodImagePacketsAreKept_strays :
    ∀ r ∈ [FrameRecord.empty, .discarding, .openFrame frame7],
      (assembling r none).running ∧ ((assembling r none).port 3).tether.link = .up
        ∧ ((assembling r none).port 3).tether.cameraHeld = 12 ∧ (assembling r none).output.sending ≠ none
        ∧ ((assembling r none).port 3).tether.channel ≠ none ∧ ((assembling r none).port 3).ingress.record = r
        ∧ classify 12 .delimiter (packet 0x20 0 8 50 [0, 0, 0, 1]) = .good
        ∧ byteAt (packet 0x20 0 8 50 [0, 0, 0, 1]) 0 = 0x20
        ∧ classify 12 .delimiter (packet 0x21 4 8 0 [9]) = .good ∧ byteAt (packet 0x21 4 8 0 [9]) 0 = 0x21
        ∧ classify 12 .delimiter (packet 0x22 4 8 3 []) = .good ∧ byteAt (packet 0x22 4 8 3 []) 0 = 0x22
        ∧ halfAt (packet 0x21 4 8 0 [9]) 2 ≠ frame7.number
        ∧ classify 12 .delimiter ([0x21, 0, 0, 8, 0, 0, 0, 0] ++ List.replicate 2053 0) = .tooLong := by decide +kernel

/-- Port 3 in BOOT before its HELLO, in a pool whose budget holds its class figure but not beside port 1. -/
def beforeHello (taken : Bool) : State :=
  let s := run.onPort 3 fun x => { learned x with
    feed := { x.feed with power := .boot }
    pool := { x.pool with base := 3016, rUsed := some (571, .learned) }
    tether := { x.tether with link := .up, session := some ⟨taken, true⟩, channel := some .wake } }
  let s := s.onPort 1 fun x => { x with pool := { x.pool with base := 5000 } }
  { s with pool := { s.pool with settings := { budget := 12000 } } }

/-- Port 3 FULL with a fixed lens, a feed current, a resistance record and an undervoltage count. -/
def reporting (current : Half) (count : Nat) (filtered : Option Nat) (volts : Nat) : State :=
  busy3.onPort 3 fun x => { x with
    feed := { x.feed with lastSample := current, underVolt := { count := volts } }
    lens := { x.lens with state := .absent }
    cable := { x.cable with
      resistanceCount := count, filtered := filtered, resistanceBase := if count = 8 then some 600 else none } }

/-- Port 3 with a CAM_READ sent, and an image packet of it not yet gone out. -/
def awaiting : State :=
  { busy3.onPort 3 (fun x => { x with
      tether := { x.tether with outstanding := [⟨12, .camRead, 1000333⟩] }
      ingress := { x.ingress with ingressCount := 1, queue := [⟨false, ⟨.line, 7, 1, false, [9]⟩⟩] } }) with
    relay := [entry 12 .sent] }

theorem witness_ControlPacketsAreTaken :
    (∀ x ∈ [false, true], (beforeHello x).running ∧ ((beforeHello x).port 3).tether.link = .up
        ∧ classify ((beforeHello x).port 3).tether.cameraHeld .delimiter (packet 0x10 2 1 0 [0, 0, 0, 7, 0, 0]) = .good
        ∧ 18 ≤ (packet 0x10 2 1 0 [0, 0, 0, 7, 0, 0]).length ∧ byteAt (packet 0x10 2 1 0 [0, 0, 0, 7, 0, 0]) 0 = 0x10
        ∧ ((beforeHello x).port 3).tether.session = some ⟨x, true⟩
        ∧ ((beforeHello x).port 3).feed.power = .boot ∧ halfAt (packet 0x10 2 1 0 [0, 0, 0, 7, 0, 0]) 6 = 0
        ∧ byteAt (packet 0x10 2 1 0 [0, 0, 0, 7, 0, 0]) 1 = 2 ∧ (beforeHello x).pool.queue = []
        ∧ (beforeHello x).feedFor 3 7000 = .feasible 7087 389
        ∧ (beforeHello x).pool.effectiveBudget
            < (beforeHello x).allocationSum + (7087 - ((beforeHello x).port 3).pool.base))
      ∧ (∀ x ∈ [(reporting 45 0 none 1, 17000), (reporting 45 0 none 0, 23640), (reporting 556 6 none 0, 23640),
            (reporting 556 7 none 0, 23640), (reporting 556 8 (some 600) 0, 23640)],
          x.1.running ∧ (x.1.port 3).tether.link = .up ∧ (x.1.port 3).feed.power = .full
            ∧ (x.1.port 3).lens.state = .absent ∧ 10 ≤ (x.1.port 3).feed.lastSample.toNat
            ∧ (x.1.port 3).feed.settings.vMin = 18000
            ∧ ((x.1.port 3).cable.resistanceCount ≠ 8 → (x.1.port 3).cable.resistanceBase = none)
            ∧ ((x.1.port 3).cable.resistanceCount = 8 → (x.1.port 3).cable.filtered = some 600
              ∧ (x.1.port 3).cable.resistanceBase = some 600
              ∧ ((600 : Nat) + (((24000 - 23640) * 1000 / 556 : Nat) - (600 : Int)).tdiv 8).toNat
                  ≤ 600 + max (600 * (x.1.port 3).feed.settings.drift / 100) 100)
            ∧ (x.1.port 3).cable.driftArmed = true
            ∧ classify (x.1.port 3).tether.cameraHeld .delimiter (packet 0x11 0 x.2 0 [0, 0, 0, 0, 0, 0]) = .good
            ∧ halfAt (packet 0x11 0 x.2 0 [0, 0, 0, 0, 0, 0]) 2 = BitVec.ofNat 16 x.2)
      ∧ (awaiting.running ∧ (awaiting.port 3).tether.link = .up ∧ (awaiting.port 3).tether.channel ≠ none
          ∧ classify (awaiting.port 3).tether.cameraHeld .delimiter (packet 0x12 12 0 0 [0, 0, 0, 5, 0, 0]) = .good
          ∧ classify (awaiting.port 3).tether.cameraHeld .delimiter (packet 0x12 13 0 0 [0, 0, 0, 5, 0, 0]) = .good
          ∧ (∀ o ∈ (awaiting.port 3).tether.outstanding, o.tag ≠ byteAt (packet 0x12 13 0 0 [0, 0, 0, 5, 0, 0]) 1)
          ∧ (awaiting.port 3).tether.outstanding.find? (fun x => decide (x.tag = 12)) = some ⟨12, .camRead, 1000333⟩
          ∧ awaiting.relay.find? (fun x => decide (x.port = 3) && decide (x.stage = .sent) && decide (x.downTag = 12))
              = some (entry 12 .sent)
          ∧ 2 ^ 31 ≤ ((awaiting.port 3).ingress.egressCount - (awaiting.port 3).ingress.ingressCount).toNat
          ∧ ∀ x ∈ awaiting.relay, x.released 3 (awaiting.port 3).ingress.egressCount = false) :=
  ⟨by decide +kernel, by decide +kernel, by decide +kernel⟩

/-- A port with a lens packet out: no want, a busy channel, and the reactions to a stall and to a timeout. -/
def lensOut (s : State) (settle : Nat) (r : Reaction) : State :=
  s.onPort 3 fun x => { x with
    lens := { x.lens with
      want := none, move := x.lens.move.map fun m => { m with captured := m.captured.map fun c => (c.1, settle) } }
    tether := { x.tether with channel := some .wake }
    cable := { x.cable with reactions := Vector.replicate 14 r } }

/-- The bytes of an answer to a lens packet. -/
def lensBytes (tag code focus : Nat) : List Byte := packet 0x12 tag 0 code ([0, 0, 0, 0] ++ be2 focus ++ be2 64 ++ [0, 0])

/-- An answer on target, with and without a settle time, at 8 and at 9 steps off, at either attempt, and with the code
STALL. -/
theorem witness_ControlPacketsAreTaken_move :
    ∀ x ∈ [(1, 10, 0, 1792, true), (1, 0, 0, 1808, true), (1, 10, 0, 1791, false), (2, 10, 0, 1809, false),
        (1, 10, 1, 1800, true)],
      let s := lensOut (moving3 x.1) x.2.1 (if x.2.1 = 0 then .report else .hold)
      let bytes := lensBytes 12 x.2.2.1 x.2.2.2.1
      s.running ∧ (s.port 3).tether.link = .up ∧ classify (s.port 3).tether.cameraHeld .delimiter bytes = .good
        ∧ 18 ≤ bytes.length ∧ byteAt bytes 0 = 0x12 ∧ (s.port 3).tether.channel ≠ none
        ∧ (s.port 3).tether.outstanding.find? (fun y => decide (y.tag = byteAt bytes 1)) = some ⟨12, .lensMove, 3000000⟩
        ∧ (s.port 3).lens.state = .moving
        ∧ (s.port 3).lens.move.map (fun m => (m.kind, m.captured, m.attempt))
            = some (.move, some (⟨1800, some 64, none⟩, x.2.1), x.1)
        ∧ ((s.port 3).lens.move.map fun m => (s.port 3).lens.meets m ((s.port 3).lens.kind.reachedIn bytes))
            = some x.2.2.2.2
        ∧ byteAt bytes 7 = BitVec.ofNat 8 x.2.2.1 ∧ s.pool.queue = [] ∧ (s.port 3).capture.queue = []
        ∧ (s.port 3).capture.want = none ∧ (s.port 3).lens.want = none ∧ (s.port 3).feed.power.feedOn = true := by
  decide +kernel

theorem witness_ControlPacketsAreTaken_home :
    ∀ code ∈ [0, 2],
      let s := lensOut homing3 0 .hold
      let bytes := lensBytes 5 code 0
      s.running ∧ (s.port 3).tether.link = .up ∧ classify (s.port 3).tether.cameraHeld .delimiter bytes = .good
        ∧ 18 ≤ bytes.length ∧ byteAt bytes 0 = 0x12 ∧ (s.port 3).tether.channel ≠ none
        ∧ (s.port 3).tether.outstanding.find? (fun y => decide (y.tag = byteAt bytes 1)) = some ⟨5, .lensHome, 6000000⟩
        ∧ (s.port 3).lens.state = .homing ∧ (s.port 3).lens.move.map Move.kind = some .home
        ∧ byteAt bytes 7 = BitVec.ofNat 8 code ∧ s.pool.queue = [] ∧ (s.port 3).capture.queue = []
        ∧ (s.port 3).capture.want = none ∧ (s.port 3).lens.want = none ∧ (s.port 3).feed.power.feedOn = true
        ∧ (s.port 3).cable.reactions.get FaultKind.lensStall.index = .hold
        ∧ (s.port 3).cable.reactions.get FaultKind.lensTimeout.index = .hold := by decide +kernel

/-- A homing lens whose packet meets its deadline. -/
theorem witness_RelayAnswersAtItsMoment_lens :
    let s := lensOut homing3 0 .report
    s.running ∧ (s.port 3).tether.outstanding.find? (fun y => decide (y.tag = 5)) = some ⟨5, .lensHome, 6000000⟩
      ∧ AnswerKind.lensHome.isLens = true ∧ (s.port 3).tether.channel ≠ none ∧ (s.port 3).lens.state = .homing
      ∧ (s.port 3).lens.move ≠ none ∧ s.pool.queue = [] ∧ (s.port 3).capture.queue = []
      ∧ (s.port 3).capture.want = none ∧ (s.port 3).feed.power.feedOn = true
      ∧ (s.port 3).cable.reactions.get FaultKind.lensTimeout.index = .report := by decide +kernel

/-- Port 3 probing in a pool with a small budget, most of it taken by port 1. -/
def probing3 : State :=
  let s := (powered .probing .down 0).onPort 1 fun x => { x with pool := { x.pool with base := 400 } }
  { s with pool := { s.pool with settings := { budget := 3400 } } }

theorem witness_ProbesMoveThePort :
    probing3.running ∧ (probing3.port 3).feed.probeTimer = some 1000777 ∧ (probing3.port 3).feed.power = .probing
      ∧ judgeProbe 100 100 = .openEnded ∧ (judgeProbe 100 99 = .invalid ∧ (probing3.port 3).feed.invalidCount < 2)
      ∧ (judgeProbe 267 533 = .valid ∧ probing3.pool.queue = []
        ∧ chooseRUsed (probing3.port 3) (probing3.kinds.get (probing3.port 3).feed.settings.cableKind) = (571, .learned)
        ∧ feedCalculation 3000 probing3.pool.settings.vPool (probing3.port 3).feed.settings.vMin 571
            probing3.pool.effectiveBudget = .feasible 3016 167
        ∧ probing3.pool.effectiveBudget < probing3.allocationSum + 3016)
      ∧ (judgeProbe 0 4003 = .short
        ∧ ((probing3.onCable 3 fun c => { c with reactions := Vector.replicate 14 .cut }).port 3).cable.reactions.get
            FaultKind.probeShort.index = .cut) := by decide +kernel

/-- Port 3 with each of its feed timers running. -/
def timed3 : State :=
  full3.onFeed 3 fun f => { f with
    reprobeTimer := some 1000001, backoffTimer := some 1000001, inrushTimer := some 1000001
    fullSessionTimer := some 1000001, sampleTimer := some 1000001 }

theorem witness_FeedTimersAndSamples :
    timed3.running ∧ (timed3.port 3).feed.reprobeTimer = some 1000001 ∧ (timed3.port 3).feed.backoffTimer = some 1000001
      ∧ (timed3.port 3).feed.inrushTimer = some 1000001 ∧ (timed3.port 3).feed.fullSessionTimer = some 1000001
      ∧ (timed3.port 3).feed.sampleTimer = some 1000001 ∧ (695#16).toNat ≤ (timed3.port 3).feed.limit
      ∧ ((timed3.port 3).feed.limit < (696#16).toNat ∧ (timed3.port 3).feed.overCount = 0) := by decide +kernel

theorem witness_FeedFiguresFollowTheirFormulas :
    (9999 ≤ 9999 ∧ ({ velocity := 500, loop := 2000, connector := 5000 } : CableKind).law)
      ∧ (0 < 9000 ∧ 2000 = (18000 * 1000 + 9000 - 1) / 9000 ∧ 18000 ≤ 18000 ∧ 9000 ≤ 9000)
      ∧ (10000 ≤ 12000 ∧ feedCalculation 12000 24000 18000 571 60000 = .feasible 12255 667) :=
  ⟨⟨by decide, by unfold CableKind.law; decide⟩, by decide, by decide +kernel⟩

/-- The pool of 3.6 at the low sample that enters DERATE, with an order of admission and a FULL entry that no headroom
holds. -/
def shedding (admitted : List PortId) : State :=
  { pool36 with pool := { pool36.pool with admitted := admitted, queue := [⟨2, .full, 21001, 3, 3⟩] } }

theorem witness_ShedsTakeTheLowestAndLatest :
    ((∀ p, (run.port p).feed.settings.priority ≤ 3) ∧ run.shedChoice = none)
      ∧ ∀ l ∈ ([[2, 0, 1], [0, 1, 2]] : List (List PortId)),
        let s := shedding l
        (∀ p, (s.port p).feed.settings.priority ≤ 3) ∧ s.shedChoice = some 1 ∧ s.running ∧ s.link.opState = .run
          ∧ s.pool.sampleTimer = some 1000500 ∧ s.pool.settings.kill ≤ 21000 ∧ 21000 < s.pool.settings.derate
          ∧ s.summedCurrent ≤ s.pool.settings.trip ∧ s.pool.derate = false ∧ s.pool.lowCount = 4
          ∧ s.pool.settings.budget * 3 / 4 = 21000 ∧ (∀ a ∈ s.pool.queue, 21000 < a.amount)
          ∧ 21000 < s.allocationSum := by decide +kernel

/-- Port 3 FULL with the low and recovery counts of the pool. -/
def counted3 (derate : Bool) (low recovery : Nat) : State :=
  { full3 with pool := { full3.pool with derate := derate, lowCount := low, recoveryCount := recovery } }

theorem witness_PoolSamplesAreCounted :
    (cfg.running ∧ cfg.pool.sampleTimer = some 1000500 ∧ cfg.link.opState = .config)
      ∧ ∀ x ∈ [(false, 3, 0, 21500), (false, 3, 0, 21499), (false, 4, 0, 21499), (true, 0, 98, 22000), (true, 0, 98, 21999)],
        let s := counted3 x.1 x.2.1 x.2.2.1
        s.running ∧ s.link.opState = .run ∧ s.pool.sampleTimer = some 1000500 ∧ s.pool.settings.kill ≤ x.2.2.2
          ∧ s.summedCurrent ≤ s.pool.settings.trip ∧ s.pool.derate = x.1 ∧ s.pool.lowCount = x.2.1
          ∧ s.pool.recoveryCount = x.2.2.1 ∧ s.pool.settings.derate = 21500 ∧ s.pool.queue = []
          ∧ s.allocationSum ≤ s.pool.settings.budget * 3 / 4 := by decide +kernel

/-- The sample that ends DERATE, with port 5 SHED and an entry at the head of the queue that stays. -/
theorem witness_PoolSamplesAreCounted_derateEnds :
    let s : State := { (counted3 true 0 99).onFeed 5 (fun f => { f with power := .shed }) with
      pool := { (counted3 true 0 99).pool with queue := [⟨3, .surcharge, 200000, 1, 4⟩] } }
    s.running ∧ s.link.opState = .run ∧ s.pool.sampleTimer = some 1000500 ∧ s.pool.settings.kill ≤ 22000
      ∧ s.summedCurrent ≤ s.pool.settings.trip ∧ s.pool.derate = true ∧ s.pool.settings.derate + 500 ≤ 22000
      ∧ s.pool.recoveryCount = 99 ∧ (∀ a ∈ s.pool.queue.head?, s.pool.settings.budget < s.allocationSum + a.amount)
      ∧ (s.port 5).feed.power = .shed := by decide +kernel

/-- The pool of 3.6 with a trip count and a current in port 0. -/
def tripping (trips : Nat) (current : Half) : State :=
  { pool36.onFeed 0 (fun f => { f with lastSample := current }) with
    pool := { pool36.pool with lowCount := 3, tripCount := trips } }

theorem witness_FeedKillHaltsThePorts :
    (∀ x ∈ [(0, 0, 18999), (1, 65535, 19000)],
      let s := tripping x.1 x.2.1
      s.running ∧ s.link.opState = .run ∧ s.pool.sampleTimer = some 1000500 ∧ s.pool.feedEnable = true
        ∧ s.pool.settings.kill = 19000 ∧ (x.2.2 < 19000 ∨ 1 ≤ s.pool.tripCount ∧ s.pool.settings.trip < s.summedCurrent)
        ∧ (s.pool.derate = false ∧ s.pool.lowCount < 4)
        ∧ ∀ a ∈ s.pool.queue, (s.port a.port).feed.power.feedOn = true ∨ (s.port a.port).feed.power = .bootWait)
      ∧ ([0, 1, 2, 5].map fun p => (pool36.port p).feed.power) = [.full, .full, .fullWait, .bootWait] := by
  decide +kernel

/-- Port 3 with one entry in the admission queue. -/
def admitting (type : RequestType) (w : PowerState) (l : LinkState) : State :=
  { run.onPort 3 (fun x => { x with
      feed := { x.feed with power := w }, tether := { x.tether with link := l }
      capture := { x.capture with exposure := some exposure40 }, lens := { x.lens with kind := .fixed } }) with
    pool := { run.pool with queue := [⟨3, type, 5000, 1, 6⟩], stamp := 7, admitted := [3, 4] } }

theorem witness_AdmissionsServeTheHead :
    (run.running ∧ run.pool.queue = [])
      ∧ ((∃ rest, pool36.pool.queue = ⟨2, .full, 7161, 3, 3⟩ :: rest)
        ∧ pool36.pool.effectiveBudget < pool36.allocationSum + 7161)
      ∧ (∀ x ∈ [(RequestType.boot, PowerState.bootWait, LinkState.down), (.full, .fullWait, .up), (.surcharge, .full, .up)],
        let s := admitting x.1 x.2.1 x.2.2
        s.running ∧ s.pool.queue = [⟨3, x.1, 5000, 1, 6⟩] ∧ s.allocationSum + 5000 ≤ s.pool.effectiveBudget
          ∧ (s.port 3).feed.power = x.2.1 ∧ (s.port 3).tether.link = x.2.2 ∧ (s.port 3).lens.kind.motorized = false
          ∧ (s.port 3).capture.exposure ≠ none) :=
  ⟨by decide, ⟨⟨_, rfl⟩, by decide +kernel⟩, by decide +kernel⟩

theorem witness_OutputArbiterPicks :
    (arbitration 0 7 [0, 4]).eligible 4 = true
      ∧ (∀ p, (({ run with ports := Vector.replicate 8 { ingress := { queue :=
            [⟨true, { kind := .line, frame := 1, sequence := 1, damaged := false, payload := [1] }⟩] } } } : State)).eligible p
          = true)
      ∧ ((arbitration 8 6 [1, 4]).running ∧ (arbitration 8 6 [1, 4]).output.sending = none
        ∧ (arbitration 8 6 [1, 4]).output.holdPin = false ∧ (arbitration 8 6 [1, 4]).outputPick = some (4, .high)
        ∧ ((arbitration 8 6 [1, 4]).port 4).ingress.queue ≠ [])
      ∧ (arbitration 4 6 [1, 4]).outputPick = some (1, .low) ∧ run.outputPick = none := by decide +kernel

/-- In the HIGH rotation after port 4 come ports 5 to 7, LOW and port 0. With ports 0 and 6 waiting, port 6 in LOW: at
LOW (k = 3) the LOW rotation after port 1 reaches port 6 (m = 4). With port 0 alone, its own position (k = 4). -/
theorem witness_OutputArbiterPicks_rotation :
    (∀ x ∈ [(3, [0, 6]), (4, [0])], ∀ j < x.1, ∀ q, (arbitration 4 1 x.2).eligible q = true →
        (((arbitration 4 1 x.2).port q).feed.settings.outputGroup = .high → q.val ≠ (4 + 1 + j) % 9)
        ∧ (((arbitration 4 1 x.2).port q).feed.settings.outputGroup = .low → (4 + 1 + j) % 9 ≠ 8))
      ∧ ((4 + 1 + 3) % 9 = 8 ∧ (6 : PortId).val = (1 + 1 + 4) % 8 ∧ (arbitration 4 1 [0, 6]).eligible 6 = true
        ∧ ((arbitration 4 1 [0, 6]).port 6).feed.settings.outputGroup = .low)
      ∧ (∀ j < 4, ∀ q : PortId, q.val = (1 + 1 + j) % 8 → (arbitration 4 1 [0, 6]).eligible q = true →
          ((arbitration 4 1 [0, 6]).port q).feed.settings.outputGroup = .high)
      ∧ ((0 : PortId).val = (4 + 1 + 4) % 9 ∧ (arbitration 4 1 [0]).eligible 0 = true
        ∧ ((arbitration 4 1 [0]).port 0).feed.settings.outputGroup = .high) :=
  ⟨by decide +kernel, by decide +kernel, by decide +kernel, by decide +kernel⟩

/-- A transmission of port 3's head under HOLD. -/
def held3 (reserve flushed : Bool) : State :=
  { credits 12 2 with output := { run.output with
      holdPin := true
      sending := some
        { port := 3, reserve := reserve, egress := 0, flushed := flushed
          packet := { kind := .line, frame := 7, sequence := 1, damaged := false, payload := [1] } } } }

theorem witness_TransmissionsFreeTheirSlots :
    (held3 true false).output.holdPin = true ∧ (run.output.holdPin = false ∧ run.running)
      ∧ ((held3 true false).running ∧ (held3 true false).output.sending ≠ none)
      ∧ (∀ r ∈ [true, false], ∀ f ∈ [true, false], ((held3 r f).output.sending.map fun x => (x.reserve, x.flushed)) = some (r, f)
        ∧ (held3 r f).relay = [] ∧ (held3 r f).output.holdPin = true)
      ∧ (((held3 false false).onTether 3 fun t => { t with channel := some .wake }).port 3).tether.channel ≠ none := by
  decide +kernel

/-- Port 3 with its LIVE place taken, or its FULL measurement offered. -/
def meter3 (live : Bool) (offered : Option PortId) (l : LinkState) (w : PowerState) (x : Timebase) : State :=
  { full3.onPort 3 (fun y => { y with tether := { y.tether with link := l }, feed := { y.feed with power := w } }) with
    meter := { livePlaces := (Vector.replicate 8 false).set 3 live, offered := offered, timebase := x } }

theorem witness_MeterGrantsAndLiveShots :
    ((meter3 true none .locking .full {}).running ∧ (meter3 true none .locking .full {}).meter.holder = none
        ∧ (meter3 true none .locking .full {}).meter.pendingCal = false
        ∧ (meter3 true none .locking .full {}).meter.livePlaces = (Vector.replicate 8 false).set 3 true
        ∧ ((meter3 true none .locking .full {}).port 3).tether.link = .locking
        ∧ ((meter3 true none .locking .full {}).port 3).tether.session = some { helloTaken := true, upReached := true })
      ∧ (((meter3 true none .up .full {}).port 3).tether.link ≠ .locking ∧ (meter3 true none .up .full {}).meter.offered = none)
      ∧ ((meter3 false (some 3) .quiet .full {}).meter.offered = some 3
        ∧ (meter3 false (some 3) .quiet .full {}).meter.livePlaces = Vector.replicate 8 false
        ∧ ((meter3 false (some 3) .quiet .full {}).port 3).feed.power.feedOn = true)
      ∧ (((meter3 false (some 3) .quiet .disabled {}).port 3).feed.power.feedOn = false
        ∧ ((meter3 false (some 3) .quiet .disabled {}).port 3).tether.link = .quiet
        ∧ (meter3 false (some 3) .quiet .disabled {}).meter.timebase.everCompleted = false)
      ∧ ((meter3 false (some 3) .quiet .disabled { tb36 with ageTimer := some 5 }).meter.timebase.ageTimer ≠ none
        ∧ (meter3 false (some 3) .quiet .disabled { tb36 with ageTimer := some 5 }).meter.timebase.valid = true)
      ∧ (({ full3 with meter := { holder := some (.live 3, 1000999) } } : State).running
        ∧ ({ full3 with meter := { holder := some (.live 3, 1000999) } } : State).meter.livePlaces = Vector.replicate 8 false) := by
  decide +kernel

theorem witness_FullMeasurementsAreJudged :
    ∀ x ∈ [(Purpose.host, PowerState.disabled), (.reaction .linkLost, .diagnosing), (.learn, .disabled)],
      let s := measured x.1 x.2 (some ⟨236, .positive, 500, 247, false, false⟩)
      s.running ∧ s.meter.holder = some (.full 3 true false [], 1000999)
        ∧ s.breaks.queue = [{ port := 3, purpose := x.1, joined := 4 }] ∧ (s.port 3).tether.link = .quiet
        ∧ s.meter.pendingCal = false ∧ s.meter.livePlaces = Vector.replicate 8 false ∧ s.meter.offered = none
        ∧ (combineShots ([shot 158 (-512), shot 158 (-512), shot 158 (-512), []].map (shotEcho 100)) s.meter.timebase 660).echo
          ≠ none
        ∧ (combineShots ([[], [], [], []].map (shotEcho 100)) s.meter.timebase 660).echo = none
        ∧ ([] : List (Option Echo)).length + (shot 158 (-512) :: [some [], none, some []].filterMap id).length < 4
        ∧ ([] : List (Option Echo)).length + (shot 158 (-512) :: [some [], some [], some []].filterMap id).length = 4 := by decide +kernel

theorem witness_FlexWindowsAndDischarges :
    ((flex3 3).running ∧ ((flex3 3).port 3).cable.flexTimer = some 1500000
        ∧ 4 * ((flex3 3).port 3).cable.flex.lockLosses + ((flex3 3).port 3).cable.flex.crcBad
          < ((flex3 3).port 3).feed.settings.flexThreshold)
      ∧ (((flex3 4).port 3).feed.settings.flexThreshold
          ≤ 4 * ((flex3 4).port 3).cable.flex.lockLosses + ((flex3 4).port 3).cable.flex.crcBad
        ∧ ((flex3 4).port 3).cable.reactions.get FaultKind.intermittent.index = .report)
      ∧ (({ calibrating with breaks := { queue := [⟨3, .host, 4⟩], dischargeTimer := some 1000009 } } : State).running
        ∧ calibrating.meter.holder ≠ none) := by decide +kernel

/-- A hub with every queue full: 32 notices, 8 reply entries, 32 findings. -/
def brimful : State :=
  { full3 with
    link := { (queued 32) with opState := .run, written := List.replicate 8 ⟨0x03, 1, 0xFF, .done, []⟩ }
    breaks := { findings := List.replicate 32 ⟨0, 3, .noBreak, none, none, .diagnosis, {}, 1, none⟩ }
    pending := [.lockCheckExpiry 3] }

theorem witness_QueuesStayWithinTheirRoom :
    (∃ t, step brimful = .next t) ∧ brimful.noticesFit ∧ brimful.repliesFit ∧ brimful.findingsFit := by
  refine ⟨⟨_, rfl⟩, ?_⟩
  unfold State.noticesFit State.repliesFit State.findingsFit
  decide +kernel

/-- Port 3 with four pending triggers and a program of eight steps, its cursor at the last. -/
def programmed : State :=
  { both3 (fun x => { x with capture := { x.capture with
      queue := [waiting 1 none, waiting 2 none, waiting 3 none, waiting 0 none]
      program := List.replicate 8 ⟨some 15, 1000000⟩, cursor := 7, staged := some [⟨none, 1⟩] } }) with
    pending := [.triggerPinEdge 2 true] }

theorem witness_CaptureQueuesAndProgramsKeepTheirLaws :
    (∃ t, step programmed = .next t) ∧ programmed.triggersFit ∧ programmed.programsFit := by
  refine ⟨⟨_, rfl⟩, ?_, ?_⟩
  · unfold State.triggersFit Capture.queueLaw
    decide +kernel
  · have h : ∀ p, programLaw (programmed.port p).capture.program
        ∧ programLaw ((programmed.port p).capture.staged.getD [])
        ∧ ((programmed.port p).capture.cursor = 0
          ∨ (programmed.port p).capture.cursor < (programmed.port p).capture.program.length) := by
      unfold programLaw
      decide +kernel
    exact fun p => ⟨(h p).1, fun l hl => by simpa [hl] using (h p).2.1, (h p).2.2⟩

theorem witness_SettingsStayInTheirRanges :
    (∃ t, step { cfg with pending := [.setPool h3 ⟨31, 120001, 48001, 9499, 8999, 99⟩] } = .next t) ∧ cfg.settingsFit := by
  refine ⟨⟨_, rfl⟩, ?_⟩
  unfold State.settingsFit PoolSettings.law CableKind.law PortSettings.law Preset.law
  decide +kernel

theorem witness_FewCommandsChangeTheOperatingState :
    ∃ t, exec .selfCheckPass State.reset = .next t ∧ t.link.opState ≠ State.reset.link.opState :=
  ⟨_, rfl, by decide⟩

end Sys2Proof.Tests
end

section
/-! The feed calculation (R55, R56): the bounds of its stages in the ranges of R48 and R153, and its monotonicity in the
power. -/

namespace Sys2Proof.Machine

theorem ceilDiv_mono {a a' : Nat} (b : Nat) (h : a ≤ a') : ceilDiv a b ≤ ceilDiv a' b :=
  Nat.div_le_div_right (by omega)

theorem ceilDiv_thousand (a : Nat) : ceilDiv a 1000 = (a + 999) / 1000 :=
  congrArg (· / 1000) (Nat.add_sub_assoc (by decide) a)

theorem ceilDiv_million (a : Nat) : ceilDiv a 1000000 = (a + 999999) / 1000000 :=
  congrArg (· / 1000000) (Nat.add_sub_assoc (by decide) a)

/-- R from length in the ranges of R48 and R153 (R55). -/
theorem rFromLength_le (k : CableKind) (l : Nat) (hl : l ≤ 9999) (hk : k.law) : rFromLength k l ≤ 204980 := by
  obtain ⟨-, -, -, hloop, hconnector⟩ := hk
  have hproduct : l * k.loop ≤ 9999 * 2000 := Nat.mul_le_mul hl hloop
  simp only [rFromLength, roundHalfUp]
  omega

/-- The CURRENT stage stays at 2 A in the ranges of R48: 18 W at 9 V (R56). -/
theorem feedCurrent_le (power vMin : Nat) (hp : power ≤ 18000) (hv : 9000 ≤ vMin) :
    ceilDiv (power * 1000) vMin ≤ 2000 := by
  refine Nat.lt_succ_iff.mp ((Nat.div_lt_iff_lt_mul (by omega)).mpr ?_)
  omega

/-- When the feed calculation succeeds, and with what: every stage passes (R56). -/
theorem feedCalculation_feasible_iff (power vPool vMin r effective figure estimate : Nat) :
    feedCalculation power vPool vMin r effective = .feasible figure estimate ↔
      estimate = ceilDiv (power * 1000) vMin ∧ figure = power + ceilDiv (estimate * estimate * r) 1000000
        ∧ estimate ≤ 3000 ∧ vMin + ceilDiv (estimate * r) 1000 ≤ vPool ∧ figure ≤ effective := by
  simp only [feedCalculation]
  constructor
  · intro h
    split_ifs at h
    obtain ⟨rfl, rfl⟩ := FeedResult.feasible.inj h
    exact ⟨rfl, rfl, by omega, by omega, by omega⟩
  · rintro ⟨rfl, rfl, hcurrent, hdrop, hbudget⟩
    rw [if_neg (by omega), if_neg (by omega), if_neg (by omega)]

/-- What succeeds for a power succeeds for a smaller one, with a smaller figure and estimate (R56). -/
theorem feedCalculation_mono (p q vPool vMin r effective figure estimate : Nat) (hpq : p ≤ q)
    (h : feedCalculation q vPool vMin r effective = .feasible figure estimate) :
    ∃ figure' estimate', feedCalculation p vPool vMin r effective = .feasible figure' estimate' ∧ figure' ≤ figure
      ∧ estimate' ≤ estimate := by
  obtain ⟨rfl, rfl, hcurrent, hdrop, hbudget⟩ := (feedCalculation_feasible_iff ..).mp h
  have hestimate : ceilDiv (p * 1000) vMin ≤ ceilDiv (q * 1000) vMin := ceilDiv_mono vMin (by omega)
  have hdrops := ceilDiv_mono 1000 (Nat.mul_le_mul_right r hestimate)
  have hlosses := ceilDiv_mono 1000000 (Nat.mul_le_mul_right r (Nat.mul_le_mul hestimate hestimate))
  exact ⟨_, _, (feedCalculation_feasible_iff p vPool vMin r effective _ _).mpr
    ⟨Eq.refl _, Eq.refl _, hestimate.trans hcurrent, (Nat.add_le_add_left hdrops vMin).trans hdrop,
      (Nat.add_le_add hpq hlosses).trans hbudget⟩, Nat.add_le_add hpq hlosses, hestimate⟩

/-- Settles O46, from the bounds of R55 and R56 and the monotonicity of the feed calculation. -/
theorem feedFiguresFollowTheirFormulas : Obligations.FeedFiguresFollowTheirFormulas := by
  refine ⟨fun k l => ⟨rfl, rFromLength_le k l⟩, ?_, feedCalculation_mono⟩
  intro power vPool vMin r effective current loss _ hcurrent hloss
  have hestimate : ceilDiv (power * 1000) vMin = current := hcurrent.symm
  constructor
  · simp only [feedCalculation, hestimate, ceilDiv_thousand, ceilDiv_million, hloss]
  · exact hestimate ▸ feedCurrent_le power vMin

end Sys2Proof.Machine
end

section
/-! The feed cut (R29): the teardown of a port reaches its own column, its entry in the pool, the written replies and the
notices of the event, and leaves work for the arbiters only. -/

namespace Sys2Proof.Machine

/-! ### A teardown at one port -/

/-- The work a feed cut leaves: a serving pass and the picks of the two arbiters. -/
def Task.arbitrates : Task → Bool
  | .serve | .output | .meter => true
  | .examine _ | .handIn _ | .channel _ => false

/-- The feed controller of a port and the pool's figures for it. -/
def Port.supply (x : Port) : Feed × PoolPort := (x.feed, x.pool)

/-- A part of a feed cut at port p takes e to e' and keeps the given view of the port's column. -/
structure Ev.Teardown {α : Type} (view : Port → α) (p : PortId) (e e' : Ev) : Prop where
  others : ∀ q, q ≠ p → e'.port q = e.port q
  kept : view (e'.port p) = view (e.port p)
  pool : e'.pool = e.pool
  link : e'.link = { e.link with written := e'.link.written }
  before : e'.before = e.before
  poolOffers : e'.poolOffers = e.poolOffers
  offers : e.offers ⊆ e'.offers
  todo : ∀ t ∈ e'.todo, t ∈ e.todo ∨ t.arbitrates = true

section Parts

variable {α β : Type} {view : Port → α} {p : PortId} {e e' e'' : Ev}

theorem Ev.Teardown.refl (view : Port → α) (p : PortId) (e : Ev) : e.Teardown view p e :=
  ⟨fun _ _ => rfl, rfl, rfl, rfl, rfl, rfl, List.Subset.refl _, fun _ => .inl⟩

theorem Ev.Teardown.trans (h : e.Teardown view p e') (h' : e'.Teardown view p e'') : e.Teardown view p e'' where
  others q hq := (h'.others q hq).trans (h.others q hq)
  kept := h'.kept.trans h.kept
  pool := h'.pool.trans h.pool
  link := by rw [h'.link, h.link]
  before := h'.before.trans h.before
  poolOffers := h'.poolOffers.trans h.poolOffers
  offers := List.Subset.trans h.offers h'.offers
  todo t ht := (h'.todo t ht).elim (h.todo t) .inr

/-- What is kept of a view is kept of every function of it. -/
theorem Ev.Teardown.map (g : α → β) (h : e.Teardown view p e') : e.Teardown (g ∘ view) p e' :=
  { h with kept := congrArg g h.kept }

theorem Ev.Teardown.foldl (f : Ev → β → Ev) (h : ∀ e b, Ev.Teardown view p e (f e b)) (l : List β) (e : Ev) :
    e.Teardown view p (l.foldl f e) := by
  induction l generalizing e with
  | nil => exact .refl view p e
  | cons b l ih => exact (h e b).trans (ih _)

theorem Ev.Teardown.updPort (e : Ev) (f : Port → Port) (hf : ∀ x, view (f x) = view x := by intro; rfl) :
    e.Teardown view p (e.updPort p f) :=
  { Ev.Teardown.refl view p e with
    others := fun q hq => by simp [Ev.port_updPort, hq]
    kept := by simp [Ev.port_updPort, hf] }

theorem Ev.Teardown.offer (view : Port → α) (p : PortId) (e : Ev) (n : Notice) : e.Teardown view p (e.offer n) :=
  { Ev.Teardown.refl view p e with offers := List.subset_append_left _ _ }

theorem Ev.Teardown.push (view : Port → α) (p : PortId) (e : Ev) (t : Task) (ht : t.arbitrates = true) :
    e.Teardown view p (e.push t) :=
  { Ev.Teardown.refl view p e with
    todo := fun u hu => (List.mem_append.mp hu).imp_right fun h => by rwa [List.mem_singleton.mp h] }

theorem Ev.Teardown.updMeter (view : Port → α) (p : PortId) (e : Ev) (f : Meter → Meter) :
    e.Teardown view p (e.updMeter f) :=
  { Ev.Teardown.refl view p e with }

theorem Ev.Teardown.setRelay (view : Port → α) (p : PortId) (e : Ev) (l : List RelayEntry) :
    e.Teardown view p (e.setRelay l) :=
  { Ev.Teardown.refl view p e with }

theorem Ev.Teardown.writeReply (view : Port → α) (p : PortId) (e : Ev) (r : Reply) :
    e.Teardown view p (e.writeReply r) :=
  { Ev.Teardown.refl view p e with link := rfl }

end Parts

/-! ### The link (R15, R16, R123) -/

theorem Ev.truncateFrame_teardown (e : Ev) (p : PortId) (next : FrameRecord) :
    e.Teardown Port.supply p (e.truncateFrame p next) := by
  simp only [Ev.truncateFrame]
  split
  · split
    · exact .trans (.trans (.updPort _ _) (.updPort _ _)) (.updPort _ _)
    · exact .trans (.trans (.updPort _ _) (.updPort _ _)) (.push _ _ _ _ rfl)
  · exact .refl ..
  · exact .refl ..

theorem Ev.ingressLinkLost_teardown (e : Ev) (p : PortId) : e.Teardown Port.supply p (e.ingressLinkLost p) := by
  unfold Ev.ingressLinkLost
  split
  · exact Ev.truncateFrame_teardown ..
  · exact .updPort _ _
  · exact .refl ..

theorem Ev.leaveUp_teardown (e : Ev) (p : PortId) : e.Teardown Port.supply p (e.leaveUp p) :=
  .trans (.updPort _ _) (Ev.ingressLinkLost_teardown _ p)

theorem Ev.cutLive_teardown {α : Type} (view : Port → α) (e : Ev) (p : PortId) : e.Teardown view p (e.cutLive p) := by
  unfold Ev.cutLive
  split
  · split
    · exact .trans (.trans (.updMeter ..) (.updMeter ..)) (.push _ _ _ _ rfl)
    · exact .refl ..
  · exact .refl ..

/-- A change of link state changes nothing but the tether port of the column (R7, R184). -/
theorem Ev.setLink_teardown (e : Ev) (p : PortId) (new : LinkState) :
    e.Teardown (fun x => { x with tether := {} }) p (e.setLink p new) := by
  simp only [Ev.setLink]
  split
  · exact .refl ..
  · split
    · exact .trans (.trans (.updPort _ _) (.offer ..)) (Ev.cutLive_teardown ..)
    · exact .trans (.updPort _ _) (.offer ..)

theorem Ev.setLink_link (e : Ev) (p : PortId) (new : LinkState) : ((e.setLink p new).port p).tether.link = new := by
  have hcut (e : Ev) : (e.cutLive p).port p = e.port p := (Ev.cutLive_teardown id e p).kept
  have hoffer (e : Ev) (n : Notice) : (e.offer n).port p = e.port p := rfl
  simp only [Ev.setLink]
  split
  · assumption
  · split <;> simp [hcut, hoffer]

theorem Ev.enterOff_link (e : Ev) (p : PortId) (target : LinkState) :
    ((e.enterOff p target).port p).tether.link = target := Ev.setLink_link _ p target

theorem Ev.enterOff_teardown (e : Ev) (p : PortId) (target : LinkState) :
    e.Teardown Port.supply p (e.enterOff p target) := by
  have hup : e.Teardown Port.supply p (if (e.port p).tether.link = .up then e.leaveUp p else e) := by
    split
    · exact e.leaveUp_teardown p
    · exact .refl ..
  exact .trans (.trans (.trans hup (.updPort _ _)) (.updPort _ _)) ((Ev.setLink_teardown _ p target).map Port.supply)

/-! ### The lens, the triggers and the camera accesses (R90, R107, R141) -/

theorem Ev.lensAbsent_teardown (e : Ev) (p : PortId) :
    e.Teardown (fun x => { x with lens := {} }) p (e.lensAbsent p) := by
  simp only [Ev.lensAbsent, Ev.lensNotice]
  split
  · exact .updPort _ _
  · split
    · exact .updPort _ _
    · exact .trans (.updPort _ _) (.offer ..)

@[simp] theorem Ev.lensAbsent_tether (e : Ev) (p : PortId) : ((e.lensAbsent p).port p).tether = (e.port p).tether :=
  ((e.lensAbsent_teardown p).map Port.tether).kept

@[simp] theorem Ev.lensAbsent_state (e : Ev) (p : PortId) : ((e.lensAbsent p).port p).lens.state = .absent := by
  have hoffer (e : Ev) (n : Notice) : (e.offer n).port p = e.port p := rfl
  simp only [Ev.lensAbsent, Ev.lensNotice]
  split
  · simp
  · split <;> simp [hoffer]

theorem Ev.dispose_teardown (e : Ev) (p : PortId) (d : Disposal) (tag : Half) (source : Source) (step : StepRef)
    (preset : Option PresetId) :
    e.Teardown (fun x => { x with capture := {} }) p (e.dispose p d tag source step preset) := by
  cases d with
  | silent => exact .updPort _ _
  | drop reason => exact .trans (.updPort _ _) (.offer ..)

theorem Ev.cutCapture_teardown (e : Ev) (p : PortId) (d : Disposal) (notSent : Bool) :
    e.Teardown (fun x => { x with capture := {} }) p (e.cutCapture p d notSent) := by
  simp only [Ev.cutCapture]
  refine .trans (.trans ?_ (.foldl _ (fun y t => y.dispose_teardown ..) _ _)) (.updPort _ _)
  split
  · exact .refl ..
  · split
    · exact e.dispose_teardown ..
    · exact .updPort _ _

@[simp] theorem Ev.cutCapture_tether (e : Ev) (p : PortId) (d : Disposal) (notSent : Bool) :
    ((e.cutCapture p d notSent).port p).tether = (e.port p).tether :=
  ((e.cutCapture_teardown p d notSent).map Port.tether).kept

@[simp] theorem Ev.cutCapture_lens (e : Ev) (p : PortId) (d : Disposal) (notSent : Bool) :
    ((e.cutCapture p d notSent).port p).lens = (e.port p).lens :=
  ((e.cutCapture_teardown p d notSent).map Port.lens).kept

@[simp] theorem Ev.cutCapture_queue (e : Ev) (p : PortId) (d : Disposal) (notSent : Bool) :
    ((e.cutCapture p d notSent).port p).capture.queue = [] := by
  simp [Ev.cutCapture]

theorem Ev.relayReply_teardown (e : Ev) (p : PortId) (r : Reply) :
    e.Teardown (fun x => { x with relay := {} }) p (e.relayReply p r) :=
  .trans (.writeReply ..) (.updPort _ _)

theorem Ev.relayAbort_teardown (e : Ev) (p : PortId) :
    e.Teardown (fun x => { x with relay := {} }) p (e.relayAbort p) :=
  .trans (.setRelay ..) (.foldl _ (fun y _ => y.relayReply_teardown p _) _ _)

@[simp] theorem Ev.relayAbort_tether (e : Ev) (p : PortId) : ((e.relayAbort p).port p).tether = (e.port p).tether :=
  ((e.relayAbort_teardown p).map Port.tether).kept

@[simp] theorem Ev.relayAbort_lens (e : Ev) (p : PortId) : ((e.relayAbort p).port p).lens = (e.port p).lens :=
  ((e.relayAbort_teardown p).map Port.lens).kept

@[simp] theorem Ev.relayAbort_capture (e : Ev) (p : PortId) : ((e.relayAbort p).port p).capture = (e.port p).capture :=
  ((e.relayAbort_teardown p).map Port.capture).kept

/-! ### The allocation (R63) -/

/-- The queue without a port's entry; the stamp counter follows R58. -/
theorem Ev.dropEntry_eq (e : Ev) (p : PortId) :
    ∃ stamp work, (∀ t ∈ work, t.arbitrates = true) ∧ e.dropEntry p =
      { e with
        pool := { e.pool with queue := e.pool.queue.filter fun a => decide (a.port ≠ p), stamp := stamp }
        todo := e.todo ++ work } := by
  unfold Ev.dropEntry
  split
  · exact ⟨_, [.serve], by simp [Task.arbitrates], rfl⟩
  · next h =>
    have hqueue : (e.pool.queue.filter fun a => decide (a.port ≠ p)) = e.pool.queue := by
      simpa [List.filter_eq_self] using h
    exact ⟨e.pool.stamp, [], by simp, by rw [hqueue, List.append_nil]⟩

/-- A release sets the port's figures to 0 and takes it out of the admitted-port list and the queue (R63). -/
theorem Ev.releaseAllocation_eq (e : Ev) (p : PortId) :
    ∃ stamp work, (∀ t ∈ work, t.arbitrates = true) ∧ e.releaseAllocation p =
      { e with
        ports := modifyAt e.ports p fun x => { x with pool := { x.pool.clearFigures with base := 0, surcharge := 0 } }
        pool := { e.pool with
          admitted := e.pool.admitted.filter fun x => decide (x ≠ p)
          queue := e.pool.queue.filter fun a => decide (a.port ≠ p), stamp := stamp }
        todo := e.todo ++ work } := by
  obtain ⟨stamp, work, hwork, h⟩ :=
    ((e.updFigures p fun q => { q.clearFigures with base := 0, surcharge := 0 }).updPool fun q =>
      { q with admitted := q.admitted.filter fun x => decide (x ≠ p) }).dropEntry_eq p
  refine ⟨stamp, work ++ [.serve], by simpa [or_imp, forall_and, Task.arbitrates] using hwork, ?_⟩
  rw [Ev.releaseAllocation, h]
  simp [Ev.push, Ev.updFigures, Ev.updPort, Ev.updPool]

/-! ### The feed cut (R29) -/

/-- The part of a feed cut in the feed controller and the pool. -/
def Ev.cutSupply (e : Ev) (p : PortId) (dest : PowerState) (cause : PowerCause) : Ev :=
  ((e.updFeed p fun f => f.cut e.time).setPower p dest cause).releaseAllocation p

/-- The part of a feed cut in the other blocks of the port. -/
def Ev.cutNeighbours (e : Ev) (p : PortId) (target : LinkState) (d : Disposal) (notSent : Bool) : Ev :=
  ((((e.updCable p Cable.endSession).enterOff p target).lensAbsent p).cutCapture p d notSent).relayAbort p

theorem Ev.feedCut_eq (e : Ev) (p : PortId) (dest : PowerState) (cause : PowerCause) (link : LinkState) (d : Disposal) :
    e.feedCut p dest cause link d = (e.cutSupply p dest cause).cutNeighbours p
      (if (e.port p).tether.link = .quiet then .quiet else link) d (e.port p).tether.triggerUnsent := rfl

theorem Ev.cutNeighbours_teardown (e : Ev) (p : PortId) (target : LinkState) (d : Disposal) (notSent : Bool) :
    e.Teardown Port.supply p (e.cutNeighbours p target d notSent) :=
  .trans (.trans (.trans (.trans (.updPort _ _) (Ev.enterOff_teardown _ p target))
    ((Ev.lensAbsent_teardown _ p).map Port.supply)) ((Ev.cutCapture_teardown _ p d notSent).map Port.supply))
    ((Ev.relayAbort_teardown _ p).map Port.supply)

/-- Each block of the port is torn down, and what follows leaves it so. -/
theorem Ev.cutNeighbours_column (e : Ev) (p : PortId) (target : LinkState) (d : Disposal) (notSent : Bool) :
    ((e.cutNeighbours p target d notSent).port p).tether.link = target
      ∧ ((e.cutNeighbours p target d notSent).port p).lens.state = .absent
      ∧ ((e.cutNeighbours p target d notSent).port p).capture.queue = [] := by
  simp [Ev.cutNeighbours, Ev.enterOff_link]

/-- A feed cut at port p takes e to e' (R29, R63, R90, R107, R141). -/
structure Ev.FeedCut (p : PortId) (dest : PowerState) (cause : PowerCause) (link : LinkState) (e e' : Ev) : Prop where
  others : ∀ q, q ≠ p → e'.port q = e.port q
  feed : (e'.port p).feed = ((e.port p).feed.cut e.time).enter dest
  base : (e'.port p).pool.base = 0
  surcharge : (e'.port p).pool.surcharge = 0
  lens : (e'.port p).lens.state = .absent
  triggers : (e'.port p).capture.queue = []
  tether : (e'.port p).tether.link = if (e.port p).tether.link = .quiet then .quiet else link
  pool : ∃ stamp, e'.pool = { e.pool with
    admitted := e.pool.admitted.filter fun x => decide (x ≠ p)
    queue := e.pool.queue.filter fun a => decide (a.port ≠ p), stamp := stamp }
  written : e'.link = { e.link with written := e'.link.written }
  before : e'.before = e.before
  poolOffers : e'.poolOffers = e.poolOffers
  told : .power p cause ∈ e'.offers
  offers : ∀ o ∈ e.offers, o.isPower p = false → o ∈ e'.offers
  todo : ∀ t ∈ e'.todo, t ∈ e.todo ∨ t.arbitrates = true

/-- The part of a feed cut in the feed controller and the pool, told by a POWER_CHANGE (R29, R30, R63). -/
theorem Ev.cutSupply_eq (e : Ev) (p : PortId) (dest : PowerState) (cause : PowerCause) :
    ∃ stamp work, (∀ t ∈ work, t.arbitrates = true) ∧ e.cutSupply p dest cause =
      { e with
        ports := modifyAt e.ports p fun x => { x with
          feed := (x.feed.cut e.time).enter dest
          pool := { x.pool.clearFigures with base := 0, surcharge := 0 } }
        pool := { e.pool with
          admitted := e.pool.admitted.filter fun x => decide (x ≠ p)
          queue := e.pool.queue.filter fun a => decide (a.port ≠ p), stamp := stamp }
        offers := (e.offers.filter fun o => !o.isPower p) ++ [.power p cause]
        todo := e.todo ++ work } := by
  obtain ⟨stamp, work, hwork, h⟩ :=
    ((e.updFeed p fun f => f.cut e.time).setPower p dest cause).releaseAllocation_eq p
  refine ⟨stamp, work, hwork, ?_⟩
  rw [Ev.cutSupply, h]
  simp [Ev.setPower, Ev.markPower, Ev.updFeed, Ev.updPort]

theorem Ev.feedCut_spec (e : Ev) (p : PortId) (dest : PowerState) (cause : PowerCause) (link : LinkState)
    (d : Disposal) : Ev.FeedCut p dest cause link e (e.feedCut p dest cause link d) := by
  obtain ⟨stamp, work, hwork, hsupply⟩ := e.cutSupply_eq p dest cause
  have hrest := (e.cutSupply p dest cause).cutNeighbours_teardown p
    (if (e.port p).tether.link = .quiet then .quiet else link) d (e.port p).tether.triggerUnsent
  obtain ⟨htether, hlens, hqueue⟩ := (e.cutSupply p dest cause).cutNeighbours_column p
    (if (e.port p).tether.link = .quiet then .quiet else link) d (e.port p).tether.triggerUnsent
  rw [← Ev.feedCut_eq] at hrest htether hlens hqueue
  have hcolumn : (e.cutSupply p dest cause).port p = { e.port p with
      feed := ((e.port p).feed.cut e.time).enter dest
      pool := { (e.port p).pool.clearFigures with base := 0, surcharge := 0 } } := by
    rw [hsupply]; exact modifyAt_get ..
  have hsupplied := hrest.kept
  rw [hcolumn] at hsupplied
  obtain ⟨hfeed, hfigures⟩ := Prod.mk.inj hsupplied
  constructor
  case others =>
    intro q hq
    rw [hrest.others q hq, hsupply]
    exact modifyAt_get_other _ _ _ _ hq
  case feed => exact hfeed
  case base => rw [hfigures]
  case surcharge => rw [hfigures]
  case lens => exact hlens
  case triggers => exact hqueue
  case tether => exact htether
  case pool => exact ⟨stamp, by rw [hrest.pool, hsupply]⟩
  case written => have h := hrest.link; rwa [hsupply] at h
  case before => rw [hrest.before, hsupply]
  case poolOffers => rw [hrest.poolOffers, hsupply]
  case told => exact hrest.offers (by simp [hsupply])
  case offers =>
    intro o ho hother
    exact hrest.offers (by simp [hsupply, ho, hother])
  case todo =>
    intro t ht
    have h := hrest.todo t ht
    rw [hsupply] at h
    rcases h with h | h
    · exact (List.mem_append.mp h).imp_right (hwork t)
    · exact .inr h

end Sys2Proof.Machine
end

section
/-! Shedding (R65, R66): what a shed takes, what one shed does, and what the shed pass does. -/

namespace Sys2Proof.Machine

/-! ### The choice of a shed (R66) -/

theorem foldl_min_spec (l : List Nat) (m : Nat) :
    (l.foldl min m = m ∨ l.foldl min m ∈ l) ∧ l.foldl min m ≤ m ∧ ∀ x ∈ l, l.foldl min m ≤ x := by
  induction l generalizing m with
  | nil => simp
  | cons a l ih =>
    obtain ⟨hmem, hm, hl⟩ := ih (min m a)
    simp only [List.foldl_cons, List.mem_cons, forall_eq_or_imp]
    refine ⟨?_, by omega, by omega, hl⟩
    rcases hmem with h | h
    · rcases Nat.le_total m a with h' | h'
      · exact .inl (by omega)
      · exact .inr (.inl (by omega))
    · exact .inr (.inr h)

/-- The admitted ports whose feed is on, the latest first. -/
def State.powered (s : State) : List PortId := s.pool.admitted.reverse.filter fun p => (s.port p).feed.power.feedOn

/-- The lowest priority of the powered ports. -/
def State.lowestPriority (s : State) : Nat :=
  (s.powered.map fun p => (s.port p).feed.settings.priority).foldl min 3

theorem State.shedChoice_eq (s : State) : s.shedChoice =
    s.powered.find? fun p => decide ((s.port p).feed.settings.priority ≤ s.lowestPriority) := rfl

theorem State.mem_powered (s : State) (p : PortId) :
    p ∈ s.powered ↔ p ∈ s.pool.admitted ∧ (s.port p).feed.power.feedOn = true := by
  simp [State.powered]

theorem State.lowestPriority_le (s : State) (p : PortId) (h : p ∈ s.powered) :
    s.lowestPriority ≤ (s.port p).feed.settings.priority :=
  (foldl_min_spec _ 3).2.2 _ (List.mem_map_of_mem h)

/-- A priority within its range is met by a powered port, if there is one. -/
theorem State.lowestPriority_met (s : State) (hprio : ∀ p, (s.port p).feed.settings.priority ≤ 3) (p : PortId)
    (h : p ∈ s.powered) : ∃ q ∈ s.powered, (s.port q).feed.settings.priority ≤ s.lowestPriority := by
  obtain ⟨hthree | hmem, -⟩ := foldl_min_spec (s.powered.map fun p => (s.port p).feed.settings.priority) 3
  · exact ⟨p, h, (hprio p).trans hthree.ge⟩
  · obtain ⟨q, hq, heq⟩ := List.mem_map.mp hmem
    exact ⟨q, hq, heq.le⟩

/-- A shed finds no port exactly when no admitted port's feed is on (R66). -/
theorem State.shedChoice_eq_none (s : State) (hprio : ∀ p, (s.port p).feed.settings.priority ≤ 3) :
    s.shedChoice = none ↔ ∀ p ∈ s.pool.admitted, (s.port p).feed.power.feedOn = false := by
  simp only [State.shedChoice_eq, List.find?_eq_none, decide_eq_true_eq]
  constructor
  · intro h p hp
    by_contra hon
    obtain ⟨q, hq, hle⟩ := s.lowestPriority_met hprio p ((s.mem_powered p).mpr ⟨hp, by simpa using hon⟩)
    exact h q hq hle
  · intro h p hp
    obtain ⟨hadmitted, hon⟩ := (s.mem_powered p).mp hp
    simp [h p hadmitted] at hon

/-- A shed takes an admitted port whose feed is on. -/
theorem State.shedChoice_mem (s : State) (p : PortId) (h : s.shedChoice = some p) :
    p ∈ s.pool.admitted ∧ (s.port p).feed.power.feedOn = true :=
  (s.mem_powered p).mp (List.mem_of_find?_eq_some h)

/-- It takes the lowest priority (R66). -/
theorem State.shedChoice_lowest (s : State) (p : PortId) (h : s.shedChoice = some p) (q : PortId)
    (hq : q ∈ s.pool.admitted) (hon : (s.port q).feed.power.feedOn = true) :
    (s.port p).feed.settings.priority ≤ (s.port q).feed.settings.priority := by
  have hle := List.find?_some (s.shedChoice_eq.symm.trans h)
  exact (of_decide_eq_true hle).trans (s.lowestPriority_le q ((s.mem_powered q).mpr ⟨hq, hon⟩))

/-- Of the lowest priority it takes the latest admitted (R66). -/
theorem State.shedChoice_latest (s : State) (p : PortId) (h : s.shedChoice = some p) :
    ∃ before after, s.pool.admitted = before ++ p :: after
      ∧ ∀ q ∈ after, (s.port q).feed.power.feedOn = true →
          (s.port p).feed.settings.priority < (s.port q).feed.settings.priority := by
  rw [State.shedChoice_eq, State.powered, List.find?_filter, List.find?_eq_some_iff_append] at h
  obtain ⟨hp, later, earlier, hlist, hlater⟩ := h
  simp only [decide_eq_true_eq] at hp
  refine ⟨earlier.reverse, later.reverse, ?_, ?_⟩
  · simpa using congrArg List.reverse hlist
  · intro q hq hon
    have hnot := hlater q (List.mem_reverse.mp hq)
    simp only [hon, true_and, decide_eq_true_eq, Bool.not_eq_true', decide_eq_false_iff_not] at hnot
    omega

/-- The choice reads the admitted-port list, and of the ports in it the power state and the priority. -/
theorem State.shedChoice_congr (s t : State) (hlist : s.pool.admitted = t.pool.admitted)
    (hfeed : ∀ p ∈ s.pool.admitted, (s.port p).feed = (t.port p).feed) : s.shedChoice = t.shedChoice := by
  have hpowered : s.powered = t.powered := by
    rw [State.powered, State.powered, ← hlist]
    exact List.filter_congr fun p hp => by rw [hfeed p (List.mem_reverse.mp hp)]
  have hsame : ∀ p ∈ s.powered, (s.port p).feed = (t.port p).feed := fun p hp => hfeed p ((s.mem_powered p).mp hp).1
  have hlowest : s.lowestPriority = t.lowestPriority := by
    rw [State.lowestPriority, State.lowestPriority, ← hpowered]
    exact congrArg _ (List.map_congr_left fun p hp => by rw [hsame p hp])
  rw [State.shedChoice_eq, State.shedChoice_eq, ← hpowered, ← hlowest]
  exact List.find?_congr fun p hp => by rw [hsame p hp]

/-! ### The sum of the allocations (R53) -/

theorem State.allocationSum_eq (s : State) : s.allocationSum = ∑ p : PortId, (s.port p).pool.allocation := by
  have hports : s.ports = Vector.ofFn s.port := by ext i hi; simp [State.port, Vector.get_eq_getElem]
  rw [State.allocationSum, hports, Vector.toList_ofFn, List.map_ofFn, List.sum_ofFn]
  rfl

/-- The sum reads the pool's figures only. -/
theorem State.allocationSum_congr (s t : State) (h : ∀ p, (s.port p).pool = (t.port p).pool) :
    s.allocationSum = t.allocationSum := by
  rw [State.allocationSum_eq, State.allocationSum_eq]
  exact Finset.sum_congr rfl fun p _ => by rw [h p]

/-- Where some ports hold nothing any more and the others hold what they held, the sum has fallen by what those ports
held. -/
theorem State.allocationSum_released (s t : State) (gone : List PortId) (hnodup : gone.Nodup)
    (hgone : ∀ p ∈ gone, (t.port p).pool.allocation = 0) (hothers : ∀ p, p ∉ gone → (t.port p).pool = (s.port p).pool) :
    t.allocationSum + (gone.map fun p => (s.port p).pool.allocation).sum = s.allocationSum := by
  have hrest : ∑ p ∈ gone.toFinsetᶜ, (t.port p).pool.allocation = ∑ p ∈ gone.toFinsetᶜ, (s.port p).pool.allocation :=
    Finset.sum_congr rfl fun p hp => by rw [hothers p (by simpa using hp)]
  rw [State.allocationSum_eq, State.allocationSum_eq, ← List.sum_toFinset _ hnodup,
    ← Finset.sum_compl_add_sum gone.toFinset fun p => (s.port p).pool.allocation,
    ← Finset.sum_compl_add_sum gone.toFinset fun p => (t.port p).pool.allocation,
    Finset.sum_eq_zero fun p hp => hgone p (List.mem_toFinset.mp hp), hrest, Nat.add_zero]

/-! ### One shed (R45, R65) -/

/-- A port is SHED, with the retry count it had, and holds nothing. -/
structure Port.IsShed (x y : Port) : Prop where
  power : y.feed.power = .shed
  hold : y.feed.hold = false
  retry : y.feed.retry = x.feed.retry
  base : y.pool.base = 0
  surcharge : y.pool.surcharge = 0
  lens : y.lens.state = .absent
  triggers : y.capture.queue = []
  link : y.tether.link ≠ .up

/-- The admitted-port list without some ports, the ports as they are. -/
def State.admittedWithout (s : State) (gone : List PortId) : State :=
  { s with pool := { s.pool with admitted := s.pool.admitted.filter fun q => decide (q ∉ gone) } }

/-- The event e stands where the event e0 came to after it shed the ports gone, in this order. -/
structure Ev.Shed (e0 : Ev) (gone : List PortId) (e : Ev) : Prop where
  nodup : gone.Nodup
  fed : ∀ p ∈ gone, (e0.port p).feed.power.feedOn = true
  column : ∀ p ∈ gone, (e0.port p).IsShed (e.port p)
  others : ∀ p, p ∉ gone → e.port p = e0.port p
  pool : ∃ stamp counters, e.pool = { e0.pool with
    admitted := e0.pool.admitted.filter fun q => decide (q ∉ gone)
    queue := e0.pool.queue.filter fun a => decide (a.port ∉ gone)
    stamp := stamp, counters := counters }
  written : e.link = { e0.link with written := e.link.written }
  before : e.before = e0.before
  poolOffers : e.poolOffers = e0.poolOffers
  told : ∀ p ∈ gone, .power p .shed ∈ e.offers
  todo : ∀ t ∈ e.todo, t ∈ e0.todo ∨ t.arbitrates = true

theorem Ev.Shed.start (e : Ev) : e.Shed [] e where
  nodup := List.nodup_nil
  fed := by simp
  column := by simp
  others _ _ := rfl
  pool := ⟨e.pool.stamp, e.pool.counters, by simp⟩
  written := rfl
  before := rfl
  poolOffers := rfl
  told := by simp
  todo _ := .inl

theorem Ev.Shed.admitted {e0 e : Ev} {gone : List PortId} (h : e0.Shed gone e) :
    e.pool.admitted = e0.pool.admitted.filter fun q => decide (q ∉ gone) := by
  obtain ⟨_, _, hpool⟩ := h.pool
  rw [hpool]

/-- A shed chooses as if the ports shed before had only left the admitted-port list. -/
theorem Ev.Shed.choice {e0 e : Ev} {gone : List PortId} (h : e0.Shed gone e) :
    e.shedChoice = (e0.admittedWithout gone).shedChoice := by
  have hlist := h.admitted
  refine State.shedChoice_congr _ _ hlist fun p hp => ?_
  rw [hlist] at hp
  exact congrArg Port.feed (h.others p (by simpa using (List.mem_filter.mp hp).2))

/-- The allocations that the ports shed have given back. -/
theorem Ev.Shed.allocations {e0 e : Ev} {gone : List PortId} (h : e0.Shed gone e) :
    e.allocationSum + (gone.map fun p => (e0.port p).pool.allocation).sum = e0.allocationSum :=
  State.allocationSum_released _ _ gone h.nodup
    (fun p hp => by simp [PoolPort.allocation, (h.column p hp).base, (h.column p hp).surcharge])
    fun p hp => congrArg Port.pool (h.others p hp)

/-- A chosen port has not been shed before, and its feed was on. -/
theorem Ev.Shed.fresh {e0 e : Ev} {gone : List PortId} {p : PortId} (h : e0.Shed gone e) (hp : e.shedChoice = some p) :
    p ∉ gone ∧ (e0.port p).feed.power.feedOn = true := by
  obtain ⟨hadmitted, hon⟩ := State.shedChoice_mem _ p hp
  rw [h.admitted] at hadmitted
  have hfresh : p ∉ gone := by simpa using (List.mem_filter.mp hadmitted).2
  exact ⟨hfresh, h.others p hfresh ▸ hon⟩

/-- A feed cut for a shed, with its counter, is one more shed. -/
theorem Ev.Shed.append {e0 e e' : Ev} {gone : List PortId} {p : PortId} (h : e0.Shed gone e)
    (hp : e.shedChoice = some p) (hcut : Ev.FeedCut p .shed .shed .down e e') (f : PoolCounters → PoolCounters) :
    e0.Shed (gone ++ [p]) (e'.countPool f) := by
  obtain ⟨hfresh, hon⟩ := h.fresh hp
  have hport (q : PortId) : (e'.countPool f).port q = e'.port q := rfl
  constructor
  case nodup => simpa [List.nodup_append] using ⟨h.nodup, fun q hq => ne_of_mem_of_not_mem hq hfresh⟩
  case fed => simpa [or_imp, forall_and] using ⟨h.fed, hon⟩
  case column =>
    intro q hq
    rw [hport]
    by_cases hqp : q = p
    · subst hqp
      refine ⟨?_, ?_, ?_, hcut.base, hcut.surcharge, hcut.lens, hcut.triggers, ?_⟩
      · rw [hcut.feed]; rfl
      · rw [hcut.feed]; rfl
      · rw [hcut.feed, h.others q hfresh]; rfl
      · rw [hcut.tether]; split <;> decide
    · rw [hcut.others q hqp]
      exact h.column q (by simpa [hqp] using hq)
  case others =>
    intro q hq
    simp only [List.mem_append, List.mem_singleton, not_or] at hq
    rw [hport, hcut.others q hq.2, h.others q hq.1]
  case pool =>
    obtain ⟨_, _, hpool⟩ := h.pool
    obtain ⟨stamp, hpool'⟩ := hcut.pool
    refine ⟨stamp, f e'.pool.counters, ?_⟩
    simp [Ev.countPool, Ev.updPool, hpool', hpool, List.filter_filter, and_comm]
  case written =>
    have hlink : e'.link = { e0.link with written := e'.link.written } := by rw [hcut.written, h.written]
    exact hlink
  case before => exact hcut.before.trans h.before
  case poolOffers => exact hcut.poolOffers.trans h.poolOffers
  case told =>
    intro q hq
    rcases List.mem_append.mp hq with hold | hnew
    · exact hcut.offers _ (h.told q hold) (by simpa [Offer.isPower] using ne_of_mem_of_not_mem hold hfresh)
    · exact List.mem_singleton.mp hnew ▸ hcut.told
  case todo => exact fun t ht => (hcut.todo t ht).elim (h.todo t) .inr

/-- One more shed (R45, R65). -/
theorem Ev.Shed.shedPort {e0 e : Ev} {gone : List PortId} {p : PortId} (h : e0.Shed gone e)
    (hp : e.shedChoice = some p) : e0.Shed (gone ++ [p]) (e.shedPort p) :=
  h.append hp (e.feedCut_spec p .shed .shed .down (.drop .unavailable)) _

/-! ### The shed pass (R65) -/

/-- With all eight ports shed there is none left to choose. -/
theorem Ev.Shed.all_shed {e0 e : Ev} {gone : List PortId} (h : e0.Shed gone e) (hall : 8 ≤ gone.length) :
    e.shedChoice = none := by
  by_contra hsome
  obtain ⟨p, hp⟩ := Option.ne_none_iff_exists'.mp hsome
  have hnodup : (p :: gone).Nodup := List.nodup_cons.mpr ⟨(h.fresh hp).1, h.nodup⟩
  have hle : (p :: gone).length ≤ 8 := hnodup.length_le_card
  rw [List.length_cons] at hle
  omega

/-- Each port of a list is the choice among the ports admitted that stand before it neither in gone nor in the list, and is
taken while the allocations exceed the budget (R65, R66). -/
def Ev.ShedInTurn (e0 : Ev) (gone shed : List PortId) : Prop :=
  ∀ before p after, shed = before ++ p :: after →
    (e0.admittedWithout (gone ++ before)).shedChoice = some p
    ∧ e0.pool.effectiveBudget + ((gone ++ before).map fun q => (e0.port q).pool.allocation).sum < e0.allocationSum

theorem Ev.ShedInTurn.nil (e0 : Ev) (gone : List PortId) : e0.ShedInTurn gone [] := by
  intro before p after h
  simp at h

theorem Ev.ShedInTurn.cons {e0 : Ev} {gone shed : List PortId} {p : PortId}
    (hchoice : (e0.admittedWithout gone).shedChoice = some p)
    (hover : e0.pool.effectiveBudget + (gone.map fun q => (e0.port q).pool.allocation).sum < e0.allocationSum)
    (h : e0.ShedInTurn (gone ++ [p]) shed) : e0.ShedInTurn gone (p :: shed) := by
  intro before q after heq
  cases before with
  | nil =>
    obtain ⟨rfl, -⟩ := List.cons.inj heq
    simpa using ⟨hchoice, hover⟩
  | cons r before =>
    obtain ⟨rfl, htail⟩ := List.cons.inj heq
    simpa using h before q after htail

theorem Ev.Shed.effectiveBudget {e0 e : Ev} {gone : List PortId} (h : e0.Shed gone e) :
    e.pool.effectiveBudget = e0.pool.effectiveBudget := by
  obtain ⟨_, _, hpool⟩ := h.pool
  rw [hpool]
  rfl

/-- The shed pass with room for the ports not yet shed: it sheds in turn, until the allocations fit or no port is left to
shed (R65). -/
theorem Ev.shedPass_spec (e0 : Ev) (k : Nat) (e : Ev) (gone : List PortId) (h : e0.Shed gone e) (hk : 8 ≤ k + gone.length) :
    e0.Shed (gone ++ (Ev.shedPass k e).2) (Ev.shedPass k e).1 ∧ e0.ShedInTurn gone (Ev.shedPass k e).2
      ∧ ((Ev.shedPass k e).1.allocationSum ≤ e0.pool.effectiveBudget ∨ (Ev.shedPass k e).1.shedChoice = none) := by
  induction k generalizing e gone with
  | zero => exact ⟨by simpa [Ev.shedPass] using h, .nil e0 gone, .inr (h.all_shed (by omega))⟩
  | succ k ih =>
    rw [Ev.shedPass]
    split
    · next hfits => exact ⟨by simpa using h, .nil e0 gone, .inl (h.effectiveBudget ▸ hfits)⟩
    · next hover =>
      split
      · next hnone => exact ⟨by simpa using h, .nil e0 gone, .inr hnone⟩
      · next p hp =>
        obtain ⟨hshed, hturn, hend⟩ := ih (e.shedPort p) (gone ++ [p]) (h.shedPort hp) (by simp; omega)
        refine ⟨by simpa using hshed, .cons (h.choice ▸ hp) ?_ hturn, hend⟩
        have hsum := h.allocations
        rw [h.effectiveBudget] at hover
        omega

end Sys2Proof.Machine
end

section
/-! The sample that enters DERATE (R64, R65): what the event's remaining work leaves alone, and the whole event. -/

namespace Sys2Proof.Machine

/-! ### The remaining work, where no waiting entry fits the budget -/

/-- No entry of the admission queue fits the budget, whatever the allocations are. -/
def Pool.Blocked (q : Pool) : Prop := ∀ a ∈ q.queue, q.effectiveBudget < a.amount

/-- From e to e' only the arbiters act: the pool, the notices and, of the port columns, all but the cable stay. -/
structure Ev.Arbitrated (e e' : Ev) : Prop where
  columns : ∀ p, e'.port p = { e.port p with cable := (e'.port p).cable }
  pool : e'.pool = e.pool
  link : e'.link = e.link
  before : e'.before = e.before
  offers : e'.offers = e.offers
  poolOffers : e'.poolOffers = e.poolOffers
  todo : e'.todo ⊆ e.todo

theorem Ev.Arbitrated.refl (e : Ev) : e.Arbitrated e :=
  ⟨fun _ => rfl, rfl, rfl, rfl, rfl, rfl, List.Subset.refl _⟩

theorem Ev.Arbitrated.trans {e e' e'' : Ev} (h : e.Arbitrated e') (h' : e'.Arbitrated e'') : e.Arbitrated e'' where
  columns p := by rw [h'.columns p, h.columns p]
  pool := h'.pool.trans h.pool
  link := h'.link.trans h.link
  before := h'.before.trans h.before
  offers := h'.offers.trans h.offers
  poolOffers := h'.poolOffers.trans h.poolOffers
  todo := List.Subset.trans h'.todo h.todo

theorem Ev.Arbitrated.updMeter (e : Ev) (f : Meter → Meter) : e.Arbitrated (e.updMeter f) :=
  { Ev.Arbitrated.refl e with }

theorem Ev.Arbitrated.updOutput (e : Ev) (f : Output → Output) : e.Arbitrated (e.updOutput f) :=
  { Ev.Arbitrated.refl e with }

theorem Ev.Arbitrated.setDiag (e : Ev) (p : PortId) (d : DiagState) : e.Arbitrated (e.setDiag p d) :=
  { Ev.Arbitrated.refl e with
    columns := fun q => by
      rw [Ev.setDiag, Ev.updCable, Ev.port_updPort]
      split <;> rfl }

/-- A serving pass admits nothing where the head does not fit (R60). -/
theorem Ev.servePass_blocked (k : Nat) (e : Ev) (h : e.pool.Blocked) : Ev.servePass k e = e := by
  cases k with
  | zero => rfl
  | succ k =>
    rw [Ev.servePass]
    split
    · rfl
    · next a rest hqueue =>
      have hamount := h a (by simp [hqueue])
      have hfits : e.fits a.amount = false := decide_eq_false (by omega)
      simp [hfits]

theorem Ev.outputServe_arbitrated (e : Ev) : e.Arbitrated e.outputServe := by
  unfold Ev.outputServe Ev.startTransmission
  split
  · exact .refl e
  · split
    · exact .refl e
    · split
      · exact .refl e
      · exact .updOutput ..

theorem Ev.grantFull_arbitrated (e : Ev) (p : PortId) : e.Arbitrated (e.grantFull p) := by
  unfold Ev.grantFull
  split
  · split <;> exact .trans (.updMeter ..) (.setDiag ..)
  · exact .refl e

theorem Ev.meterPick_arbitrated (k : Nat) (e : Ev) : e.Arbitrated (Ev.meterPick k e) := by
  induction k generalizing e with
  | zero => exact .refl e
  | succ k ih =>
    rw [Ev.meterPick]
    split
    · dsimp only
      split
      · exact .trans (.updMeter ..) (.updMeter ..)
      · exact .trans (.trans (.updMeter ..) (.updMeter ..)) (ih _)
    · split
      · exact e.grantFull_arbitrated _
      · exact .refl e

theorem Ev.meterServe_arbitrated (e : Ev) : e.Arbitrated e.meterServe := by
  unfold Ev.meterServe
  split
  · exact .refl e
  · split
    · exact .updMeter ..
    · exact Ev.meterPick_arbitrated 9 e

/-- One piece of work of a feed cut. -/
theorem Ev.perform_arbitrated (e : Ev) (t : Task) (ht : t.arbitrates = true) (h : e.pool.Blocked) :
    e.Arbitrated (e.perform t) := by
  cases t with
  | serve =>
    have hserve : e.perform .serve = e := Ev.servePass_blocked _ e h
    rw [hserve]
    exact .refl e
  | output => exact e.outputServe_arbitrated
  | meter => exact e.meterServe_arbitrated
  | examine p => cases ht
  | handIn p => cases ht
  | channel p => cases ht

/-- All the work that feed cuts leave. -/
theorem Ev.settleBy_arbitrated (k : Nat) (e : Ev) (htodo : ∀ t ∈ e.todo, t.arbitrates = true) (h : e.pool.Blocked) :
    e.Arbitrated (Ev.settleBy k e) := by
  induction k generalizing e with
  | zero => exact .refl e
  | succ k ih =>
    cases hlist : e.todo with
    | nil => rw [Ev.settleBy_done _ e hlist]; exact .refl e
    | cons t rest =>
      rw [Ev.settleBy_cons k e t rest hlist]
      have htaken : e.Arbitrated { e with todo := rest } :=
        { Ev.Arbitrated.refl e with todo := hlist ▸ List.subset_cons_self t rest }
      have hdone := htaken.trans (Ev.perform_arbitrated { e with todo := rest } t (htodo t (by simp [hlist])) h)
      exact hdone.trans (ih _ (fun u hu => htodo u (hdone.todo hu)) (hdone.pool ▸ h))

/-! ### The event (R64, R65) -/

/-- The event of a low sample where the shed pass begins: the sample is recorded, and DERATE is entered. -/
def State.derated (s : State) (v : Half) (d : Nat) : Ev :=
  { s.begin with
    time := max s.time d
    pool := { s.pool with
      sampleMv := v.toNat, sampleMa := s.summedCurrent, sampleTimer := some (max s.time d + 1000)
      derate := true, lowCount := 0, recoveryCount := 0, tripCount := 0
      counters := { s.pool.counters with derates := bump s.pool.counters.derates } } }

/-- The fifth low sample, without a kill, enters DERATE (R64, R65). -/
theorem Ev.judgePool_enters_derate (e : Ev) (hkill : e.pool.settings.kill ≤ e.pool.sampleMv)
    (hlow : e.pool.sampleMv < e.pool.settings.derate) (htrip : e.pool.sampleMa ≤ e.pool.settings.trip)
    (hderate : e.pool.derate = false) (hcount : e.pool.lowCount = 4) :
    e.judgePool = (e.updPool fun q => { q with lowCount := 5, tripCount := 0 }).enterDerate := by
  have hcounts : e.updPool Pool.count = e.updPool fun q => { q with lowCount := 5, tripCount := 0 } := by
    simp [Ev.updPool, Pool.count, hderate, hcount, hlow, Nat.not_lt.mpr htrip]
  simp [Ev.judgePool, hcounts, hderate, Nat.not_lt.mpr hkill]

theorem Ev.enterDerate_eq (e start : Ev)
    (h : ((e.updPool fun q => { q with derate := true, lowCount := 0, recoveryCount := 0 }).countPool fun c =>
      { c with derates := bump c.derates }) = start) :
    e.enterDerate = ((Ev.shedPass 8 start).1.push .serve).offerPool .derateEntered (Ev.shedPass 8 start).2 := by
  subst h
  rfl

/-- A sample in RUN is recorded and judged (R64). -/
theorem Ev.poolSample_run (e : Ev) (v : Half) (d : Nat) (htimer : e.pool.sampleTimer = some d)
    (hrun : e.link.opState = .run) :
    e.poolSample v = ((e.reach d).updPool fun q => { q with
      sampleMv := v.toNat, sampleMa := e.summedCurrent, sampleTimer := some (max e.time d + 1000) }).judgePool := by
  rw [Ev.poolSample, htimer, Ev.onExpiry_running]
  exact if_pos hrun

/-- The sample is recorded, and DERATE is entered with its shed pass. -/
theorem State.poolSample_enters_derate (s : State) (v : Half) (d : Nat) (hrun : s.link.opState = .run)
    (htimer : s.pool.sampleTimer = some d) (hkill : s.pool.settings.kill ≤ v.toNat)
    (hlow : v.toNat < s.pool.settings.derate) (htrip : s.summedCurrent ≤ s.pool.settings.trip)
    (hderate : s.pool.derate = false) (hcount : s.pool.lowCount = 4) :
    s.begin.poolSample v =
      ((Ev.shedPass 8 (s.derated v d)).1.push .serve).offerPool .derateEntered (Ev.shedPass 8 (s.derated v d)).2 := by
  rw [Ev.poolSample_run _ v d htimer hrun, Ev.judgePool_enters_derate _ hkill hlow htrip hderate hcount]
  exact Ev.enterDerate_eq _ _ rfl

/-! ### The end of the event -/

theorem Ev.finish_port (e : Ev) (p : PortId) : e.finish.port p = e.port p := rfl

section EventEnd

variable {s : State} {v : Half} {d : Nat} {shed : List PortId} {e e' : Ev}

/-- After the sheds no waiting entry fits, if none did before. -/
theorem Ev.Shed.blocked {e0 : Ev} (h : e0.Shed shed e) (hblocked : e0.pool.Blocked) : e.pool.Blocked := by
  intro a ha
  rw [h.effectiveBudget]
  obtain ⟨_, _, hpool⟩ := h.pool
  rw [hpool] at ha
  exact hblocked a (List.mem_filter.mp ha).1

/-- The work left by the sheds lets only the arbiters act. -/
theorem Ev.Shed.settle (h : (s.derated v d).Shed shed e) (hblocked : (s.derated v d).pool.Blocked) :
    Ev.Arbitrated ((e.push .serve).offerPool .derateEntered shed) ((e.push .serve).offerPool .derateEntered shed).settle := by
  refine Ev.settleBy_arbitrated _ _ (fun t ht => ?_) (h.blocked hblocked)
  rcases List.mem_append.mp ht with ht | ht
  · exact (h.todo t ht).resolve_left List.not_mem_nil
  · exact List.mem_singleton.mp ht ▸ rfl

/-- A port shed is told of by a POWER_CHANGE with the cause SHED (R30, R65). -/
theorem Ev.Shed.notice (h : (s.derated v d).Shed shed e)
    (h' : Ev.Arbitrated ((e.push .serve).offerPool .derateEntered shed) e') (p : PortId) (hp : p ∈ shed) :
    .powerChange p (s.port p).feed.power .shed false (s.port p).feed.retry .shed
      ∈ e'.offers.filterMap (Offer.resolve e'.before e'.ports) := by
  refine List.mem_filterMap.mpr ⟨.power p .shed, h'.offers ▸ h.told p hp, ?_⟩
  have hbefore : e'.before.get p = s.port p := by rw [h'.before]; exact congrArg (·.get p) h.before
  have hafter : (e'.port p).feed = (e.port p).feed := by rw [h'.columns p]; rfl
  have hcolumn := h.column p hp
  have hon : (s.port p).feed.power.feedOn = true := h.fed p hp
  have hchanged : (s.port p).feed.power ≠ .shed := fun heq => by simp [heq, PowerState.feedOn] at hon
  have hretry : (e.port p).feed.retry = (s.port p).feed.retry := hcolumn.retry
  show powerNotice (e'.before.get p) (e'.port p) p .shed = _
  rw [powerNotice, hbefore, hafter, hcolumn.power, hcolumn.hold, hretry, if_neg fun heq => hchanged heq.1]

/-- The notices of the event end with the POOL_EVENT that lists the ports shed (R65, R70). -/
theorem Ev.Shed.notices (h : (s.derated v d).Shed shed e)
    (h' : Ev.Arbitrated ((e.push .serve).offerPool .derateEntered shed) e') :
    e'.notices = e'.offers.filterMap (Offer.resolve e'.before e'.ports)
      ++ [.poolEvent .derateEntered v.toNat s.summedCurrent (s.pool.settings.budget * 3 / 4) e'.allocationSum shed] := by
  obtain ⟨_, _, hpool⟩ := h.pool
  have hpool' : e'.pool = e.pool := h'.pool
  have hoffers : e'.poolOffers = [(.derateEntered, v.toNat, s.summedCurrent, shed)] := by
    rw [h'.poolOffers, Ev.offerPool]
    simp [h.poolOffers, hpool, State.derated, State.begin]
  have heffective : e'.pool.effectiveBudget = s.pool.settings.budget * 3 / 4 := by rw [hpool', h.effectiveBudget]; rfl
  rw [Ev.notices, hoffers, List.map_singleton, heffective]

end EventEnd

/-! ### The obligation -/

/-- The pool sample as an event of a running hub (R64, R186). -/
theorem exec_poolSample_running (s : State) (v : Half) (h : s.running) :
    exec (.poolSample v) s = .next (s.event fun e => e.poolSample v) :=
  congrArg _ (s.blockEvent_running _ h)

/-- Settles O47: R66 by the lemmas about the choice, R65 by the shed pass and the end of its event. -/
theorem shedsTakeTheLowestAndLatest : Obligations.ShedsTakeTheLowestAndLatest := by
  intro s hprio
  refine ⟨s.shedChoice_eq_none hprio, fun p hp =>
    ⟨(s.shedChoice_mem p hp).2, s.shedChoice_lowest p hp, s.shedChoice_latest p hp⟩, ?_⟩
  rintro v d b hrunning hrun htimer hkill hlow htrip hderate hcount rfl hblocked
  obtain ⟨hshed, hturn, hend⟩ :=
    Ev.shedPass_spec (s.derated v d) 8 (s.derated v d) [] (.start _) (Nat.le_refl 8)
  rw [List.nil_append] at hshed
  have hevent := s.poolSample_enters_derate v d hrun htimer hkill hlow htrip hderate hcount
  generalize Ev.shedPass 8 (s.derated v d) = pass at hshed hturn hend hevent
  obtain ⟨e, shed⟩ := pass
  have hsettle := hshed.settle hblocked
  have hexec := exec_poolSample_running s v hrunning
  rw [State.event, hevent] at hexec
  generalize ((e.push .serve).offerPool .derateEntered shed).settle = e' at hsettle hexec
  refine ⟨_, shed, e'.link, e'.offers.filterMap (Offer.resolve e'.before e'.ports), hexec, ?_⟩
  have hcolumn (p : PortId) : e'.port p = { e.port p with cable := (e'.port p).cable } := hsettle.columns p
  obtain ⟨_, _, hshedPool⟩ := hshed.pool
  have hpool : e'.finish.pool = _ := hsettle.pool.trans hshedPool
  have hlink : e'.link = e.link := hsettle.link
  have hsum : e'.finish.allocationSum = e.allocationSum :=
    State.allocationSum_congr _ _ fun p => by rw [Ev.finish_port, hcolumn p]
  have hchoice : e'.finish.shedChoice = e.shedChoice :=
    State.shedChoice_congr _ _ (congrArg Pool.admitted hsettle.pool) fun p _ => by rw [Ev.finish_port, hcolumn p]
  refine ⟨by rw [hpool]; rfl, by rw [hpool]; rfl, by rw [hpool]; rfl, by rw [hpool]; rfl, ?_, hturn, by rw [hpool]; rfl,
    by rw [hpool]; rfl, ?_, ?_, ?_, hshed.notice hsettle, ?_⟩
  · rw [hsum, hchoice]
    exact hend
  · intro p hp
    have hp := hshed.column p hp
    rw [Ev.finish_port, hcolumn p]
    exact ⟨hp.power, hp.base, hp.surcharge, hp.lens, hp.triggers, hp.link⟩
  · intro p hp
    rw [Ev.finish_port, hcolumn p, hshed.others p hp]
    rfl
  · rw [hlink]
    exact hshed.written
  · rw [Ev.finish_eq, hshed.notices hsettle]
    rfl

end Sys2Proof.Machine
end

section
/-! What every operation of an event keeps: the operating state, the waiting notices, the room of the reply queue, the
findings history, and the laws of the capture sequencers and of the settings. One lemma for each operation of the model,
in the order of its files; the step laws (R80, R83, R176, R182, R184, R186 to R189) follow. -/

namespace Sys2Proof.Machine

set_option Elab.async false

/-- The reply entries in use: those the relay reserves and those written (R135, R182). -/
def State.replyLoad (s : State) : Nat := s.relay.length + s.link.written.length

/-- The part of an event from e0 to e keeps what the step laws speak of, and takes at most n reply entries more. -/
structure Ev.Keeps (n : Nat) (e0 e : Ev) : Prop where
  opState : e.link.opState = e0.link.opState
  notices : e.link.notices = e0.link.notices
  load : e.replyLoad ≤ e0.replyLoad + n
  findings : e0.findingsFit → e.findingsFit
  triggers : ∀ p, (e0.port p).capture.queueLaw → (e.port p).capture.queueLaw
  programs : ∀ p, (e0.port p).capture.programsLaw → (e.port p).capture.programsLaw
  settings : e0.settingsFit → e.settingsFit

theorem Ev.Keeps.refl (e : Ev) : e.Keeps 0 e :=
  ⟨rfl, rfl, Nat.le_refl _, id, fun _ => id, fun _ => id, id⟩

/-- The settings of a port: those of the feed controller and the presets (R48, R94). -/
def Port.settingsOf (x : Port) : PortSettings × Vector Preset 16 := (x.feed.settings, x.lens.presets)

/-- The law of the settings reads the pool settings, the cable kinds, the router and each port's settings. -/
theorem State.settingsFit_congr {s t : State} (hpool : t.pool.settings = s.pool.settings) (hkinds : t.kinds = s.kinds)
    (hperiod : t.router.period = s.router.period)
    (hpins : ∀ i, (t.router.pins.get i).holdoff = (s.router.pins.get i).holdoff)
    (hports : ∀ p, (t.port p).settingsOf = (s.port p).settingsOf) (h : s.settingsFit) : t.settingsFit := by
  obtain ⟨h1, h2, h3, h4, h5⟩ := h
  refine ⟨hpool ▸ h1, hkinds ▸ h2, hperiod ▸ h3, fun i => hpins i ▸ h4 i, fun p => ?_⟩
  obtain ⟨hf, hl⟩ := Prod.mk.inj (hports p)
  exact ⟨by rw [hf, hpool]; exact (h5 p).1, fun q => by rw [hl]; exact (h5 p).2 q⟩

section Operations

variable {n : Nat} {e0 e : Ev} (h : e0.Keeps n e) (p : PortId)

include h

/-! ### Composition -/

omit h in
theorem Ev.Keeps.ite {c : Prop} [Decidable c] {a b : Ev} (ha : e0.Keeps n a) (hb : e0.Keeps n b) :
    e0.Keeps n (if c then a else b) := by
  split
  · exact ha
  · exact hb

omit h in
theorem Ev.Keeps.foldl {β : Type} {f : Ev → β → Ev} (hf : ∀ e b, e0.Keeps n e → e0.Keeps n (f e b)) (l : List β) (e : Ev)
    (h : e0.Keeps n e) : e0.Keeps n (l.foldl f e) := by
  induction l generalizing e with
  | nil => exact h
  | cons b l ih => exact ih _ (hf _ b h)

/-- What is kept on the way may count its reply entries afresh. -/
theorem Ev.Keeps.reload {m : Nat} (hload : e.replyLoad ≤ e0.replyLoad + m) : e0.Keeps m e :=
  { h with load := hload }

/-! ### Updates of one block -/

/-- A port column changed in anything but its settings, its pending triggers and its programs. -/
theorem Ev.Keeps.updPort (f : Port → Port)
    (hs : ∀ x, (f x).settingsOf = x.settingsOf := by intro; rfl)
    (hq : ∀ x, x.capture.queueLaw → (f x).capture.queueLaw := by exact fun _ => id)
    (hc : ∀ x, x.capture.programsLaw → (f x).capture.programsLaw := by exact fun _ => id) :
    e0.Keeps n (e.updPort p f) where
  opState := h.opState
  notices := h.notices
  load := h.load
  findings := h.findings
  triggers q hk := by
    rw [Ev.port_updPort]
    split
    · exact hq _ (h.triggers q hk)
    · exact h.triggers q hk
  programs q hk := by
    rw [Ev.port_updPort]
    split
    · exact hc _ (h.programs q hk)
    · exact h.programs q hk
  settings hk := by
    refine State.settingsFit_congr (s := e.toState) rfl rfl rfl (fun _ => rfl) (fun q => ?_) (h.settings hk)
    rw [Ev.port_updPort]
    split
    · exact hs _
    · rfl

theorem Ev.Keeps.updTether (f : Tether → Tether) : e0.Keeps n (e.updTether p f) := h.updPort p _
theorem Ev.Keeps.updFeed (f : Feed → Feed) (hf : ∀ x, (f x).settings = x.settings := by intro; rfl) :
    e0.Keeps n (e.updFeed p f) := h.updPort p _ fun x => Prod.ext (hf x.feed) rfl
theorem Ev.Keeps.updFigures (f : PoolPort → PoolPort) : e0.Keeps n (e.updFigures p f) := h.updPort p _
theorem Ev.Keeps.updCapture (f : Capture → Capture)
    (hq : ∀ c, c.queueLaw → (f c).queueLaw := by exact fun _ => id)
    (hc : ∀ c, c.programsLaw → (f c).programsLaw := by exact fun _ => id) : e0.Keeps n (e.updCapture p f) :=
  h.updPort p _ (fun _ => rfl) (fun x => hq x.capture) (fun x => hc x.capture)
theorem Ev.Keeps.updLens (f : Lens → Lens) (hf : ∀ x, (f x).presets = x.presets := by intro; rfl) :
    e0.Keeps n (e.updLens p f) := h.updPort p _ fun x => Prod.ext rfl (hf x.lens)
theorem Ev.Keeps.updIngress (f : Ingress → Ingress) : e0.Keeps n (e.updIngress p f) := h.updPort p _
theorem Ev.Keeps.updRelay (f : RelayCounters → RelayCounters) : e0.Keeps n (e.updRelay p f) := h.updPort p _
theorem Ev.Keeps.updCable (f : Cable → Cable) : e0.Keeps n (e.updCable p f) := h.updPort p _
theorem Ev.Keeps.updPool (f : Pool → Pool) (hf : ∀ q, (f q).settings = q.settings := by intro; rfl) :
    e0.Keeps n (e.updPool f) :=
  { h with
    settings := fun hk =>
      State.settingsFit_congr (s := e.toState) (hf _) rfl rfl (fun _ => rfl) (fun _ => rfl) (h.settings hk) }
theorem Ev.Keeps.updRouter (f : Router → Router) (hf : ∀ r, (f r).period = r.period := by intro; rfl)
    (hp : ∀ r i, ((f r).pins.get i).holdoff = (r.pins.get i).holdoff := by intros; rfl) : e0.Keeps n (e.updRouter f) :=
  { h with settings := fun hk => State.settingsFit_congr (s := e.toState) rfl rfl (hf _) (hp _) (fun _ => rfl) (h.settings hk) }
theorem Ev.Keeps.updOutput (f : Output → Output) : e0.Keeps n (e.updOutput f) := { h with }
theorem Ev.Keeps.updMeter (f : Meter → Meter) : e0.Keeps n (e.updMeter f) := { h with }
theorem Ev.Keeps.updBreaks (f : Breaks → Breaks)
    (hf : ∀ b, b.findings.length ≤ 32 → (f b).findings.length ≤ 32 := by exact fun _ => id) :
    e0.Keeps n (e.updBreaks f) := { h with findings := fun hk => hf _ (h.findings hk) }
theorem Ev.Keeps.updLink (f : Link → Link) (ho : ∀ l, (f l).opState = l.opState := by intro; rfl)
    (hn : ∀ l, (f l).notices = l.notices := by intro; rfl) (hw : ∀ l, (f l).written = l.written := by intro; rfl) :
    e0.Keeps n (e.updLink f) :=
  { h with
    opState := (ho _).trans h.opState
    notices := (hn _).trans h.notices
    load := by simpa [State.replyLoad, hw] using h.load }

theorem Ev.Keeps.countTether (f : TetherCounters → TetherCounters) : e0.Keeps n (e.countTether p f) := h.updTether p _
theorem Ev.Keeps.countFeed (f : FeedCounters → FeedCounters) : e0.Keeps n (e.countFeed p f) := h.updFeed p _
theorem Ev.Keeps.countCapture (f : CaptureCounters → CaptureCounters) : e0.Keeps n (e.countCapture p f) := h.updCapture p _
theorem Ev.Keeps.countLens (f : LensCounters → LensCounters) : e0.Keeps n (e.countLens p f) := h.updLens p _
theorem Ev.Keeps.countIngress (f : IngressCounters → IngressCounters) : e0.Keeps n (e.countIngress p f) := h.updIngress p _
theorem Ev.Keeps.countCable (f : BreakCounters → BreakCounters) : e0.Keeps n (e.countCable p f) := h.updCable p _
theorem Ev.Keeps.countPool (f : PoolCounters → PoolCounters) : e0.Keeps n (e.countPool f) := h.updPool _
theorem Ev.Keeps.countMeter (f : MeterCounters → MeterCounters) : e0.Keeps n (e.countMeter f) := h.updMeter _
theorem Ev.Keeps.countLink (f : LinkCounters → LinkCounters) : e0.Keeps n (e.countLink f) := h.updLink _

theorem Ev.Keeps.push (t : Task) : e0.Keeps n (e.push t) := { h with }
theorem Ev.Keeps.offer (k : Notice) : e0.Keeps n (e.offer k) := { h with }
theorem Ev.Keeps.reach (d : Nat) : e0.Keeps n (e.reach d) := { h with }
theorem Ev.Keeps.offerPool (k : PoolEvent) (l : List PortId) : e0.Keeps n (e.offerPool k l) := { h with }
theorem Ev.Keeps.markPower (c : PowerCause) : e0.Keeps n (e.markPower p c) := { h with }
theorem Ev.Keeps.setPower (st : PowerState) (c : PowerCause) : e0.Keeps n (e.setPower p st c) := (h.updFeed p _).markPower p c
theorem Ev.Keeps.setHold (b : Bool) (c : PowerCause) : e0.Keeps n (e.setHold p b c) := (h.updFeed p _).markPower p c
theorem Ev.Keeps.setDiag (d : DiagState) : e0.Keeps n (e.setDiag p d) := h.updCable p _

/-- A written reply takes one entry more (R182). -/
theorem Ev.Keeps.writeReply (r : Reply) : e0.Keeps (n + 1) (e.writeReply r) :=
  { h with
    load := by
      have := h.load
      simp only [State.replyLoad, Ev.writeReply, Ev.updLink, List.length_append, List.length_singleton] at *
      omega }

theorem Ev.Keeps.setRelay {m : Nat} (l : List RelayEntry) (hl : l.length + n ≤ e.relay.length + m) :
    e0.Keeps m (e.setRelay l) :=
  { h with
    load := by
      have := h.load
      simp only [State.replyLoad, Ev.setRelay] at *
      omega }

theorem Ev.Keeps.onExpiry (t : Option Nat) {act : Ev → Ev} (hact : ∀ d, e0.Keeps n (act (e.reach d))) :
    e0.Keeps n (e.onExpiry t act) := by
  cases t with
  | none => exact h
  | some d => exact hact d

/-! ### Link state and the relay -/

theorem Ev.Keeps.cutLive : e0.Keeps n (e.cutLive p) := by
  unfold Ev.cutLive
  split
  · exact .ite (((h.updMeter _).countMeter _).push _) h
  · exact h

theorem Ev.Keeps.setLink (new : LinkState) : e0.Keeps n (e.setLink p new) :=
  have h' := (h.updTether p _).offer _
  .ite h (.ite (h'.cutLive p) h')

theorem Ev.Keeps.relayReply (r : Reply) : e0.Keeps (n + 1) (e.relayReply p r) := (h.writeReply r).updRelay p _

/-- A reply of the relay for each of a list takes as many entries. -/
theorem Ev.Keeps.relayReplies {β : Type} (f : β → Reply) (l : List β) :
    e0.Keeps (n + l.length) (l.foldl (fun x r => x.relayReply p (f r)) e) := by
  induction l generalizing e n with
  | nil => exact h
  | cons r l ih =>
    have := ih (h.relayReply p (f r))
    rwa [Nat.add_right_comm, Nat.add_assoc] at this

/-- Where relay entries give way to replies, one for each at most, the reply queue has the same room after it (R182). -/
theorem Ev.Keeps.exchange {β : Type} (f : β → Reply) (gone : List β) (l : List RelayEntry)
    (hl : l.length + gone.length ≤ e.relay.length) :
    e0.Keeps n (gone.foldl (fun x r => x.relayReply p (f r)) (e.setRelay l)) := by
  have hset : e0.Keeps n (e.setRelay l) := h.setRelay l (by omega)
  refine (hset.relayReplies p f gone).reload ?_
  have hafter := ((Ev.Keeps.refl (e.setRelay l)).relayReplies p f gone).load
  have hbefore := h.load
  simp only [State.replyLoad, Ev.setRelay_relay, Ev.setRelay_link] at hafter hbefore ⊢
  omega

theorem Ev.Keeps.relayTest : e0.Keeps n (e.relayTest p) := by
  refine h.exchange p id _ _ ?_
  have hparts := List.length_eq_length_filter_add (l := e.relay) fun r => r.released p (e.port p).ingress.egressCount
  have hreplies := List.length_filterMap_le RelayEntry.heldReply
    (e.relay.filter fun r => r.released p (e.port p).ingress.egressCount)
  omega

theorem Ev.Keeps.relayAbort : e0.Keeps n (e.relayAbort p) := by
  refine h.exchange p _ _ _ ?_
  have hparts := List.length_eq_length_filter_add (l := e.relay) fun r => r.waitsAt p
  simp only [List.length_map]
  omega

theorem Ev.Keeps.relaySent (tag : Byte) : e0.Keeps n (e.relaySent p tag) :=
  h.setRelay _ (by simp only [List.length_map, Nat.le_refl])

omit h in
/-- A list without the entries a search finds is shorter by one at least. -/
theorem length_filter_of_find {α : Type} {l : List α} {f : α → Bool} {a : α} (hf : l.find? f = some a) :
    (l.filter fun r => !f r).length + 1 ≤ l.length := by
  have hparts := List.length_eq_length_filter_add (l := l) f
  have hmem : a ∈ l.filter f := List.mem_filter.mpr ⟨List.mem_of_find?_eq_some hf, List.find?_some hf⟩
  have := List.length_pos_of_mem hmem
  omega

theorem Ev.Keeps.relayAnswer (tag code : Byte) (value : Word) : e0.Keeps n (e.relayAnswer p tag code value) := by
  unfold Ev.relayAnswer
  split
  · exact h
  · next hf =>
    have hset (x : RelayEntry) := h.setRelay (m := n) ((e.relay.filter fun r => !r.sentAs p tag) ++ [x]) (by
      simpa using length_filter_of_find hf)
    exact (Ev.Keeps.ite (hset _) ((hset _).updRelay p _)).relayTest p

theorem Ev.Keeps.relayTimeout (tag : Byte) : e0.Keeps n (e.relayTimeout p tag) := by
  unfold Ev.relayTimeout
  split
  · exact h
  · next r hf => exact h.exchange p (fun r : RelayEntry => r.reply .timeout 0 0 false) [r] _ (length_filter_of_find hf)

end Operations
end Sys2Proof.Machine
end

section
/-! What the operations of the ingress buffer, the pool, the feed cut, the lens, the capture sequencer and the arbiters
keep, to the end of an event's remaining work. -/

namespace Sys2Proof.Machine

set_option Elab.async false

section Operations

variable {n : Nat} {e0 e : Ev} (h : e0.Keeps n e) (p : PortId)

include h

/-! ### Ingress buffer (06) -/

theorem Ev.Keeps.judgeCredit : e0.Keeps n (e.judgeCredit p) := .ite ((h.updTether p _).push _) h
theorem Ev.Keeps.creditFreed : e0.Keeps n (e.creditFreed p) := (h.updTether p _).judgeCredit p
theorem Ev.Keeps.creditDiscarded : e0.Keeps n (e.creditDiscarded p) := (h.updTether p _).judgeCredit p
theorem Ev.Keeps.keepPacket (k : HubPacket) : e0.Keeps n (e.keepPacket p k) := ((h.updIngress p _).updTether p _).push _

theorem Ev.Keeps.truncateFrame (next : FrameRecord) : e0.Keeps n (e.truncateFrame p next) := by
  unfold Ev.truncateFrame
  split
  · have h' := h.countIngress p fun c => { c with truncated := bump c.truncated }
    exact .ite ((h'.countIngress p _).updIngress p _) ((h'.updIngress p _).push _)
  · exact h
  · exact h

theorem Ev.Keeps.ingressLinkLost : e0.Keeps n (e.ingressLinkLost p) := by
  unfold Ev.ingressLinkLost
  split
  · exact h.truncateFrame p _
  · exact h.updIngress p _
  · exact h

theorem Ev.Keeps.enterDiscarding : e0.Keeps n (e.enterDiscarding p) := (h.updIngress p _).countIngress p _

theorem Ev.Keeps.flush : e0.Keeps n (e.flush p) :=
  (((h.updIngress p _).updTether p _).updOutput _).relayTest p

/-! ### Pool manager (03) -/

theorem Ev.Keeps.dropEntry : e0.Keeps n (e.dropEntry p) := .ite ((h.updPool _).push _) h

theorem Ev.Keeps.resortEntry (priority : Nat) : e0.Keeps n (e.resortEntry p priority) := by
  unfold Ev.resortEntry
  split
  · exact h
  · exact (h.updPool _).push _

theorem Ev.Keeps.endBootRequest : e0.Keeps n (e.endBootRequest p) := (h.dropEntry p).updFigures p _
theorem Ev.Keeps.releaseAllocation : e0.Keeps n (e.releaseAllocation p) :=
  (((h.updFigures p _).updPool _).dropEntry p).push _
theorem Ev.Keeps.releaseSurcharge : e0.Keeps n (e.releaseSurcharge p) := ((h.updFigures p _).updFeed p _).push _
theorem Ev.Keeps.noteInfeasible (t : RequestType) (s : Stage) : e0.Keeps n (e.noteInfeasible p t s) :=
  (h.updFigures p _).countPool _
theorem Ev.Keeps.joinQueue (t : RequestType) (amount : Nat) : e0.Keeps n (e.joinQueue p t amount) := (h.updPool _).push _

/-! ### Losing triggers, and the lens and the link of a feed cut (04, 05, 01) -/

theorem Ev.Keeps.loseTrigger (tag : Half) (source : Source) (step : StepRef) (preset : Option PresetId)
    (reason : LossReason) : e0.Keeps n (e.loseTrigger p tag source step preset reason) := (h.countCapture p _).offer _

theorem Ev.Keeps.dispose (d : Disposal) (tag : Half) (source : Source) (step : StepRef) (preset : Option PresetId) :
    e0.Keeps n (e.dispose p d tag source step preset) := by
  cases d with
  | silent => exact h.countCapture p fun c => { c with silent := bump c.silent }
  | drop reason => exact h.loseTrigger p tag source step preset reason

/-- An empty queue of pending triggers meets its law (R80). -/
theorem Ev.Keeps.emptyQueue (f : Capture → Capture) (hq : ∀ c, (f c).queue = [] := by intro; rfl)
    (hc : ∀ c, c.programsLaw → (f c).programsLaw := by exact fun _ => id) : e0.Keeps n (e.updCapture p f) :=
  h.updCapture p f (fun c _ => by simp [Capture.queueLaw, hq]) hc

theorem Ev.Keeps.closeExposure : e0.Keeps n (e.closeExposure p) := ((h.updCapture p _).push _).push _

theorem Ev.Keeps.cutCapture (d : Disposal) (notSent : Bool) : e0.Keeps n (e.cutCapture p d notSent) := by
  refine Ev.Keeps.emptyQueue (.foldl (fun _ _ hk => hk.dispose p d _ _ _ _) _ _ ?_) p
    fun c => { c with queue := [], want := none, exposure := none }
  split
  · exact h
  · exact .ite (h.dispose p d _ _ _ _) (h.countCapture p _)

theorem Ev.Keeps.triggerNotSent : e0.Keeps n (e.triggerNotSent p) := by
  unfold Ev.triggerNotSent
  split
  · exact h
  · exact (h.loseTrigger p _ _ _ _ _).closeExposure p

theorem Ev.Keeps.lensNotice (prev new : LensState) (event : LensEvent) (m : Option Move) :
    e0.Keeps n (e.lensNotice p prev new event m) := .ite h (h.offer _)

theorem Ev.Keeps.lensAbsent : e0.Keeps n (e.lensAbsent p) :=
  have h' := h.updLens p _
  .ite h' (h'.lensNotice p _ _ _ _)

theorem Ev.Keeps.leaveUp : e0.Keeps n (e.leaveUp p) := (h.updTether p _).ingressLinkLost p

theorem Ev.Keeps.enterOff (target : LinkState) : e0.Keeps n (e.enterOff p target) :=
  (((Ev.Keeps.ite (h.leaveUp p) h).updTether p _).updLens p _).setLink p _

/-! ### The feed cut, findings and diagnoses (02, 08, 09) -/

theorem Ev.Keeps.feedCut (dest : PowerState) (cause : PowerCause) (link : LinkState) (d : Disposal) :
    e0.Keeps n (e.feedCut p dest cause link d) := by
  have hsupply : e0.Keeps n (e.cutSupply p dest cause) := ((h.updFeed p _).setPower p dest cause).releaseAllocation p
  rw [Ev.feedCut_eq]
  exact ((((hsupply.updCable p Cable.endSession).enterOff p _).lensAbsent p).cutCapture p d _).relayAbort p

theorem Ev.Keeps.endOffPhase : e0.Keeps n (e.endOffPhase p) := by
  unfold Ev.endOffPhase
  split
  case h_1 => exact h.updFeed p _
  case h_2 => exact h.updFeed p _
  case h_3 => exact h.endBootRequest p
  case h_4 => exact h.updFeed p _
  all_goals exact h

omit h in
/-- Coalescing keeps the length of the history (R176). -/
theorem coalesce_length (f : Finding) (l l' : List Finding) (m : Finding) (hc : coalesce f l = some (l', m)) :
    l'.length = l.length := by
  induction l generalizing l' with
  | nil => simp [coalesce] at hc
  | cons g rest ih =>
    unfold coalesce at hc
    split at hc
    · split at hc
      · obtain ⟨rfl, -⟩ := Prod.mk.inj (Option.some.inj hc)
        rfl
      · cases hc
    · split at hc
      · next hrest =>
        obtain ⟨rfl, rfl⟩ := Prod.mk.inj (Option.some.inj hc)
        simp [ih _ hrest]
      · cases hc

omit h in
/-- The history stays within its 32 entries (R176). -/
theorem appendFinding_length_le (l : List Finding) (f : Finding) : (appendFinding l f).length ≤ 32 := by
  simp only [appendFinding, List.length_drop, List.length_append, List.length_singleton, Config.findingEntries]
  omega

theorem Ev.Keeps.writeFinding (f : Finding) : e0.Keeps n (e.writeFinding f) := by
  have h' := h.countCable f.port fun c => { c with findings := bump c.findings }
  unfold Ev.writeFinding
  dsimp only
  split
  · next l m hc =>
    have hl := coalesce_length f _ _ _ hc
    have hb : e0.Keeps n ((e.countCable f.port fun c => { c with findings := bump c.findings }).updBreaks fun b =>
        { b with findings := l.reverse, coalesced := bump b.coalesced }) :=
      { h' with
        findings := fun hk => by
          have := h'.findings hk
          simp only [State.findingsFit, Ev.updBreaks_breaks, List.length_reverse] at this hl ⊢
          omega }
    exact (hb.updCable f.port _).offer _
  · exact ((h'.updBreaks _ fun b _ => appendFinding_length_le b.findings f).updCable f.port _).offer _

theorem Ev.Keeps.offerFull : e0.Keeps n (e.offerFull p) := ((h.setDiag p _).updMeter _).push _

theorem Ev.Keeps.becomeHead : e0.Keeps n e.becomeHead := by
  unfold Ev.becomeHead
  split
  · exact h
  · split
    · exact h.offerFull _
    · exact .ite ((h.setDiag _ _).updBreaks _) (h.offerFull _)

theorem Ev.Keeps.joinDiagnosis (purpose : Purpose) (cause : PowerCause) :
    e0.Keeps n (e.joinDiagnosis p purpose cause) := by
  have hoff := h.enterOff p .quiet
  have hleft := Ev.Keeps.ite (c := (e.port p).feed.power.feedOn = true)
    (h.feedCut p .diagnosing cause .quiet (.drop .unavailable))
    (.ite (c := (e.port p).feed.power.probePhase = true) ((hoff.endOffPhase p).setPower p .diagnosing cause) hoff)
  have hjoined := fun k => (hleft.updBreaks (fun b => { b with queue := b.queue ++ [k] })).setDiag p .queued
  exact .ite h (.ite (hjoined _).becomeHead (hjoined _))

theorem Ev.Keeps.cutFull : e0.Keeps n (e.cutFull p) := by
  unfold Ev.cutFull
  split
  · exact .ite (((h.updMeter _).countMeter _).push _) h
  · exact h

theorem Ev.Keeps.leaveDiagnosis : e0.Keeps n (e.leaveDiagnosis p) := by
  unfold Ev.leaveDiagnosis
  exact (((h.updBreaks _).updMeter _).setDiag p .clear).enterOff p .down

theorem Ev.Keeps.abortDiagnosis : e0.Keeps n (e.abortDiagnosis p) := by
  unfold Ev.abortDiagnosis
  split
  · exact h
  · next x _ =>
    have h' := (((h.cutFull p).leaveDiagnosis p).countCable p fun c => { c with aborted := bump c.aborted }).offer
      (.diagnosisEnd p (.aborted x.purpose))
    dsimp only
    split
    · exact h'.becomeHead
    · exact h'

/-! ### Faults (R168) -/

theorem Ev.Keeps.leaveFor (dest : PowerState) : e0.Keeps n (e.leaveFor p dest) := by
  unfold Ev.leaveFor
  split
  case h_1 | h_2 | h_3 => exact h.feedCut p _ _ _ _
  case h_4 | h_5 => exact (h.endOffPhase p).setPower p _ _
  all_goals exact h

omit h in
theorem Feed.retried_settings (f : Feed) (now : Nat) : (f.retried now).settings = f.settings := by
  unfold Feed.retried
  split <;> rfl

theorem Ev.Keeps.react (kind : FaultKind) (r : Reaction) : e0.Keeps n (e.react p kind r) := by
  cases r with
  | cut => exact h.leaveFor p _
  | retry => exact .ite ((h.leaveFor p _).updFeed p _ fun f => f.retried_settings _) h
  | diagnose => exact h.joinDiagnosis p _ _
  | hold => exact .ite (h.setHold p _ _) h
  | report => exact h

theorem Ev.Keeps.takeFault (kind : FaultKind) (power : PowerState) (retry : Nat) :
    e0.Keeps n (e.takeFault p kind power retry) :=
  have h' := h.countCable p _
  ((Ev.Keeps.ite (h'.writeFinding _) h').offer _).react p kind _

theorem Ev.Keeps.raiseFault (kind : FaultKind) : e0.Keeps n (e.raiseFault p kind) := h.takeFault p kind _ _

/-! ### Lens sequencer (05) -/

theorem Ev.Keeps.handTagged (k : Byte → DownPacket) : e0.Keeps n (e.handTagged p k) := (h.updTether p _).push _
theorem Ev.Keeps.handTrigger (tag : Half) (exposure : Nat) : e0.Keeps n (e.handTrigger p tag exposure) :=
  (h.updTether p _).push _

theorem Ev.Keeps.admitSurcharge (amount : Nat) : e0.Keeps n (e.admitSurcharge p amount) :=
  ((((h.countPool _).updFigures p _).updFeed p _).updLens p _).push _

theorem Ev.Keeps.surchargeRequest : e0.Keeps n (e.surchargeRequest p) := by
  unfold Ev.surchargeRequest
  split
  · exact (h.noteInfeasible p _ _).raiseFault p _
  · exact .ite (h.admitSurcharge p _) (h.joinQueue p _ _)

theorem Ev.Keeps.enterMoveWait (kind : MoveKind) (origin : MoveOrigin) (target : Option PresetId) :
    e0.Keeps n (e.enterMoveWait p kind origin target) := ((h.updLens p _).push _).surchargeRequest p

theorem Ev.Keeps.handMove (q : PresetId) : e0.Keeps n (e.handMove p q) := by
  unfold Ev.handMove
  exact ((h.handTagged p _).updLens p _).countLens p _
theorem Ev.Keeps.handHome : e0.Keeps n (e.handHome p) := by
  unfold Ev.handHome
  exact ((h.handTagged p _).updLens p _).countLens p _

theorem Ev.Keeps.handIn : e0.Keeps n (e.handIn p) := by
  unfold Ev.handIn
  refine .ite ?_ h
  split
  · exact h
  · split
    · exact h.handHome p
    · exact h.handMove p _
    · exact h

theorem Ev.Keeps.lensWant (q : PresetId) : e0.Keeps n (e.lensWant p q) := by
  have h' := h.updLens p fun l => { l with want := some q }
  unfold Ev.lensWant
  dsimp only
  split
  · exact .ite h' (h'.enterMoveWait p _ _ _)
  · exact h'.enterMoveWait p _ _ _
  · exact h'.updLens p _
  all_goals exact h'

theorem Ev.Keeps.abandon (m : Move) : e0.Keeps n (e.abandon p m) :=
  ((((Ev.Keeps.ite (h.releaseSurcharge p) (h.dropEntry p)).updLens p _).countLens p _).lensNotice p _ _ _ _).push _

theorem Ev.Keeps.withdrawWant : e0.Keeps n (e.withdrawWant p) := by
  have h' := h.updLens p fun l => { l with want := none }
  unfold Ev.withdrawWant
  dsimp only
  split
  · exact .ite (h'.abandon p _) h'
  · exact h'

theorem Ev.Keeps.rest (prev : LensState) : e0.Keeps n (e.rest p prev) :=
  .ite (h.enterMoveWait p _ _ _) (((h.updLens p _).lensNotice p _ _ _ _).push _)

theorem Ev.Keeps.lensEnterFull : e0.Keeps n (e.lensEnterFull p) :=
  have h' := (h.updLens p _).push _
  .ite (.ite (h'.enterMoveWait p _ _ _) h') h

/-! ### Capture sequencer (04) -/

theorem Ev.Keeps.setWant (q : PresetId) : e0.Keeps n (e.setWant p q) :=
  have h' := h.updCapture p _
  .ite (h'.lensWant p q) h'

theorem Ev.Keeps.endExamination : e0.Keeps n (e.endExamination p) := .ite h ((h.updCapture p _).withdrawWant p)

omit h in
/-- A part of a queue of pending triggers meets its law too (R80). -/
theorem Capture.queueLaw_of_sublist {c c' : Capture} (hs : c'.queue.Sublist c.queue) (hk : c.queueLaw) : c'.queueLaw :=
  ⟨hs.length_le.trans hk.1, hk.2.sublist (hs.map _)⟩

theorem Ev.Keeps.dropHead : e0.Keeps n (e.dropHead p) :=
  h.updCapture p _ fun c => Capture.queueLaw_of_sublist (List.tail_sublist c.queue)

theorem Ev.Keeps.dispatch (t : PendingTrigger) : e0.Keeps n (e.dispatch p t) :=
  (((h.handTrigger p _ _).updCapture p _).countCapture p _).dropHead p

theorem Ev.Keeps.examineHeads (k : Nat) : e0.Keeps n (Ev.examineHeads p k e) := by
  induction k generalizing e with
  | zero => exact h.endExamination p
  | succ k ih =>
    unfold Ev.examineHeads
    split
    · exact h.endExamination p
    · refine .ite (ih ((h.dropHead p).loseTrigger p _ _ _ _ _)) (.ite (h.endExamination p) ?_)
      split
      · exact h.setWant p _
      · exact h.endExamination p
      · exact ih ((h.dropHead p).loseTrigger p _ _ _ _ _)
      · exact .ite (h.endExamination p) (ih (h.dispatch p _))

theorem Ev.Keeps.examine : e0.Keeps n (e.examine p) := h.examineHeads p _

omit h in
/-- A staged program that takes over, with the cursor at 0, keeps the programs in their law (R82, R83). -/
theorem Capture.programsLaw_takeOver (c : Capture) (hk : c.programsLaw) : c.enterFull.programsLaw := by
  obtain ⟨hrun, hstaged, -⟩ := hk
  refine ⟨?_, fun l hl => (nomatch hl), .inl rfl⟩
  cases hs : c.staged with
  | none => simpa [Capture.enterFull, hs] using hrun
  | some l => simpa [Capture.enterFull, hs] using hstaged l hs

omit h in
/-- The resolution of a step keeps the programs in their law: the cursor goes on inside the program, or returns to 0
with a staged program taking over (R82). -/
theorem Capture.resolve_programsLaw (c : Capture) (x : Nat) (hk : c.programsLaw) : (c.resolve x).2.programsLaw := by
  unfold Capture.resolve
  split
  · exact hk
  · dsimp only
    split
    · next hin => exact ⟨hk.1, hk.2.1, .inr hin⟩
    · exact c.programsLaw_takeOver hk

omit h in
theorem Capture.resolve_queue (c : Capture) (x : Nat) : (c.resolve x).2.queue = c.queue := by
  unfold Capture.resolve
  split
  · rfl
  · dsimp only
    split <;> rfl

omit h in
theorem Ev.loseTriggers_queue (l : List PendingTrigger) (e : Ev) (p q : PortId) :
    ((l.foldl (fun y t => y.loseTrigger p t.tag t.source t.step t.preset .stale) e).port q).capture.queue
      = (e.port q).capture.queue := by
  induction l generalizing e with
  | nil => rfl
  | cons t l ih =>
    rw [List.foldl_cons, ih]
    by_cases hq : q = p
    · subst hq
      simp [Ev.loseTrigger, Ev.countCapture, Ev.offer, State.port, Ev.updCapture]
    · exact congrArg (fun x : Port => x.capture.queue)
        (Ev.updCapture_port_other e p q (fun c => { c with counters := c.counters.countLoss .stale }) hq)

end Operations
end Sys2Proof.Machine
end

section
/-! What the acceptance of triggers, the channel, the arbiters and the admissions keep, to the end of an event. -/

namespace Sys2Proof.Machine

set_option Elab.async false

section Operations

variable {n : Nat} {e0 e : Ev} (h : e0.Keeps n e) (p : PortId)

include h

/-! ### Acceptance (R80, R82) -/

theorem Ev.Keeps.loseTriggers (l : List PendingTrigger) :
    e0.Keeps n (l.foldl (fun y t => y.loseTrigger p t.tag t.source t.step t.preset .stale) e) :=
  .foldl (fun _ _ hk => hk.loseTrigger p _ _ _ _ _) l e h

theorem Ev.Keeps.dropSameTag (tag : Half) : e0.Keeps n (e.dropSameTag p tag) :=
  (h.updCapture p _ fun _ => Capture.queueLaw_of_sublist List.filter_sublist).loseTriggers p _

omit h in
/-- A trigger leaves no older one of its tag in the queue (R80). -/
theorem Ev.dropSameTag_queue (e : Ev) (tag : Half) :
    ((e.dropSameTag p tag).port p).capture.queue = (e.port p).capture.queue.filter fun t => decide (t.tag ≠ tag) := by
  simp only [Ev.dropSameTag, Ev.loseTriggers_queue, Ev.updCapture_port]

omit h in
/-- A trigger that joins a queue of at most three, none of its tag, keeps the law of R80. -/
theorem Capture.queueLaw_append {c c' : Capture} {t : PendingTrigger} (hc : c'.queue = c.queue ++ [t])
    (hlen : c.queue.length < 4) (htag : ∀ x ∈ c.queue, x.tag ≠ t.tag) (hk : c.queueLaw) : c'.queueLaw := by
  refine ⟨by simp [hc]; omega, ?_⟩
  rw [hc, List.map_append, List.nodup_append]
  refine ⟨hk.2, List.nodup_singleton _, ?_⟩
  simp only [List.mem_map, List.map_cons, List.map_nil, List.mem_singleton, forall_exists_index, and_imp]
  rintro _ x hx rfl _ rfl
  exact htag x hx

/-- The entry of an accepted trigger joins the queue (R80). -/
theorem Ev.Keeps.joinTrigger (t : PendingTrigger) (hlen : (e.port p).capture.queue.length < 4)
    (htag : ∀ x ∈ (e.port p).capture.queue, x.tag ≠ t.tag) :
    e0.Keeps n (e.updCapture p fun c => { c with queue := c.queue ++ [t] }) := by
  have hframe := h.emptyQueue p fun c => { c with queue := [] }
  refine { hframe with triggers := fun q hk => ?_, programs := fun q hk => ?_, settings := fun hk => ?_ }
  · by_cases hq : q = p
    · subst hq
      rw [Ev.updCapture_port]
      exact Capture.queueLaw_append rfl hlen htag (h.triggers q hk)
    · rw [Ev.updCapture_port_other _ _ _ _ hq]
      exact h.triggers q hk
  · have := hframe.programs q hk
    by_cases hq : q = p
    · subst hq
      simpa only [Ev.updCapture_port, Capture.programsLaw] using this
    · simpa only [Ev.updCapture_port_other _ _ _ _ hq] using this
  · refine State.settingsFit_congr (s := e.toState) rfl rfl rfl (fun _ => rfl) (fun q => ?_) (h.settings hk)
    by_cases hq : q = p
    · subst hq
      simp only [Ev.updCapture_port, Port.settingsOf]
    · rw [Ev.updCapture_port_other _ _ _ _ hq]

theorem Ev.Keeps.acceptTrigger (tag : Half) (source : Source) : e0.Keeps n (e.acceptTrigger tag source p) := by
  unfold Ev.acceptTrigger
  dsimp only
  split
  · exact h.loseTrigger p _ _ _ _ _
  split
  · exact h.loseTrigger p _ _ _ _ _
  · next hroom =>
    have hresolved := h.updCapture p (fun c => (c.resolve (e.port p).feed.settings.defaultExposure).2)
      (fun c => Capture.queueLaw_of_sublist (by rw [Capture.resolve_queue])) (fun c => c.resolve_programsLaw _)
    refine (((hresolved.dropSameTag p tag).joinTrigger p _ ?_ ?_).countCapture p _).examine p
    · rw [Ev.dropSameTag_queue, Ev.updCapture_port, Capture.resolve_queue]
      exact (List.length_filter_le _ _).trans_lt (Nat.lt_of_not_le hroom)
    · intro x hx
      rw [Ev.dropSameTag_queue] at hx
      exact of_decide_eq_true (List.mem_filter.mp hx).2

theorem Ev.Keeps.giveTrigger (source : Source) : e0.Keeps n (e.giveTrigger source) :=
  .foldl (fun _ p hk => hk.acceptTrigger p _ _) _ _ (h.updRouter _)

/-! ### The channel and the arbiters (R21, R131, R144) -/

theorem Ev.Keeps.startChannel : e0.Keeps n (e.startChannel p) := h.updTether p _

theorem Ev.Keeps.startTransmission (g : OutputGroup) : e0.Keeps n (e.startTransmission p g) := by
  unfold Ev.startTransmission
  split
  · exact h
  · exact h.updOutput _

theorem Ev.Keeps.outputServe : e0.Keeps n e.outputServe := by
  unfold Ev.outputServe
  refine .ite h ?_
  split
  · exact h
  · exact h.startTransmission _ _

theorem Ev.Keeps.grantFull : e0.Keeps n (e.grantFull p) :=
  .ite (.ite ((h.updMeter _).setDiag p _) ((h.updMeter _).setDiag p _)) h

theorem Ev.Keeps.meterPick (k : Nat) : e0.Keeps n (Ev.meterPick k e) := by
  induction k generalizing e with
  | zero => exact h
  | succ k ih =>
    unfold Ev.meterPick
    split
    · exact .ite ((h.updMeter _).updMeter _) (ih ((h.updMeter _).countMeter _))
    · split
      · exact h.grantFull _
      · exact h

theorem Ev.Keeps.meterServe : e0.Keeps n e.meterServe := .ite h (.ite (h.updMeter _) (h.meterPick 9))

/-! ### From the probe to full power (R31, R34, R36, R61) -/

theorem Ev.Keeps.startProbe : e0.Keeps n (e.startProbe p) := h.updFeed p _

theorem Ev.Keeps.probeCheck (cause : PowerCause) : e0.Keeps n (e.probeCheck p cause) :=
  .ite (h.setPower p _ _) (.ite (h.setPower p _ _) ((h.setPower p _ _).startProbe p))

theorem Ev.Keeps.bootRequest : e0.Keeps n (e.bootRequest p) := by
  have h' := (h.setPower p .bootWait .probe).updFigures p
  unfold Ev.bootRequest
  dsimp only
  split
  · exact (((h' _).noteInfeasible p _ _).updFigures p _).raiseFault p _
  · exact ((h' _).updFigures p _).joinQueue p _ _

theorem Ev.Keeps.fullInfeasible (st : Stage) : e0.Keeps n (e.fullInfeasible p st) :=
  (h.noteInfeasible p _ _).raiseFault p _

theorem Ev.Keeps.queueFull (figure estimate surcharge lensEstimate : Nat) :
    e0.Keeps n (e.queueFull p figure estimate surcharge lensEstimate) := (h.updFigures p _).joinQueue p _ _

theorem Ev.Keeps.fullRequest (cls : Nat) : e0.Keeps n (e.fullRequest p cls) := by
  unfold Ev.fullRequest
  extract_lets e1 e2
  have h' : e0.Keeps n e2 := ((Ev.Keeps.ite h (h.countFeed p _)).updFeed p _).setPower p .fullWait .hello
  split
  · split
    · exact h'.fullInfeasible p _
    · exact h'.fullInfeasible p _
    · exact h'.queueFull p _ _ _ _
  · split
    · exact h'.fullInfeasible p _
    · exact h'.queueFull p _ _ _ _

theorem Ev.Keeps.linkWake : e0.Keeps n (e.linkWake p) := (h.updTether p _).setLink p _

theorem Ev.Keeps.admitBoot (amount : Nat) : e0.Keeps n (e.admitBoot p amount) := by
  unfold Ev.admitBoot
  exact (((((h.countPool _).updFigures p _).updPool _).updFeed p _).setPower p .boot .admission).linkWake p

theorem Ev.Keeps.admitFull (amount : Nat) : e0.Keeps n (e.admitFull p amount) := by
  unfold Ev.admitFull
  exact (((((((h.countPool _).updFigures p _).updPool _).updFeed p _).setPower p .full .admission).updCable p _).updCapture p
    Capture.enterFull (fun _ => id) (fun c => c.programsLaw_takeOver)).lensEnterFull p

theorem Ev.Keeps.grantEntry (k : AdmissionEntry) : e0.Keeps n (e.grantEntry k) := by
  unfold Ev.grantEntry
  split
  · exact h.admitBoot _ _
  · exact h.admitFull _ _
  · exact h.admitSurcharge _ _

theorem Ev.Keeps.servePass (k : Nat) : e0.Keeps n (Ev.servePass k e) := by
  induction k generalizing e with
  | zero => exact h
  | succ k ih =>
    unfold Ev.servePass
    split
    · exact h
    · exact .ite (ih ((h.updPool _).grantEntry _)) h

theorem Ev.Keeps.serve : e0.Keeps n e.serve := h.servePass _

/-! ### The end of an event -/

theorem Ev.Keeps.perform (t : Task) : e0.Keeps n (e.perform t) := by
  cases t with
  | examine p => exact h.examine p
  | handIn p => exact h.handIn p
  | channel p => exact h.startChannel p
  | serve => exact h.serve
  | output => exact h.outputServe
  | meter => exact h.meterServe

theorem Ev.Keeps.settleBy (k : Nat) : e0.Keeps n (Ev.settleBy k e) := by
  induction k generalizing e with
  | zero => exact h
  | succ k ih =>
    unfold Ev.settleBy
    split
    · exact h
    · next rest _ => exact ih (Ev.Keeps.perform (e := { e with todo := rest }) { h with } _)

theorem Ev.Keeps.settle : e0.Keeps n e.settle := h.settleBy _

end Operations
end Sys2Proof.Machine
end

section
/-! What the events of the blocks keep: packets, timers, samples, measurements. -/

namespace Sys2Proof.Machine

set_option Elab.async false

section Operations

variable {n : Nat} {e0 e : Ev} (h : e0.Keeps n e) (p : PortId)

include h

/-! ### Control packets (R6, R25, R39, R100 to R103, R157) -/

theorem Ev.Keeps.lensStall (fault : FaultKind) (event : LensEvent) (reached : Option Positions) (code : Option Byte) :
    e0.Keeps n (e.lensStall p fault event reached code) := by
  have h' := (h.releaseSurcharge p).updLens p fun l =>
    { l with state := .stalled, move := none, held := reached.or l.held, lastCode := code, settleTimer := none }
  have hcounted := Ev.Keeps.ite (c := event = .timeout) (h'.countLens p fun c => { c with timeouts := bump c.timeouts })
    (h'.countLens p fun c => { c with stalls := bump c.stalls })
  exact ((hcounted.lensNotice p _ .stalled event _).examine p).raiseFault p fault

theorem Ev.Keeps.onTarget (m : Move) (reached : Positions) (settle : Nat) : e0.Keeps n (e.onTarget p m reached settle) := by
  have h' := (h.releaseSurcharge p).updLens p fun l =>
    { l with held := some reached, lastTarget := m.target, lastCode := some 0 }
  exact .ite (h'.rest p .moving) (h'.updLens p _)

theorem Ev.Keeps.offTarget (m : Move) (target : Positions) (reached : Option Positions) :
    e0.Keeps n (e.offTarget p m target reached) :=
  .ite (((h.updLens p _).handTagged p _).countLens p _) (h.lensStall p _ _ _ _)

theorem Ev.Keeps.moveAnswer (m : Move) (code : Byte) (reached : Option Positions) :
    e0.Keeps n (e.moveAnswer p m code reached) := by
  unfold Ev.moveAnswer
  refine .ite (h.lensStall p _ _ _ _) ?_
  split
  · exact .ite (h.onTarget p _ _ _) (h.offTarget p _ _ _)
  · exact h.offTarget p _ _ _
  · exact h

theorem Ev.Keeps.homeAnswer (code : Byte) : e0.Keeps n (e.homeAnswer p code) :=
  .ite (h.lensStall p _ _ _ _) (((h.releaseSurcharge p).updLens p _).rest p _)

theorem Ev.Keeps.lensAnswer (code : Byte) (reached : Option Positions) : e0.Keeps n (e.lensAnswer p code reached) := by
  unfold Ev.lensAnswer
  split
  · exact h.moveAnswer p _ _ _
  · exact h.homeAnswer p _
  · exact h

theorem Ev.Keeps.lensTimeout : e0.Keeps n (e.lensTimeout p) := .ite (h.lensStall p _ _ _ _) h

theorem Ev.Keeps.feedStatus (input : Nat) : e0.Keeps n (e.feedStatus p input) :=
  have h' := h.updFeed p _
  have h'' := Ev.Keeps.ite ((h'.countFeed p _).takeFault p _ _ _) h'
  .ite ((h''.countFeed p _).takeFault p _ _ _) h''

theorem Ev.Keeps.lensStatus (busy : Bool) (payload : List Byte) : e0.Keeps n (e.lensStatus p busy payload) :=
  have h' := h.updLens p _
  .ite h (.ite (h'.countLens p _) h')

theorem Ev.Keeps.driftCheck : e0.Keeps n (e.driftCheck p) := by
  unfold Ev.driftCheck
  dsimp only
  split
  · exact .ite (.ite ((((h.updCable p _).countCable p _).writeFinding _).raiseFault p _) h) (.ite (h.updCable p _) h)
  · exact h

theorem Ev.Keeps.cableStatus (input : Nat) : e0.Keeps n (e.cableStatus p input) := .ite ((h.updCable p _).driftCheck p) h

theorem Ev.Keeps.takeStatus (k : UpPacket) : e0.Keeps n (e.takeStatus p k) :=
  ((h.feedStatus p _).lensStatus p _ _).cableStatus p _

theorem Ev.Keeps.takeHello (k : UpPacket) : e0.Keeps n (e.takeHello p k) :=
  have h' := (h.updTether p _).updLens p _
  (Ev.Keeps.ite (h'.fullRequest p _) h').offer _

theorem Ev.Keeps.hello (k : UpPacket) : e0.Keeps n (e.hello p k) := by
  unfold Ev.hello
  split
  · exact h.takeHello p k
  · exact h.countTether p _

theorem Ev.Keeps.leaveTable (o : Outstanding) : e0.Keeps n (e.leaveTable p o) :=
  have h' := (h.updTether p _).push _
  .ite (h'.push _) h'

theorem Ev.Keeps.answer (k : UpPacket) : e0.Keeps n (e.answer p k) := by
  unfold Ev.answer
  split
  · exact h.countTether p _
  · have h' := fun o => h.leaveTable p o
    exact .ite ((h' _).lensAnswer p _ _) ((h' _).relayAnswer p _ _ _)

/-! ### Image packets (R112 to R122) -/

theorem Ev.Keeps.discard (k : ImagePacket) : e0.Keeps n (e.discard p k) := .ite (h.creditDiscarded p) h

theorem Ev.Keeps.frameStartTaken (tag : Half) : e0.Keeps n (e.frameStartTaken p tag) := by
  unfold Ev.frameStartTaken
  split
  · exact (h.countCapture p _).closeExposure p
  · exact h.countCapture p _

theorem Ev.Keeps.openFrame (k : UpPacket) : e0.Keeps n (e.openFrame p k) :=
  ((h.keepPacket p _).updIngress p _).frameStartTaken p _

theorem Ev.Keeps.countStray : e0.Keeps n (e.countStray p) := by
  unfold Ev.countStray
  split
  · exact h.countIngress p _
  · exact h.countIngress p _
  · exact h

theorem Ev.Keeps.strayPacket (k : ImagePacket) : e0.Keeps n (e.strayPacket p k) :=
  have h' := (h.countStray p).discard p k
  .ite (h.openFrame p _) (.ite (h'.enterDiscarding p) h')

theorem Ev.Keeps.damagedPacket (f : OpenFrame) (k : ImagePacket) : e0.Keeps n (e.damagedPacket p f k) :=
  have h' := h.updIngress p _
  .ite ((h'.keepPacket p _).countIngress p _) ((h'.countIngress p _).discard p k)

theorem Ev.Keeps.lineOfFrame (f : OpenFrame) (k : UpPacket) : e0.Keeps n (e.lineOfFrame p f k) :=
  (h.updIngress p _).keepPacket p _

theorem Ev.Keeps.completeFrame (f : OpenFrame) (k : UpPacket) : e0.Keeps n (e.completeFrame p f k) :=
  (h.updIngress p _).keepPacket p _

theorem Ev.Keeps.goodInFrame (f : OpenFrame) (k : ImagePacket) : e0.Keeps n (e.goodInFrame p f k) := by
  unfold Ev.goodInFrame
  split
  · exact (h.truncateFrame p _).openFrame p _
  · exact .ite (h.lineOfFrame p _ _) ((((h.truncateFrame p _).enterDiscarding p).countStray p).discard p k)
  · exact .ite (h.completeFrame p _ _) (((h.truncateFrame p _).countStray p).discard p k)
  all_goals exact h

theorem Ev.Keeps.imagePacket (k : ImagePacket) : e0.Keeps n (e.imagePacket p k) := by
  unfold Ev.imagePacket
  split
  · split
    · exact h.goodInFrame p _ _
    · exact ((h.truncateFrame p _).enterDiscarding p).discard p k
    · exact h.damagedPacket p _ _
    · exact h.damagedPacket p _ _
    · exact h.damagedPacket p _ _
    · exact h
  · exact h.strayPacket p k
  · exact h.strayPacket p k

/-! ### Upstream packets (R4, R5) -/

theorem Ev.Keeps.countPacket (cls : PacketClass) : e0.Keeps n (e.countPacket p cls) := h.updTether p _
theorem Ev.Keeps.crcEvidence (cls : PacketClass) : e0.Keeps n (e.crcEvidence p cls) := .ite (h.updCable p _) h
theorem Ev.Keeps.unknownKind : e0.Keeps n (e.unknownKind p) := h.countTether p _

theorem Ev.Keeps.controlPacket (k : UpPacket) : e0.Keeps n (e.controlPacket p k) := by
  unfold Ev.controlPacket
  refine .ite (h.unknownKind p) ?_
  split
  · exact h.hello p k
  · exact h.takeStatus p k
  · exact h.answer p k
  all_goals exact h

theorem Ev.Keeps.imageRole (cls : PacketClass) (k : UpPacket) : e0.Keeps n (e.imageRole p cls k) :=
  (Ev.Keeps.ite (h.updTether p _) h).imagePacket p _

theorem Ev.Keeps.packetEnd (ending : PacketEnding) (bytes : List Byte) : e0.Keeps n (e.packetEnd p ending bytes) := by
  unfold Ev.packetEnd
  refine .ite ?_ h
  have h' := (h.countPacket p (classify (e.port p).tether.cameraHeld ending bytes)).crcEvidence p
    (classify (e.port p).tether.cameraHeld ending bytes)
  dsimp only
  split
  · exact h'.imageRole p _ _
  · exact .ite (h'.controlPacket p _) h'
  · exact .ite (h'.unknownKind p) h'

theorem Ev.Keeps.beacon : e0.Keeps n (e.beacon p) := .ite (h.updTether p _) h

/-! ### Tether port (R8 to R13, R21, R24, R25) -/

theorem Ev.Keeps.checkWaking (seen : Bool) : e0.Keeps n (e.checkWaking p seen) :=
  .ite (((h.updTether p _).setLink p _).push _) ((h.updTether p _).push _)

theorem Ev.Keeps.enterUp : e0.Keeps n (e.enterUp p) := (((h.updTether p _).setLink p _).push _).push _

theorem Ev.Keeps.checkLocking (good : Bool) : e0.Keeps n (e.checkLocking p good) :=
  .ite (.ite (h.enterUp p) (h.updTether p _)) (h.updTether p _)

theorem Ev.Keeps.paceLive : e0.Keeps n (e.paceLive p) :=
  .ite (.ite ((((h.updCable p _).countCable p _).updMeter _).push _) h) (h.updCable p _)

theorem Ev.Keeps.lockEvidence : e0.Keeps n (e.lockEvidence p) := .ite (h.updCable p _) h

theorem Ev.Keeps.lockLoss : e0.Keeps n (e.lockLoss p) := by
  have h' := fun f g => ((((h.countTether p f).lockEvidence p).updTether p g).leaveUp p).setLink p .locking
  unfold Ev.lockLoss
  exact (Ev.Keeps.ite ((h' _ _).triggerNotSent p) (h' _ _)).push _

theorem Ev.Keeps.judgeWindow (marks : Nat) : e0.Keeps n (e.judgeWindow p marks) := by
  unfold Ev.judgeWindow
  split
  · exact h.checkWaking p _
  · exact (h.checkLocking p _).paceLive p
  · exact .ite h (h.lockLoss p)
  · exact h
  · exact h

theorem Ev.Keeps.lockCheck : e0.Keeps n (e.lockCheck p) :=
  h.onExpiry _ fun d => ((h.reach d).updTether p _).judgeWindow p _

theorem Ev.Keeps.wakeExpired : e0.Keeps n (e.wakeExpired p) :=
  h.onExpiry _ fun d => ((h.reach d).updTether p _).raiseFault p _
theorem Ev.Keeps.relockExpired : e0.Keeps n (e.relockExpired p) :=
  h.onExpiry _ fun d => ((h.reach d).updTether p _).raiseFault p _
theorem Ev.Keeps.helloExpired : e0.Keeps n (e.helloExpired p) :=
  h.onExpiry _ fun d => ((h.reach d).updTether p _).raiseFault p _

theorem Ev.Keeps.packetSent (k : DownPacket) : e0.Keeps n (e.packetSent p k) := by
  unfold Ev.packetSent
  dsimp only
  split
  · exact (h.updTether p _).relaySent p _
  · exact h.updTether p _

theorem Ev.Keeps.downSent : e0.Keeps n (e.downSent p) := by
  unfold Ev.downSent
  split
  · exact h
  · have h' := h.updTether p fun t => { t with channel := none }
    refine Ev.Keeps.push ?_ _
    split
    · exact h'.packetSent p _
    · exact h'
    · exact h'

theorem Ev.Keeps.answerExpired (tag : Byte) : e0.Keeps n (e.answerExpired p tag) := by
  unfold Ev.answerExpired
  split
  · exact h
  · next o _ =>
    have h' := ((h.reach o.deadline).leaveTable p o).countTether p fun c => { c with timeouts := bump c.timeouts }
    exact .ite (h'.lensTimeout p) (h'.relayTimeout p tag)

theorem Ev.Keeps.sendWake : e0.Keeps n (e.sendWake p) := .ite (h.startChannel p) h
theorem Ev.Keeps.sendCredit : e0.Keeps n (e.sendCredit p) := .ite (h.startChannel p) h
theorem Ev.Keeps.sendHead : e0.Keeps n (e.sendHead p) := .ite (h.startChannel p) h

/-! ### Feed controller (R32 to R38) -/

theorem Ev.Keeps.invalidProbe : e0.Keeps n (e.invalidProbe p) :=
  .ite ((h.updFeed p _).startProbe p) ((h.updFeed p _).raiseFault p _)

theorem Ev.Keeps.probeEffect (r : ProbeResult) : e0.Keeps n (e.probeEffect p r) := by
  cases r with
  | short => exact (h.updFeed p _).raiseFault p _
  | valid => exact (h.updFeed p _).bootRequest p
  | openEnded => exact (h.updFeed p _).setPower p _ _
  | invalid => exact h.invalidProbe p

theorem Ev.Keeps.probeDone (at4V at8V : Nat) : e0.Keeps n (e.probeDone p at4V at8V) :=
  h.onExpiry _ fun d => ((h.reach d).updFeed p _).probeEffect p _
theorem Ev.Keeps.reprobe : e0.Keeps n (e.reprobe p) := h.onExpiry _ fun d => ((h.reach d).updFeed p _).probeCheck p _
theorem Ev.Keeps.backoffEnd : e0.Keeps n (e.backoffEnd p) := h.onExpiry _ fun d => ((h.reach d).updFeed p _).probeCheck p _
theorem Ev.Keeps.inrushEnd : e0.Keeps n (e.inrushEnd p) := h.onExpiry _ fun d => (h.reach d).updFeed p _
theorem Ev.Keeps.sessionEnd : e0.Keeps n (e.sessionEnd p) := h.onExpiry _ fun d => (h.reach d).updFeed p _

omit h in
theorem Feed.sample_settings (f : Feed) (current : Half) : (f.sample current).1.settings = f.settings := by
  unfold Feed.sample
  split
  · rfl
  · split <;> rfl

omit h in
/-- A change of a port's feed controller that is the same as one that keeps the settings. -/
theorem Ev.updFeed_const (e : Ev) (p : PortId) (f : Feed → Feed) :
    (e.updFeed p fun _ => f (e.port p).feed) = e.updFeed p f := by
  simp only [Ev.updFeed, Ev.updPort]
  exact congrArg (fun v => { e with ports := v }) (modifyAt_congr _ _ rfl)

theorem Ev.Keeps.feedSample (current : Half) : e0.Keeps n (e.feedSample p current) := by
  refine h.onExpiry _ fun d => ?_
  have h' : e0.Keeps n ((e.reach d).updFeed p fun _ =>
      { (((e.reach d).port p).feed.sample current).1 with sampleTimer := some ((e.reach d).time + Config.millisecond) }) := by
    rw [Ev.updFeed_const (e.reach d) p fun f =>
      { (f.sample current).1 with sampleTimer := some ((e.reach d).time + Config.millisecond) }]
    exact (h.reach d).updFeed p _ fun f => f.sample_settings current
  exact .ite ((h'.countFeed p _).raiseFault p _) h'

end Operations
end Sys2Proof.Machine
end

section
/-! What the events of the pool, the meter, the router and the output port keep, and what the requests keep. -/

namespace Sys2Proof.Machine

set_option Elab.async false

section Operations

variable {n : Nat} {e0 e : Ev} (h : e0.Keeps n e) (p : PortId)

include h

/-! ### Pool manager (R64 to R68) -/

theorem Ev.Keeps.killPort : e0.Keeps n (e.killPort p) := .ite (h.feedCut p _ _ _ _) ((h.endOffPhase p).setPower p _ _)

theorem Ev.Keeps.feedKill (byVoltage : Bool) : e0.Keeps n (e.feedKill byVoltage) :=
  (Ev.Keeps.foldl (fun _ p hk => hk.killPort p) _ _ ((h.updPool _).countPool _)).offerPool _ _

theorem Ev.Keeps.shedPort : e0.Keeps n (e.shedPort p) := (h.feedCut p _ _ _ _).countPool _

theorem Ev.Keeps.shedPass (k : Nat) : e0.Keeps n (Ev.shedPass k e).1 := by
  induction k generalizing e with
  | zero => exact h
  | succ k ih =>
    unfold Ev.shedPass
    split
    · exact h
    · split
      · exact h
      · exact ih (h.shedPort _)

theorem Ev.Keeps.enterDerate : e0.Keeps n e.enterDerate :=
  ((((h.updPool _).countPool _).shedPass 8).push _).offerPool _ _

theorem Ev.Keeps.probeChecks (l : List PortId) (cause : PowerCause) :
    e0.Keeps n (l.foldl (fun y p => y.probeCheck p cause) e) := .foldl (fun _ p hk => hk.probeCheck p cause) l e h

theorem Ev.Keeps.leaveDerate : e0.Keeps n e.leaveDerate :=
  (((h.updPool _).probeChecks _ _).push _).offerPool _ _

theorem Ev.Keeps.judgePool : e0.Keeps n e.judgePool := by
  have hcount := h.updPool Pool.count
  unfold Ev.judgePool
  extract_lets e1 q byVoltage e2
  have h' : e0.Keeps n e2 := .ite (hcount.feedKill byVoltage) hcount
  exact .ite h'.enterDerate (.ite h'.leaveDerate h')

theorem Ev.Keeps.poolSample (voltage : Half) : e0.Keeps n (e.poolSample voltage) :=
  h.onExpiry _ fun d =>
    have h' := (h.reach d).updPool _
    .ite h'.judgePool h'

/-! ### Cable meter and break analyser (R147 to R151, R165, R171 to R173) -/

theorem Ev.Keeps.recordCalibration (ticks loop : Nat) : e0.Keeps n (e.recordCalibration ticks loop) := by
  unfold Ev.recordCalibration
  exact (h.updMeter _).countMeter _

theorem Ev.Keeps.calibrationDone (ticks loop : Nat) : e0.Keeps n (e.calibrationDone ticks loop) := by
  unfold Ev.calibrationDone
  split
  · next d _ => exact (((h.reach d).recordCalibration ticks loop).updMeter _).push _
  · next d _ => exact (((h.reach d).recordCalibration ticks loop).updMeter _).setDiag _ _
  all_goals exact h

theorem Ev.Keeps.calibrationAged : e0.Keeps n e.calibrationAged := h.onExpiry _ fun d => (h.reach d).updMeter _

theorem Ev.Keeps.liveDone (shot : Samples) : e0.Keeps n (e.liveDone shot) := by
  unfold Ev.liveDone
  split
  · next d _ =>
    have h' := fun f g => ((h.reach d).updMeter f).countMeter g
    exact (Ev.Keeps.ite ((h' _ _).updCable _ _) (h' _ _)).push _
  all_goals exact h

theorem Ev.Keeps.writeJudgement (j : Judgement) (source : FindingSource) : e0.Keeps n (e.writeJudgement p j source) :=
  h.writeFinding _

theorem Ev.Keeps.applyOutcome (o : DiagOutcome) : e0.Keeps n (e.applyOutcome p o) := by
  cases o with
  | lockout => exact h.setPower p _ _
  | retry => exact (h.setPower p _ _).updFeed p (fun f => f.retried e.time) fun f => f.retried_settings _
  | none => exact h

theorem Ev.Keeps.endDiagnosis (purpose : Purpose) (r : FullResult) : e0.Keeps n (e.endDiagnosis p purpose r) := by
  have h' := ((h.writeJudgement p (judge r (e.port p).cable.echoBase) .diagnosis).countCable p fun c =>
    { c with completed := bump c.completed }).leaveDiagnosis p
  exact (h'.applyOutcome p _).offer _

theorem Ev.Keeps.storeLearn (r : FullResult) : e0.Keeps n (e.storeLearn p r) := by
  unfold Ev.storeLearn
  split
  · exact (h.updCable p _).countMeter _
  · exact h.countMeter _

theorem Ev.Keeps.endLearn (r : FullResult) : e0.Keeps n (e.endLearn p r) := by
  have h' := (((h.storeLearn p r).writeJudgement p (learnJudgement r) .learn).countCable p fun c =>
    { c with completed := bump c.completed }).leaveDiagnosis p
  exact (Ev.Keeps.ite (h'.probeCheck p _) h').offer _

theorem Ev.Keeps.endMeasured (r : FullResult) : e0.Keeps n (e.endMeasured p r) := by
  unfold Ev.endMeasured
  split
  · exact h
  · refine Ev.Keeps.becomeHead ?_
    split
    · exact h.endLearn p r
    · exact h.endDiagnosis p _ r
    · exact h.endDiagnosis p _ r
    · exact h.endDiagnosis p _ r

theorem Ev.Keeps.fullComplete (shots : List (Option Echo)) : e0.Keeps n (e.fullComplete p shots) :=
  (((h.updMeter _).countMeter _).push _).endMeasured p _

theorem Ev.Keeps.fullShots (samples : List Samples) : e0.Keeps n (e.fullShots samples) := by
  unfold Ev.fullShots
  split
  · exact .ite ((h.reach _).updMeter _) ((h.reach _).fullComplete _ _)
  all_goals exact h

theorem Ev.Keeps.dischargeEnd : e0.Keeps n e.dischargeEnd := by
  refine h.onExpiry _ fun d => ?_
  dsimp only
  split
  · exact (h.reach d).updBreaks _
  · exact ((h.reach d).updBreaks _).offerFull _

theorem Ev.Keeps.flexEnd : e0.Keeps n (e.flexEnd p) :=
  h.onExpiry _ fun d =>
    have h' := ((h.reach d).updCable p _).countCable p _
    .ite ((h'.writeFinding _).raiseFault p _) h'

/-! ### Trigger router, capture and lens sequencer (R74, R75, R85, R89, R100) -/

omit h in
theorem Router.updPin_holdoff (r : Router) (i j : Fin 4) (f : PinSource → PinSource)
    (hf : ∀ x, (f x).holdoff = x.holdoff) : ((r.updPin i f).pins.get j).holdoff = (r.pins.get j).holdoff := by
  by_cases hj : j = i
  · subst hj
    simp [Router.updPin, hf]
  · rw [Router.updPin, modifyAt_get_other _ _ _ _ hj]

theorem Ev.Keeps.updPin (i : Fin 4) (f : PinSource → PinSource) (hf : ∀ x, (f x).holdoff = x.holdoff := by intro; rfl) :
    e0.Keeps n (e.updRouter fun r => r.updPin i f) :=
  h.updRouter _ (fun _ => rfl) fun r j => r.updPin_holdoff i j f hf

theorem Ev.Keeps.countedEdge (pin : Fin 4) : e0.Keeps n (e.countedEdge pin) :=
  .ite (h.updRouter _) ((h.giveTrigger _).updPin pin _)

theorem Ev.Keeps.pinEdge (pin : Fin 4) (rising : Bool) : e0.Keeps n (e.pinEdge pin rising) := .ite (h.countedEdge pin) h

theorem Ev.Keeps.holdoffEnd (pin : Fin 4) : e0.Keeps n (e.holdoffEnd pin) :=
  h.onExpiry _ fun d => (h.reach d).updPin pin _

theorem Ev.Keeps.periodEnd : e0.Keeps n e.periodEnd := h.onExpiry _ fun d => ((h.reach d).updRouter _).giveTrigger _

theorem Ev.Keeps.staleEnd : e0.Keeps n (e.staleEnd p) := h.onExpiry _ fun d => (h.reach d).examine p

theorem Ev.Keeps.exposureEnd : e0.Keeps n (e.exposureEnd p) := by
  unfold Ev.exposureEnd
  split
  · exact h
  · next x _ => exact ((h.reach x.deadline).loseTrigger p _ _ _ _ _).closeExposure p

theorem Ev.Keeps.settleEnd : e0.Keeps n (e.settleEnd p) := h.onExpiry _ fun d => ((h.reach d).updLens p _).rest p _

/-! ### Frame output port (R128) -/

theorem Ev.Keeps.freeSlot (t : Transmission) : e0.Keeps n (e.freeSlot t) :=
  have h' := h.updIngress t.port _
  (Ev.Keeps.ite h' (h'.creditFreed t.port)).relayTest t.port

theorem Ev.Keeps.transmissionDone : e0.Keeps n e.transmissionDone := by
  unfold Ev.transmissionDone
  split
  · exact h
  · next t _ =>
    have h' := h.updOutput fun o => { o with sending := none, counters := o.counters.countSent t }
    exact (Ev.Keeps.ite h' (h'.freeSlot t)).outputServe

/-! ### ENTER_RUN and ENTER_CONFIG (R187, R188), from the entry into the operating state on -/

theorem Ev.Keeps.configPort : e0.Keeps n (e.configPort p) := by
  unfold Ev.configPort
  have h' := Ev.Keeps.ite (c := (e.port p).feed.power.feedOn = true) (h.feedCut p .disabled .config .down .silent)
    (((((h.endOffPhase p).setPower p .disabled .config).lensAbsent p).cutCapture p .silent false).relayAbort p)
  exact ((h'.updFeed p _).ingressLinkLost p).flush p

theorem Ev.Keeps.abortAll (k : Nat) : e0.Keeps n (Ev.abortAll k e) := by
  induction k generalizing e with
  | zero => exact h
  | succ k ih =>
    unfold Ev.abortAll
    split
    · exact h
    · exact ih (h.abortDiagnosis _)

omit h in
theorem Router.stopTimers_holdoff (r : Router) (i : Fin 4) : (r.stopTimers.pins.get i).holdoff = (r.pins.get i).holdoff := by
  simp [Router.stopTimers, Vector.get_eq_getElem]

/-! ### The requests that act on a port or on a block (R31, R46, R47, R105, R136, R155, R170) -/

theorem Ev.Keeps.feedRestore : e0.Keeps n e.feedRestore := ((h.updPool _).probeChecks _ _).offerPool _ _

theorem Ev.Keeps.disableFeed : e0.Keeps n (e.disableFeed p) :=
  .ite (h.feedCut p _ _ _ _) (((h.lensAbsent p).cutCapture p _ _).relayAbort p)

theorem Ev.Keeps.disablePort : e0.Keeps n (e.disablePort p) := by
  unfold Ev.disablePort
  have h' := ((((((h.disableFeed p).dropEntry p).endOffPhase p).ingressLinkLost p).flush p).abortDiagnosis p).updFeed p
    Feed.disabled
  exact .ite h' (h'.setPower p _ _)

theorem Ev.Keeps.softTrigger (src : Source) : e0.Keeps n (e.softTrigger src) := (h.updRouter _).giveTrigger src

theorem Ev.Keeps.takeAccess (hd : ReqHeader) (f : CamAccessFields) (kind : AccessKind) :
    e0.Keeps (n + 1) (e.takeAccess hd f p kind) :=
  ((h.setRelay _ (by simp; omega)).updRelay p _).handTagged p _

theorem Ev.Keeps.camAccess (hd : ReqHeader) (f : CamAccessFields) : e0.Keeps (n + 1) (e.camAccess hd f) := by
  unfold Ev.camAccess
  split
  · exact h.writeReply _
  · split
    · exact (h.updRelay _ _).writeReply _
    · exact h.takeAccess _ hd f _

/-! ### The requests that write settings (R48, R52, R77, R83, R94, R153) -/

/-- A change of the settings that keeps their law. -/
theorem Ev.Keeps.settle_settings {e' : Ev} (hlink : e'.link = e.link) (hrelay : e'.relay = e.relay)
    (hbreaks : e'.breaks = e.breaks) (hcapture : ∀ p, (e'.port p).capture = (e.port p).capture)
    (hs : e.settingsFit → e'.settingsFit) : e0.Keeps n e' where
  opState := hlink ▸ h.opState
  notices := hlink ▸ h.notices
  load := by rw [State.replyLoad, hlink, hrelay]; exact h.load
  findings hk := by rw [State.findingsFit, hbreaks]; exact h.findings hk
  triggers p hk := by rw [hcapture]; exact h.triggers p hk
  programs p hk := by rw [hcapture]; exact h.programs p hk
  settings hk := hs (h.settings hk)

omit h in
/-- The written pool settings meet the law of R52 once the thresholds are held apart. -/
theorem PoolSettings.write_separate_law (q : PoolSettings) (f : SetPoolFields) (hq : q.law) :
    (q.write f).1.separate.1.law := by
  obtain ⟨h1, h2, h3, h4, h5, h6, h7, h8, h9⟩ := hq
  have hb := takeField_range (named f.mask 0) 0 120000 f.budget.toNat q.budget (by omega) ⟨by omega, h1⟩
  have hv := takeField_range (named f.mask 1) 12000 48000 f.vPool.toNat q.vPool (by omega) ⟨h2, h3⟩
  have hd := takeField_range (named f.mask 2) 9500 48000 f.derate.toNat q.derate (by omega) ⟨h4, h5⟩
  have hk := takeField_range (named f.mask 3) 9000 47500 f.kill.toNat q.kill (by omega) ⟨h6, by omega⟩
  have ht := takeField_range (named f.mask 4) 100 10000 f.trip.toNat q.trip (by omega) ⟨h8, h9⟩
  have hderate : 9500 ≤ (q.write f).1.derate := hd.1
  unfold PoolSettings.separate
  split
  · exact ⟨hb.2, hv.1, hv.2, hd.1, hd.2, by dsimp only; omega, by dsimp only; omega, ht.1, ht.2⟩
  · exact ⟨hb.2, hv.1, hv.2, hd.1, hd.2, hk.1, by dsimp only; omega, ht.1, ht.2⟩

omit h in
/-- A written V_pool is not below V_min's least value; one that is not written stays (R48, R52). -/
theorem PoolSettings.write_separate_vPool (q : PoolSettings) (f : SetPoolFields) :
    (q.write f).1.separate.1.vPool = (takeField (named f.mask 1) 12000 48000 f.vPool.toNat q.vPool).1 := by
  unfold PoolSettings.separate
  split <;> rfl

omit h in
theorem PortSettings.law_cap {x : PortSettings} {v w : Nat} (hw : 9000 ≤ w) (hx : x.law v) :
    PortSettings.law { x with vMin := min x.vMin w } w := by
  simp only [PortSettings.law] at hx ⊢
  omega

theorem Ev.Keeps.setPool (f : SetPoolFields) : e0.Keeps n (e.setPool f).1 := by
  refine h.settle_settings ?_ ?_ ?_ (fun p => ?_) fun hk => ?_
  all_goals unfold Ev.setPool; dsimp only
  · split <;> rfl
  · split <;> rfl
  · split <;> rfl
  · split
    · simp [State.port, Vector.get_eq_getElem, Port.capVMin]
    · rfl
  · obtain ⟨hpool, hkinds, hperiod, hpins, hports⟩ := hk
    have hlaw := PoolSettings.write_separate_law _ f hpool
    split
    · refine ⟨hlaw, hkinds, hperiod, hpins, fun p => ?_⟩
      have hp := hports p
      simp only [State.port, Vector.get_eq_getElem, Vector.getElem_map, Port.capVMin] at hp ⊢
      refine ⟨PortSettings.law_cap ?_ hp.1, hp.2⟩
      have := hlaw.2.1
      omega
    · next hname =>
      refine ⟨hlaw, hkinds, hperiod, hpins, fun p => ⟨?_, (hports p).2⟩⟩
      have hv : ((e.pool.settings.write f).1.separate.1).vPool = e.pool.settings.vPool := by
        rw [PoolSettings.write_separate_vPool, takeField, if_neg hname]
      show PortSettings.law _ (((e.pool.settings.write f).1.separate.1).vPool)
      rw [hv]
      exact (hports p).1

omit h in
theorem CableKind.write_law (k : CableKind) (f : SetCableKindFields) (hk : k.law) : (k.write f).1.law := by
  obtain ⟨h1, h2, h3, h4, h5⟩ := hk
  have hv := takeField_range (named f.mask 0) 500 990 f.velocity.toNat k.velocity (by omega) ⟨h1, h2⟩
  have hl := takeField_range (named f.mask 1) 1 2000 f.loop.toNat k.loop (by omega) ⟨h3, h4⟩
  have hc := takeField_range (named f.mask 2) 0 5000 f.connector.toNat k.connector (by omega) ⟨by omega, h5⟩
  exact ⟨hv.1, hv.2, hl.1, hl.2, hc.2⟩

omit h in
/-- A vector one entry of which is set keeps what each entry and the new one meet. -/
theorem Vector.forall_get_set {α : Type} {k : Nat} {P : α → Prop} (v : Vector α k) (i : Fin k) (x : α) (hx : P x)
    (hv : ∀ j, P (v.get j)) (j : Fin k) : P ((v.set i.val x i.isLt).get j) := by
  rw [Vector.get_eq_getElem, Vector.getElem_set]
  split
  · exact hx
  · exact hv j

theorem Ev.Keeps.setCableKind (i : Fin 8) (f : SetCableKindFields) : e0.Keeps n (e.setCableKind i f).1 := by
  unfold Ev.setCableKind
  split
  · exact h
  · refine h.settle_settings rfl rfl rfl (fun _ => rfl) fun ⟨hpool, hkinds, hperiod, hpins, hports⟩ => ?_
    exact ⟨hpool, Vector.forall_get_set _ i _ (CableKind.write_law _ f (hkinds i)) hkinds, hperiod, hpins, hports⟩

omit h in
theorem PortSettings.write_law (x : PortSettings) (f : SetPortFields) (vPool : Nat) (hx : x.law vPool) :
    (x.write f vPool).1.law vPool := by
  simp only [PortSettings.law] at hx
  have hpr := takeField_range (named f.mask 0) 0 3 f.priority.toNat x.priority (by omega) (by omega)
  have hdl := takeField_range (named f.mask 2) 0 9999 f.declaredLength.toNat x.declaredLength (by omega) (by omega)
  have hvm := takeField_range (named f.mask 3) 9000 vPool f.vMin.toNat x.vMin (by omega) (by omega)
  have hlp := takeField_range (named f.mask 4) 0 5000 f.lensPower.toNat x.lensPower (by omega) (by omega)
  have hrl := takeField_range (named f.mask 5) 0 7 f.retryLimit.toNat x.retryLimit (by omega) (by omega)
  have hft := takeField_range (named f.mask 8) 1 255 f.flexThreshold.toNat x.flexThreshold (by omega) (by omega)
  have hdr := takeField_range (named f.mask 9) 5 100 f.drift.toNat x.drift (by omega) (by omega)
  have hex := takeField_range (named f.mask 10) 1 1000000 f.defaultExposure.toNat x.defaultExposure (by omega) (by omega)
  have hhl := takeField_range (named f.mask 11) 0 10000 f.holdLimit.toNat x.holdLimit (by omega) (by omega)
  exact ⟨hpr.2, hdl.2, hvm.1, hvm.2, hlp.2, hrl.2, hft.1, hft.2, hdr.1, hdr.2, hex.1, hex.2, hhl.2⟩

/-- A port's settings replaced by ones that meet their law. -/
theorem Ev.Keeps.writePortSettings (x : PortSettings)
    (hx : (e.port p).feed.settings.law e.pool.settings.vPool → x.law e.pool.settings.vPool) :
    e0.Keeps n (e.updFeed p fun f => { f with settings := x }) := by
  refine h.settle_settings rfl rfl rfl (fun q => ?_) fun ⟨hpool, hkinds, hperiod, hpins, hports⟩ =>
    ⟨hpool, hkinds, hperiod, hpins, fun q => ?_⟩
  all_goals by_cases hq : q = p
  · subst hq; rw [Ev.updFeed_port]
  · rw [Ev.updFeed_port_other _ _ _ _ hq]
  · subst hq; rw [Ev.updFeed_port]; exact ⟨hx (hports q).1, (hports q).2⟩
  · rw [Ev.updFeed_port_other _ _ _ _ hq]; exact hports q

theorem Ev.Keeps.setPort (f : SetPortFields) : e0.Keeps n (Ev.setPort f p e).1 := by
  unfold Ev.setPort
  split
  · exact h
  split
  · exact h
  · have h' := h.writePortSettings p _ (PortSettings.write_law _ f _)
    exact .ite h' (h'.resortEntry p _)

omit h in
theorem takePeriod_law (b : Bool) (new old : Nat) (ho : old = 0 ∨ 100 ≤ old ∧ old ≤ 10000000) :
    (takePeriod b new old).1 = 0 ∨ 100 ≤ (takePeriod b new old).1 ∧ (takePeriod b new old).1 ≤ 10000000 := by
  unfold takePeriod
  split
  · cases b
    · exact ho
    · exact .inl rfl
  · cases b
    · exact ho
    · exact .inr (clampTo_range 100 10000000 new (by omega))

omit h in
/-- A written source keeps the ranges of R73. -/
theorem Router.writeSource_law (r : Router) (f : SetSourceFields) (src : Source) (run : Bool) (now : Nat)
    (hperiod : r.period = 0 ∨ 100 ≤ r.period ∧ r.period ≤ 10000000) (hpins : ∀ i, (r.pins.get i).holdoff ≤ 65535) :
    ((r.writeSource f src run now).1.period = 0
        ∨ 100 ≤ (r.writeSource f src run now).1.period ∧ (r.writeSource f src run now).1.period ≤ 10000000)
      ∧ ∀ i, ((r.writeSource f src run now).1.pins.get i).holdoff ≤ 65535 := by
  unfold Router.writeSource Router.writeMap
  split
  · next i _ =>
    have hset := Vector.forall_get_set (P := fun x : PinSource => x.holdoff ≤ 65535) r.pins i ((r.pins.get i).write f).1
      (takeField_range _ 0 65535 _ _ (by omega) ⟨by omega, hpins i⟩).2 hpins
    dsimp only
    split <;> exact ⟨hperiod, hset⟩
  · have hp := takePeriod_law (named f.mask 2) f.period.toNat r.period hperiod
    dsimp only
    split <;> exact ⟨hp, hpins⟩

theorem Ev.Keeps.setSource (f : SetSourceFields) (src : Source) : e0.Keeps n (e.setSource f src).1 := by
  unfold Ev.setSource
  split
  · exact h
  · refine h.settle_settings rfl rfl rfl (fun _ => rfl) fun ⟨hpool, hkinds, hperiod, hpins, hports⟩ => ?_
    obtain ⟨hperiod', hpins'⟩ := Router.writeSource_law e.router f src (decide (e.link.opState = .run)) e.time hperiod hpins
    exact ⟨hpool, hkinds, hperiod', hpins', hports⟩

omit h in
theorem Preset.write_law (q : Preset) (f : SetPresetFields) (hq : q.law) : (q.write f).1.law := by
  obtain ⟨h1, h2, h3, h4, h5⟩ := hq
  exact ⟨(takeField_range _ 0 4095 _ _ (by omega) ⟨by omega, h1⟩).2, (takeField_range _ 0 255 _ _ (by omega) ⟨by omega, h2⟩).2,
    (takeField_range _ 0 1023 _ _ (by omega) ⟨by omega, h3⟩).2, (takeField_range _ 0 100 _ _ (by omega) ⟨by omega, h4⟩).2,
    (takeField_range _ 0 64 _ _ (by omega) ⟨by omega, h5⟩).2⟩

theorem Ev.Keeps.setPreset (f : SetPresetFields) : e0.Keeps n (Ev.setPreset f p e).1 := by
  unfold Ev.setPreset
  split
  · exact h
  · next i _ =>
    refine h.settle_settings rfl rfl rfl (fun q => ?_) fun ⟨hpool, hkinds, hperiod, hpins, hports⟩ =>
      ⟨hpool, hkinds, hperiod, hpins, fun q => ?_⟩
    all_goals by_cases hq : q = p
    · subst hq; rw [Ev.updLens_port]
    · rw [Ev.updLens_port_other _ _ _ _ hq]
    · subst hq
      rw [Ev.updLens_port]
      exact ⟨(hports q).1, Vector.forall_get_set _ i _ (Preset.write_law _ f ((hports q).2 i)) (hports q).2⟩
    · rw [Ev.updLens_port_other _ _ _ _ hq]; exact hports q

omit h in
/-- The steps of a SET_PROGRAM without a structural error meet the law of R83. -/
theorem programLaw_takeSteps (mode : Byte) (steps : List WireStep) (hgood : setProgramBad mode steps = false) :
    programLaw (steps.map takeStep) := by
  simp only [setProgramBad, Bool.or_eq_false_iff, decide_eq_false_iff_not, not_lt] at hgood
  refine ⟨by simpa using hgood.1.2, fun x hx => ?_⟩
  obtain ⟨w, -, rfl⟩ := List.mem_map.mp hx
  exact clampTo_range 1 1000000 _ (by omega)

omit h in
theorem Capture.writeProgram_law (c : Capture) (mode : Option ProgramMode) (l : List ProgramStep) (hl : programLaw l)
    (hc : c.programsLaw) : (c.writeProgram mode l).programsLaw := by
  unfold Capture.writeProgram
  split
  · exact ⟨hc.1, fun _ hk => Option.some.inj hk ▸ hl, hc.2.2⟩
  · exact ⟨hl, fun _ hk => (nomatch hk), .inl rfl⟩

omit h in
theorem Capture.writeProgram_queue (c : Capture) (mode : Option ProgramMode) (l : List ProgramStep) :
    (c.writeProgram mode l).queue = c.queue := by
  unfold Capture.writeProgram
  split <;> rfl

theorem Ev.Keeps.setProgram (mode : Byte) (steps : List WireStep) : e0.Keeps n (Ev.setProgram mode steps p e).1 := by
  unfold Ev.setProgram
  split
  · exact h
  · next hgood =>
    have hl := programLaw_takeSteps mode steps (Bool.eq_false_iff.mpr hgood)
    exact h.updCapture p _ (fun c => Capture.queueLaw_of_sublist (by rw [Capture.writeProgram_queue]))
      fun c => c.writeProgram_law _ _ hl

end Operations
end Sys2Proof.Machine
end

section
/-! The laws that every step keeps (R80, R83, R176, R182, R184, R186 to R189): from what an event keeps to a command,
and from a command to a step. -/

namespace Sys2Proof.Machine

set_option Elab.async false

/-- What the step laws say of a command that takes the hub from s to t. -/
structure State.Obeys (s t : State) : Prop where
  notices : s.noticesFit → t.noticesFit
  replies : s.repliesFit → t.repliesFit
  findings : s.findingsFit → t.findingsFit
  triggers : s.triggersFit → t.triggersFit
  programs : s.programsFit → t.programsFit
  settings : s.settingsFit → t.settingsFit

/-- The same, for a command that leaves the operating state. -/
structure State.Stays (s t : State) : Prop extends s.Obeys t where
  opState : t.link.opState = s.link.opState

theorem State.Obeys.refl (s : State) : s.Obeys s := ⟨id, id, id, id, id, id⟩
theorem State.Stays.refl (s : State) : s.Stays s := ⟨.refl s, rfl⟩

theorem State.Obeys.trans {s t u : State} (h : s.Obeys t) (h' : t.Obeys u) : s.Obeys u :=
  ⟨h'.notices ∘ h.notices, h'.replies ∘ h.replies, h'.findings ∘ h.findings, h'.triggers ∘ h.triggers,
    h'.programs ∘ h.programs, h'.settings ∘ h.settings⟩

/-- A change of the control link that takes no room in its queues. -/
theorem State.obeys_onLink (s : State) (l : Link) (hn : l.notices.length ≤ s.link.notices.length)
    (hw : l.written.length ≤ s.link.written.length) : s.Obeys { s with link := l } :=
  ⟨fun h => hn.trans h, fun h => (Nat.add_le_add_left hw _).trans h, id, id, id, id⟩

@[simp] theorem answerDone_fst (e : Ev) : (answerDone e).1 = e := rfl
@[simp] theorem answerDone_snd (e : Ev) : (answerDone e).2 = { status := .done } := rfl
@[simp] theorem answerOnly_fst (status : Status) (e : Ev) : (answerOnly status e).1 = e := rfl
@[simp] theorem answerOnly_snd (status : Status) (e : Ev) : (answerOnly status e).2 = { status := status } := rfl

/-! ### Events -/

/-- An event whose action keeps what stands after a change of the operating state, with room for its replies. -/
theorem State.event_obeys_from (s : State) (act : Ev → Ev) (f : Link → Link) {n : Nat}
    (hn : (f s.link).notices = s.link.notices) (hw : (f s.link).written = s.link.written)
    (h : (s.begin.updLink f).Keeps n (act s.begin)) (hroom : s.replyLoad ≤ 8 → s.replyLoad + n ≤ 8) :
    s.Obeys (s.event act) := by
  have h' := h.settle
  refine ⟨fun hs => ?_, fun hs => ?_, h'.findings, fun hs p => h'.triggers p (hs p), fun hs p => h'.programs p (hs p),
    h'.settings⟩
  · refine Link.joins_notices_le _ _ ?_
    rw [h'.notices]
    exact hn ▸ hs
  · have hload := h'.load
    have := hroom hs
    have hwritten : (s.event act).link.written = (act s.begin).settle.link.written := Link.joins_written _ _
    have hrelay : (s.event act).relay = (act s.begin).settle.relay := rfl
    have hbase : (s.begin.updLink f).replyLoad = s.replyLoad := by
      simp only [State.replyLoad, Ev.updLink_link, Ev.updLink_relay]
      exact congrArg (fun l : List Reply => s.relay.length + l.length) hw
    simp only [State.repliesFit, hwritten, hrelay]
    simp only [State.replyLoad] at *
    omega

theorem State.event_stays (s : State) (act : Ev → Ev) {n : Nat} (h : s.begin.Keeps n (act s.begin))
    (hroom : s.replyLoad ≤ 8 → s.replyLoad + n ≤ 8) : s.Stays (s.event act) :=
  ⟨s.event_obeys_from act id rfl rfl h hroom, (Link.joins_opState _ _).trans h.settle.opState⟩

theorem State.blockEvent_stays (s : State) (act : Ev → Ev) (h : s.begin.Keeps 0 (act s.begin)) :
    s.Stays (s.blockEvent act) := by
  unfold State.blockEvent
  split
  · exact s.event_stays act h id
  · exact .refl s

/-! ### Requests (R181) -/

/-- A request that is taken finds a free reply entry (R181, R182). -/
theorem State.room_of_mayTake {s : State} {code : Byte} (h : s.mayTake code = true) : s.replyLoad + 1 ≤ 8 := by
  have hfree : 0 < s.freeReplies := of_decide_eq_true (Bool.and_eq_true_iff.mp h).2
  simp only [State.freeReplies, Config.replyEntries, State.replyLoad] at *
  omega

theorem State.dropRequest_stays (s : State) : s.Stays s.dropRequest :=
  ⟨s.obeys_onLink _ (Nat.le_refl _) (Nat.le_refl _), rfl⟩

theorem State.takeRequest_stays (s : State) (code : Byte) (act : Ev → Ev) (h : ∀ e : Ev, e.Keeps 1 (act e)) :
    s.Stays (s.takeRequest code act) := by
  unfold State.takeRequest
  split
  · exact .refl s
  split
  · next htake =>
    have hcount := h s.begin.countTaken
    exact s.event_stays _ (n := 1) { hcount with } fun _ => State.room_of_mayTake htake
  · exact s.dropRequest_stays

theorem State.hubRequest_stays (s : State) (code : Byte) (hd : ReqHeader) (body : Ev → Ev × Answer)
    (h : ∀ e : Ev, e.Keeps 0 (body e).1) : s.Stays (s.hubRequest code hd body) :=
  s.takeRequest_stays code _ fun e => (h e).writeReply _

theorem State.portRequest_stays (s : State) (code : Byte) (hd : ReqHeader) (body : PortId → Ev → Ev × Answer)
    (h : ∀ p (e : Ev), e.Keeps 0 (body p e).1) : s.Stays (s.portRequest code hd body) := by
  refine s.hubRequest_stays code hd _ fun e => ?_
  split
  · exact h _ e
  · exact .refl e

/-- A request to the hub that may set the operating state before all else it does. -/
theorem State.hubRequest_obeys (s : State) (code : Byte) (hd : ReqHeader) (body : Ev → Ev × Answer)
    (h : ∀ e : Ev, ∃ o : OpState, (e.updLink fun l => { l with opState := o }).Keeps 0 (body e).1) :
    s.Obeys (s.hubRequest code hd body) := by
  unfold State.hubRequest State.takeRequest
  split
  · exact .refl s
  split
  · next htake =>
    obtain ⟨o, ho⟩ := h s.begin.countTaken
    exact s.event_obeys_from _
      (fun l => { l with opState := o, counters := { l.counters with taken := bump l.counters.taken } }) rfl rfl
      (ho.writeReply _) fun _ => State.room_of_mayTake htake
  · exact s.dropRequest_stays.toObeys

/-! ### ENTER_RUN, ENTER_CONFIG, RESTART (R187 to R189) -/

theorem Ev.enterRun_keeps (e : Ev) : (e.updLink fun l => { l with opState := .run }).Keeps 0 e.enterRun :=
  (((Ev.Keeps.refl _).updPool _).updRouter _).probeChecks _ _

theorem Ev.enterConfig_keeps (e : Ev) : (e.updLink fun l => { l with opState := .config }).Keeps 0 e.enterConfig := by
  have h := (((Ev.Keeps.refl (e.updLink fun l => { l with opState := .config })).updPool Pool.enterConfig).updRouter
    Router.stopTimers (fun _ => rfl) Router.stopTimers_holdoff).abortAll 8
  unfold Ev.enterConfig
  exact (Ev.Keeps.foldl (fun _ p hk => hk.configPort p) allPorts _ (h.updMeter Meter.enterConfig)).updPool
    fun q => q.setQueue []

theorem State.enterRun_obeys (s : State) (hd : ReqHeader) : s.Obeys (s.enterRun hd) := by
  refine s.hubRequest_obeys _ _ _ fun e => ?_
  split
  · exact ⟨e.link.opState, .refl e⟩
  split
  · exact ⟨e.link.opState, .refl e⟩
  · exact ⟨.run, e.enterRun_keeps⟩

theorem State.enterConfig_obeys (s : State) (hd : ReqHeader) : s.Obeys (s.enterConfig hd) := by
  refine s.hubRequest_obeys _ _ _ fun e => ?_
  split
  · exact ⟨.config, e.enterConfig_keeps⟩
  · exact ⟨e.link.opState, .refl e⟩

/-- The settings after a reset lie in their ranges (R48, R52, R73, R94). -/
theorem PoolSettings.reset_law : ({} : PoolSettings).law := by
  simp only [PoolSettings.law]
  omega
theorem PortSettings.reset_law : ({} : PortSettings).law ({} : PoolSettings).vPool := by
  simp only [PortSettings.law]
  omega
theorem Preset.reset_law : ({} : Preset).law := by
  simp only [Preset.law]
  omega
theorem CableKind.reset_law : ({} : CableKind).law := by
  simp only [CableKind.law]
  omega
theorem Capture.reset_queueLaw : ({} : Capture).queueLaw := ⟨Nat.zero_le _, List.nodup_nil⟩
theorem Capture.reset_programsLaw : ({} : Capture).programsLaw :=
  ⟨⟨Nat.zero_le _, fun _ hx => (nomatch hx)⟩, fun _ hl => (nomatch hl), .inl rfl⟩

theorem Vector.get_replicate {α : Type} {n : Nat} (x : α) (i : Fin n) : (Vector.replicate n x).get i = x := by
  simp [Vector.get_eq_getElem]

/-- A hub whose ports, pool and router have their reset values meets the laws of the triggers, the programs and the
settings; the cable kinds are those of before a soft reset. -/
theorem State.laws_of_resetPorts (s : State) (hpool : s.pool.settings = {}) (hrouter : s.router = {})
    (hports : ∀ p, (s.port p).capture = {} ∧ (s.port p).feed.settings = {} ∧ (s.port p).lens = {}) :
    s.triggersFit ∧ s.programsFit ∧ ((∀ i, (s.kinds.get i).law) → s.settingsFit) := by
  refine ⟨fun p => ?_, fun p => ?_, fun hkinds => ⟨?_, hkinds, ?_, fun i => ?_, fun p => ⟨?_, fun q => ?_⟩⟩⟩
  · rw [(hports p).1]; exact Capture.reset_queueLaw
  · rw [(hports p).1]; exact Capture.reset_programsLaw
  · rw [hpool]; exact PoolSettings.reset_law
  · rw [hrouter]; exact .inl rfl
  · rw [hrouter, Vector.get_replicate]; exact Nat.zero_le _
  · rw [hpool, (hports p).2.1]; exact PortSettings.reset_law
  · rw [(hports p).2.2, Vector.get_replicate]; exact Preset.reset_law

theorem State.restart_obeys (s : State) (hd : ReqHeader) : s.Obeys (s.restart hd) := by
  unfold State.restart
  split
  · exact .refl s
  split
  · obtain ⟨htriggers, hprograms, hsettings⟩ := State.laws_of_resetPorts
      { s.softReset with link := { s.softReset.link with written := [replyOf 0x02 hd { status := .done }] } } rfl rfl
      fun p => by simp [State.port, State.softReset, Vector.get_eq_getElem, Port.softReset]
    exact ⟨fun _ => Nat.zero_le _, fun _ => by simp [State.repliesFit, State.softReset], id, fun _ => htriggers,
      fun _ => hprograms, fun hs => hsettings hs.2.1⟩
  · exact s.dropRequest_stays.toObeys

/-! ### The requests that leave the operating state -/

theorem Ev.feedRestoreRequest_keeps (e : Ev) :
    e.Keeps 0 (if e.pool.killPresent then
      answerOnly .refusedState (e.countPool fun c => { c with restoresRefused := bump c.restoresRefused })
    else if e.pool.feedEnable then answerDone e
    else answerDone e.feedRestore).1 := by
  split
  · rw [answerOnly_fst]
    exact (Ev.Keeps.refl e).countPool _
  split
  · exact .refl e
  · exact (Ev.Keeps.refl e).feedRestore

theorem Ev.cableLearn_keeps (p : PortId) (e : Ev) : e.Keeps 0 (Ev.cableLearn p e).1 := by
  unfold Ev.cableLearn
  split
  · exact .refl e
  split
  · exact .refl e
  · exact (Ev.Keeps.refl e).joinDiagnosis p _ _

theorem Ev.diagnose_keeps (options : Byte) (p : PortId) (e : Ev) : e.Keeps 0 (Ev.diagnose options p e).1 := by
  unfold Ev.diagnose
  dsimp only
  split
  · exact .refl e
  split
  · exact .refl e
  · exact (Ev.Keeps.refl e).joinDiagnosis p _ _

/-- The emptied findings (R177) leave all else that the laws speak of. -/
theorem Ev.clearFindings_keeps (e : Ev) : e.Keeps 0 e.clearFindings where
  opState := rfl
  notices := rfl
  load := Nat.le_refl _
  findings _ := Nat.zero_le _
  triggers p hk := by simpa [Ev.clearFindings, State.port, Vector.get_eq_getElem] using hk
  programs p hk := by simpa [Ev.clearFindings, State.port, Vector.get_eq_getElem] using hk
  settings hk := State.settingsFit_congr (s := e.toState) rfl rfl rfl (fun _ => rfl)
    (fun p => by simp [Ev.clearFindings, State.port, Vector.get_eq_getElem, Port.settingsOf]) hk

theorem Ev.setReaction_keeps (kind reaction : Byte) (p : PortId) (e : Ev) :
    e.Keeps 0 (Ev.setReaction kind reaction p e).1 := by
  unfold Ev.setReaction
  split
  · dsimp only
    exact (Ev.Keeps.refl e).updCable p _
  · exact .refl e
  · exact .refl e

theorem Ev.portEnable_keeps (p : PortId) (e : Ev) : e.Keeps 0 (Ev.portEnable p e).1 := by
  have h' := (Ev.Keeps.refl e).updFeed p fun f => { f with enabled := true }
  unfold Ev.portEnable
  split
  · split
    · exact h'.probeCheck p _
    · exact .refl e
  · exact h'

theorem Ev.portDisable_keeps (p : PortId) (e : Ev) : e.Keeps 0 (Ev.portDisable p e).1 := by
  have h' := (Ev.Keeps.refl e).updFeed p fun f => { f with enabled := false }
  unfold Ev.portDisable
  dsimp only
  split
  · rw [answerDone_fst]
    exact h'.abortDiagnosis p
  · rw [answerDone_fst]
    exact h'.disablePort p

theorem Ev.portRelease_keeps (p : PortId) (e : Ev) : e.Keeps 0 (Ev.portRelease p e).1 := by
  unfold Ev.portRelease
  split
  · exact ((Ev.Keeps.refl e).updFeed p _).probeCheck p _
  split
  · exact (((Ev.Keeps.refl e).setHold p _ _).push _).push _
  · exact .refl e

/-- The clearing of a port's counters leaves what the laws speak of. -/
theorem Ev.readCounters_keeps (clear : Byte) (p : PortId) (e : Ev) : e.Keeps 0 (Ev.readCounters clear p e).1 :=
  .ite (.refl e) ((Ev.Keeps.refl e).updPort p _)

theorem Ev.trigger_keeps (mask : Byte) (e : Ev) : e.Keeps 0 (e.trigger mask).1 := by
  unfold Ev.trigger
  dsimp only
  split
  · exact .refl e
  split
  · exact Ev.Keeps.foldl (fun _ src hk => hk.softTrigger src) _ _ (.refl e)
  · exact .refl e

theorem Ev.lensGoto_keeps (preset : Byte) (p : PortId) (e : Ev) : e.Keeps 0 (Ev.lensGoto preset p e).1 := by
  unfold Ev.lensGoto
  dsimp only
  split
  · exact .refl e
  · split
    · exact .refl e
    split
    · exact .refl e
    split
    · exact .refl e
    split
    · exact .refl e
    split
    · rw [answerDone_fst]
      exact (Ev.Keeps.refl e).updLens p _
    · exact ((Ev.Keeps.refl e).countLens p _).enterMoveWait p _ _ _

theorem Ev.lensHome_keeps (p : PortId) (e : Ev) : e.Keeps 0 (Ev.lensHome p e).1 := by
  unfold Ev.lensHome
  dsimp only
  split
  · exact .refl e
  split
  · exact .refl e
  · exact ((Ev.Keeps.refl e).countLens p _).enterMoveWait p _ _ _

/-- The requests that set the operating state (R187 to R189). -/
def Instr.entersState : Instr → Bool
  | .enterRun _ | .enterConfig _ | .restart _ => true
  | _ => false

/-- A request that sets no operating state keeps the laws and the operating state. -/
theorem State.carryOut_stays (s : State) (i : Instr) (hi : Instr.entersState i = false) : s.Stays (s.carryOut i) := by
  cases i <;> simp only [State.carryOut, State.identify, State.readHub, State.setNoticeMask, State.setPool, State.readPool,
    State.feedRestore, State.setCableKind, State.calibrate, State.cableLearn, State.diagnose, State.readCable,
    State.readFindings, State.clearFindings, State.setPort, State.setReaction, State.portEnable, State.portDisable,
    State.portRelease, State.readPort, State.readCounters, State.setSource, State.trigger, State.setProgram,
    State.setPreset, State.lensGoto, State.lensHome, State.camAccess]
  case enterRun | enterConfig | restart => cases hi
  case identify h => exact s.hubRequest_stays _ _ _ fun e => .refl e
  case readHub h => exact s.hubRequest_stays _ _ _ fun e => .refl e
  case setNoticeMask h mask =>
    refine s.hubRequest_stays _ _ _ fun e => ?_
    rw [answerDone_fst]
    exact (Ev.Keeps.refl e).updLink _
  case setPool h f =>
    refine s.hubRequest_stays _ _ _ fun e => ?_
    split
    · exact .refl e
    · exact (Ev.Keeps.refl e).setPool f
  case readPool h => exact s.hubRequest_stays _ _ _ fun e => .refl e
  case feedRestore h => exact s.hubRequest_stays _ _ _ fun e => e.feedRestoreRequest_keeps
  case setCableKind h f =>
    refine s.hubRequest_stays _ _ _ fun e => ?_
    split
    · exact .refl e
    · exact (Ev.Keeps.refl e).setCableKind _ f
  case calibrate h => exact s.hubRequest_stays _ _ _ fun e => ((Ev.Keeps.refl e).updMeter _).push _
  case cableLearn h => exact s.portRequest_stays _ _ _ Ev.cableLearn_keeps
  case diagnose h options => exact s.portRequest_stays _ _ _ (Ev.diagnose_keeps options)
  case readCable h => exact s.portRequest_stays _ _ _ fun _ e => .refl e
  case readFindings h offset count => exact s.hubRequest_stays _ _ _ fun e => .refl e
  case clearFindings h => exact s.hubRequest_stays _ _ _ fun e => e.clearFindings_keeps
  case setPort h f => exact s.portRequest_stays _ _ _ fun p e => (Ev.Keeps.refl e).setPort p f
  case setReaction h kind reaction => exact s.portRequest_stays _ _ _ (Ev.setReaction_keeps kind reaction)
  case portEnable h => exact s.portRequest_stays _ _ _ Ev.portEnable_keeps
  case portDisable h => exact s.portRequest_stays _ _ _ Ev.portDisable_keeps
  case portRelease h => exact s.portRequest_stays _ _ _ Ev.portRelease_keeps
  case readPort h => exact s.portRequest_stays _ _ _ fun _ e => .refl e
  case readCounters h clear => exact s.portRequest_stays _ _ _ (Ev.readCounters_keeps clear)
  case setSource h f =>
    refine s.hubRequest_stays _ _ _ fun e => ?_
    split
    · exact .refl e
    · exact (Ev.Keeps.refl e).setSource f _
  case trigger h mask => exact s.hubRequest_stays _ _ _ (Ev.trigger_keeps mask)
  case setProgram h mode steps => exact s.portRequest_stays _ _ _ fun p e => (Ev.Keeps.refl e).setProgram p mode steps
  case setPreset h f => exact s.portRequest_stays _ _ _ fun p e => (Ev.Keeps.refl e).setPreset p f
  case lensGoto h preset => exact s.portRequest_stays _ _ _ (Ev.lensGoto_keeps preset)
  case lensHome h => exact s.portRequest_stays _ _ _ Ev.lensHome_keeps
  case camAccess h f => exact s.takeRequest_stays _ _ fun e => (Ev.Keeps.refl e).camAccess h f
  all_goals exact .refl s

theorem State.carryOut_obeys (s : State) (i : Instr) : s.Obeys (s.carryOut i) := by
  cases hi : Instr.entersState i with
  | false => exact (s.carryOut_stays i hi).toObeys
  | true =>
    cases i
    case enterRun h => exact s.enterRun_obeys h
    case enterConfig h => exact s.enterConfig_obeys h
    case restart h => exact s.restart_obeys h
    all_goals cases hi

end Sys2Proof.Machine
end

section
/-! The step laws: every command keeps them, and so does every step. -/

namespace Sys2Proof.Machine

set_option Elab.async false

/-! ### Transactions (R179, R183) -/

/-- The end of a transaction takes no room in the queues and leaves the operating state. -/
theorem Link.settle_spec (l : Link) (t : Transaction) (n : Nat) :
    (l.settle t n).notices.length ≤ l.notices.length ∧ (l.settle t n).written.length ≤ l.written.length
      ∧ (l.settle t n).opState = l.opState := by
  unfold Link.settle Link.settleFlags Link.settleFrame
  split <;> split <;> simp

theorem State.settled_stays (s : State) (t : Transaction) (n : Nat) : s.Stays { s with link := s.link.settle t n } :=
  have ⟨hn, hw, ho⟩ := Link.settle_spec s.link t n
  ⟨s.obeys_onLink _ hn hw, ho⟩

theorem State.rejectFrame_stays (s : State) (k : FrameClass) : s.Stays (s.rejectFrame k) :=
  ⟨s.obeys_onLink _ (Nat.le_refl _) (Nat.le_refl _), rfl⟩

theorem State.badRequest_stays (s : State) (code : Byte) (hd : ReqHeader) (b : List Byte) :
    s.Stays (s.badRequest code hd b) :=
  s.takeRequest_stays _ _ fun e => ((Ev.Keeps.refl e).countLink _).writeReply _

theorem State.judgeFrame_obeys (s : State) (sdi : List Byte) : s.Obeys (s.judgeFrame sdi) := by
  unfold State.judgeFrame
  split
  · exact .refl s
  split
  · exact .refl s
  · exact (s.rejectFrame_stays _).toObeys
  · exact (s.rejectFrame_stays _).toObeys
  · exact (s.rejectFrame_stays _).toObeys
  · unfold State.soundFrame
    split
    · exact s.carryOut_obeys _
    · exact (s.badRequest_stays _ _ _).toObeys

theorem State.transactionEnd_obeys (s : State) (sdi : List Byte) : s.Obeys (s.transactionEnd sdi) := by
  unfold State.transactionEnd
  split
  · exact .refl s
  · exact (s.settled_stays _ _).toObeys.trans (State.judgeFrame_obeys _ sdi)

/-! ### Hard reset and self-check (R186, R189) -/

theorem State.hardReset_obeys (s : State) (pin : Bool) (q : List Instr) : s.Obeys (State.hardReset pin q) := by
  obtain ⟨htriggers, hprograms, hsettings⟩ := State.laws_of_resetPorts (State.hardReset pin q) rfl rfl
    fun p => by simp [State.port, State.hardReset]
  exact ⟨fun _ => Nat.zero_le _, fun _ => Nat.zero_le _, fun _ => Nat.zero_le _, fun _ => htriggers, fun _ => hprograms,
    fun _ => hsettings fun i => by rw [State.hardReset, Vector.get_replicate]; exact CableKind.reset_law⟩

theorem State.endSelfCheck_obeys (s : State) (act : Ev → Ev)
    (h : ∀ e : Ev, ∃ o b, (e.updLink fun l => { l with opState := o, failure := b }).Keeps 0 (act e)) :
    s.Obeys (s.endSelfCheck act) := by
  unfold State.endSelfCheck
  split
  · exact .refl s
  split
  · cases hd : s.selfCheck with
    | none =>
      refine s.event_obeys_from _ id (n := 0) rfl rfl ?_ id
      have hquiet : s.begin.selfCheck = none := hd
      rw [hquiet]
      exact .refl s.begin
    | some d =>
      obtain ⟨o, b, hk⟩ := h { s.begin.reach d with selfCheck := none }
      refine s.event_obeys_from _ (fun l => { l with opState := o, failure := b }) (n := 0) rfl rfl ?_ id
      have hruns : s.begin.selfCheck = some d := hd
      rw [hruns]
      exact { hk with }
  · exact .refl s

/-! ### Commands -/

/-- The commands that may change the operating state (R186 to R189). -/
def Instr.setsState : Instr → Bool
  | .enterRun _ | .enterConfig _ | .restart _ | .transactionEnd _ | .hardReset | .selfCheckPass | .selfCheckFailure => true
  | _ => false

/-- A request is carried out alike, however it reaches the hub (R181). -/
theorem exec_request (i : Instr) (s : State) (hi : isRequest i = true) : exec i s = .next (s.carryOut i) := by
  cases i
  any_goals rfl
  all_goals cases hi

theorem blockEvent_next_stays {s t : State} {act : Ev → Ev}
    (h : (Host.Outcome.next (s.blockEvent act) : Host.Outcome State Fault Refusal) = .next t)
    (hk : ∀ e : Ev, e.Keeps 0 (act e)) : s.Stays t := by
  obtain rfl := Host.Outcome.next.inj h
  exact s.blockEvent_stays act (hk _)

/-- Every other command keeps the laws and the operating state. -/
theorem exec_stays (c : Instr) (s t : State) (h : exec c s = .next t) (hc : Instr.setsState c = false) : s.Stays t := by
  cases hreq : isRequest c with
  | true =>
    rw [exec_request c s hreq] at h
    obtain rfl := Host.Outcome.next.inj h
    refine s.carryOut_stays c ?_
    cases c
    any_goals rfl
    all_goals cases hc
  | false =>
    cases c
    case transactionStart =>
      obtain rfl := Host.Outcome.next.inj h
      unfold State.transactionStart
      split
      · exact .refl s
      · exact ⟨s.obeys_onLink _ (Nat.le_refl _) (Nat.le_refl _), rfl⟩
    case nresetRelease =>
      obtain rfl := Host.Outcome.next.inj h
      unfold State.nresetRelease
      split
      · exact ⟨⟨id, id, id, id, id, id⟩, rfl⟩
      · exact .refl s
    case triggerPinEdge pin rising => exact blockEvent_next_stays h fun e => (Ev.Keeps.refl e).pinEdge pin rising
    case holdoffTimerExpiry pin => exact blockEvent_next_stays h fun e => (Ev.Keeps.refl e).holdoffEnd pin
    case periodTimerExpiry => exact blockEvent_next_stays h fun e => (Ev.Keeps.refl e).periodEnd
    case staleTimerExpiry p => exact blockEvent_next_stays h fun e => (Ev.Keeps.refl e).staleEnd p
    case triggerDispatch p => exact blockEvent_next_stays h fun e => (Ev.Keeps.refl e).examine p
    case exposureDeadlineExpiry p => exact blockEvent_next_stays h fun e => (Ev.Keeps.refl e).exposureEnd p
    case upstreamPacketEnd p ending bytes =>
      exact blockEvent_next_stays h fun e => (Ev.Keeps.refl e).packetEnd p ending bytes
    case beacon p => exact blockEvent_next_stays h fun e => (Ev.Keeps.refl e).beacon p
    case lockCheckExpiry p => exact blockEvent_next_stays h fun e => (Ev.Keeps.refl e).lockCheck p
    case wakeTimerExpiry p => exact blockEvent_next_stays h fun e => (Ev.Keeps.refl e).wakeExpired p
    case relockTimerExpiry p => exact blockEvent_next_stays h fun e => (Ev.Keeps.refl e).relockExpired p
    case helloTimerExpiry p => exact blockEvent_next_stays h fun e => (Ev.Keeps.refl e).helloExpired p
    case wakeSend p => exact blockEvent_next_stays h fun e => (Ev.Keeps.refl e).sendWake p
    case creditSend p => exact blockEvent_next_stays h fun e => (Ev.Keeps.refl e).sendCredit p
    case downQueueStart p => exact blockEvent_next_stays h fun e => (Ev.Keeps.refl e).sendHead p
    case downPacketSent p => exact blockEvent_next_stays h fun e => (Ev.Keeps.refl e).downSent p
    case answerDeadlineExpiry p tag => exact blockEvent_next_stays h fun e => (Ev.Keeps.refl e).answerExpired p tag
    case probeTimerExpiry p a b => exact blockEvent_next_stays h fun e => (Ev.Keeps.refl e).probeDone p a b
    case reprobeTimerExpiry p => exact blockEvent_next_stays h fun e => (Ev.Keeps.refl e).reprobe p
    case inrushTimerExpiry p => exact blockEvent_next_stays h fun e => (Ev.Keeps.refl e).inrushEnd p
    case sampleTimerExpiry p current => exact blockEvent_next_stays h fun e => (Ev.Keeps.refl e).feedSample p current
    case fullSessionTimerExpiry p => exact blockEvent_next_stays h fun e => (Ev.Keeps.refl e).sessionEnd p
    case backoffTimerExpiry p => exact blockEvent_next_stays h fun e => (Ev.Keeps.refl e).backoffEnd p
    case poolSample v => exact blockEvent_next_stays h fun e => (Ev.Keeps.refl e).poolSample v
    case admission => exact blockEvent_next_stays h fun e => (Ev.Keeps.refl e).serve
    case lensPacketHandIn p => exact blockEvent_next_stays h fun e => (Ev.Keeps.refl e).handIn p
    case settleTimerExpiry p => exact blockEvent_next_stays h fun e => (Ev.Keeps.refl e).settleEnd p
    case holdAsserted =>
      obtain rfl := Host.Outcome.next.inj h
      unfold State.holdAsserted
      split
      · exact .refl s
      · exact ⟨⟨id, id, id, id, id, id⟩, rfl⟩
    case holdDeasserted =>
      obtain rfl := Host.Outcome.next.inj h
      unfold State.holdDeasserted
      split
      · obtain ⟨⟨h1, h2, h3, h4, h5, h6⟩, h7⟩ :=
          ({ s with output := { s.output with holdPin := false } } : State).blockEvent_stays _ (Ev.Keeps.refl _).outputServe
        exact ⟨⟨h1, h2, h3, h4, h5, h6⟩, h7⟩
      · exact .refl s
    case transmissionStart => exact blockEvent_next_stays h fun e => (Ev.Keeps.refl e).outputServe
    case transmissionComplete => exact blockEvent_next_stays h fun e => (Ev.Keeps.refl e).transmissionDone
    case watermarkReached p => exact blockEvent_next_stays h fun e => (Ev.Keeps.refl e).relayTest p
    case meterGrant => exact blockEvent_next_stays h fun e => (Ev.Keeps.refl e).meterServe
    case calibrationComplete a b => exact blockEvent_next_stays h fun e => (Ev.Keeps.refl e).calibrationDone a b
    case liveShotComplete shot => exact blockEvent_next_stays h fun e => (Ev.Keeps.refl e).liveDone shot
    case fullMeasurementComplete => exact blockEvent_next_stays h fun e => (Ev.Keeps.refl e).fullShots _
    case calibrationAgeExpiry => exact blockEvent_next_stays h fun e => (Ev.Keeps.refl e).calibrationAged
    case flexWindowExpiry p => exact blockEvent_next_stays h fun e => (Ev.Keeps.refl e).flexEnd p
    case dischargeTimerExpiry => exact blockEvent_next_stays h fun e => (Ev.Keeps.refl e).dischargeEnd
    case transactionEnd | hardReset | selfCheckPass | selfCheckFailure => cases hc
    all_goals cases hreq

/-- Every command keeps the laws. -/
theorem exec_obeys (c : Instr) (s t : State) (h : exec c s = .next t) : s.Obeys t := by
  cases hc : Instr.setsState c with
  | false => exact (exec_stays c s t h hc).toObeys
  | true =>
    cases c
    case enterRun hd => obtain rfl := Host.Outcome.next.inj h; exact s.enterRun_obeys hd
    case enterConfig hd => obtain rfl := Host.Outcome.next.inj h; exact s.enterConfig_obeys hd
    case restart hd => obtain rfl := Host.Outcome.next.inj h; exact s.restart_obeys hd
    case transactionEnd sdi => obtain rfl := Host.Outcome.next.inj h; exact s.transactionEnd_obeys sdi
    case hardReset => obtain rfl := Host.Outcome.next.inj h; exact s.hardReset_obeys _ _
    case selfCheckPass =>
      obtain rfl := Host.Outcome.next.inj h
      exact s.endSelfCheck_obeys _ fun e => ⟨.config, e.link.failure, (Ev.Keeps.refl _).updPool _⟩
    case selfCheckFailure =>
      obtain rfl := Host.Outcome.next.inj h
      exact s.endSelfCheck_obeys _ fun e => ⟨.halted, true, .refl _⟩
    all_goals cases hc

/-- Every step keeps the laws: a microsecond changes none of what they speak of. -/
theorem step_obeys (s t : State) (h : step s = .next t) : s.Obeys t := by
  unfold step at h
  split at h
  · obtain rfl := Host.Outcome.next.inj h
    unfold State.tick
    split
    · exact .refl s
    · exact ⟨id, id, id, id, id, id⟩
  · obtain ⟨h1, h2, h3, h4, h5, h6⟩ := exec_obeys _ _ _ h
    exact ⟨h1, h2, h3, h4, h5, h6⟩

/-! ### The settled statements -/

/-- Settles O56, from the laws that every step keeps. -/
theorem queuesStayWithinTheirRoom : Obligations.QueuesStayWithinTheirRoom := by
  intro s t h
  obtain ⟨hnotices, hreplies, hfindings, -, -, -⟩ := step_obeys s t h
  exact ⟨hnotices, hreplies, hfindings⟩

/-- Settles O57, from the laws that every step keeps. -/
theorem captureQueuesAndProgramsKeepTheirLaws : Obligations.CaptureQueuesAndProgramsKeepTheirLaws := by
  intro s t h
  obtain ⟨-, -, -, htriggers, hprograms, -⟩ := step_obeys s t h
  exact ⟨htriggers, hprograms⟩

/-- Settles O58, from the laws that every step keeps. -/
theorem settingsStayInTheirRanges : Obligations.SettingsStayInTheirRanges :=
  fun s t h => (step_obeys s t h).settings

/-- Settles O59: the reset state is that of a hard reset, released. -/
theorem resetMeetsTheLaws : Obligations.ResetMeetsTheLaws := by
  obtain ⟨ht, hp, hs⟩ := State.laws_of_resetPorts State.reset rfl rfl
    fun p => by simp [State.port, State.reset, State.hardReset]
  exact ⟨Nat.zero_le _, Nat.zero_le _, Nat.zero_le _, ht, hp,
    hs fun i => by rw [State.reset, State.hardReset, Vector.get_replicate]; exact CableKind.reset_law⟩

/-- While nRESET is asserted no request is taken (R189). -/
theorem State.carryOut_nreset (s : State) (i : Instr) (h : s.nreset = true) : s.carryOut i = s := by
  cases i
  any_goals rfl
  all_goals exact if_pos h

/-- While nRESET is asserted the operating state changes by a hard reset only (R189). -/
theorem exec_nreset_opState (c : Instr) (s t : State) (hexec : exec c s = .next t) (h : s.nreset = true)
    (hc : Instr.setsState c = true) : c = .hardReset ∨ t.link.opState = s.link.opState := by
  cases c
  case hardReset => exact .inl rfl
  case enterRun | enterConfig | restart =>
    rw [exec_request _ s rfl, State.carryOut_nreset s _ h] at hexec
    exact .inr (congrArg (fun u : State => u.link.opState) (Host.Outcome.next.inj hexec).symm)
  case transactionEnd sdi =>
    obtain rfl := Host.Outcome.next.inj hexec
    right
    unfold State.transactionEnd
    split
    · rfl
    · next x _ =>
      have hsettled := (s.settled_stays x sdi.length).opState
      unfold State.judgeFrame
      split
      · exact hsettled
      split
      · exact hsettled
      · exact hsettled
      · exact hsettled
      · exact hsettled
      · unfold State.soundFrame
        split
        · rw [State.carryOut_nreset { s with link := s.link.settle x sdi.length } _ h]
          exact hsettled
        · exact (State.badRequest_stays _ _ _ _).opState.trans hsettled
  case selfCheckPass | selfCheckFailure =>
    obtain rfl := Host.Outcome.next.inj hexec
    right
    rw [State.endSelfCheck, if_pos h]
  all_goals cases hc

/-- Settles O60: a command that sets no operating state leaves it, and of the others a hard reset alone acts while
nRESET is asserted. -/
theorem fewCommandsChangeTheOperatingState : Obligations.FewCommandsChangeTheOperatingState := by
  intro c s t hexec hchange
  cases hc : Instr.setsState c with
  | false => exact absurd (exec_stays c s t hexec hc).opState hchange
  | true =>
    cases hreset : s.nreset with
    | true => exact (exec_nreset_opState c s t hexec hreset hc).imp_right fun h => absurd h hchange
    | false =>
      cases c
      case hardReset => exact .inl rfl
      case enterRun hd => exact .inr ⟨rfl, .inl ⟨hd, .inl rfl⟩⟩
      case enterConfig hd => exact .inr ⟨rfl, .inl ⟨hd, .inr (.inl rfl)⟩⟩
      case restart hd => exact .inr ⟨rfl, .inl ⟨hd, .inr (.inr rfl)⟩⟩
      case transactionEnd sdi => exact .inr ⟨rfl, .inr (.inl ⟨sdi, rfl⟩)⟩
      case selfCheckPass => exact .inr ⟨rfl, .inr (.inr (.inl rfl))⟩
      case selfCheckFailure => exact .inr ⟨rfl, .inr (.inr (.inr rfl))⟩
      all_goals cases hc

end Sys2Proof.Machine
end

section
/-! The machine and its reset (R27, R50, R72, R186, R189): a step, the reset values, hard reset and self-check. -/

namespace Sys2Proof.Machine

set_option Elab.async false

/-- Settles O1, from the two arms of a step. -/
theorem stepRunsTheFrontCommand : Obligations.StepRunsTheFrontCommand := by
  constructor
  · intro c rest s h
    simp only [step, h]
  · intro s h
    simp only [step, h, State.tick]

/-- Settles O3: each value is that of the reset state's definition. -/
theorem resetValues : Obligations.ResetValues := by
  have hport : ∀ p, State.reset.port p = {} := fun p => Vector.get_replicate _ p
  refine ⟨rfl, rfl, rfl, rfl, rfl, rfl, rfl, rfl, rfl, rfl, rfl, rfl, rfl, rfl, rfl, rfl, rfl, rfl, rfl, rfl, rfl, rfl, rfl,
    rfl, rfl, rfl, rfl, Vector.get_replicate _, Vector.get_replicate _, fun p => ?_⟩
  rw [hport]
  exact ⟨rfl, rfl, rfl, rfl, rfl, rfl, rfl, rfl, rfl, fun q => by rw [Vector.get_replicate], rfl, rfl, rfl, rfl, rfl, rfl⟩

/-- The end of a running self-check: its action at the moment the timer ends, with no work left and no notice (R186). -/
theorem State.endSelfCheck_running (s : State) (act : Ev → Ev) (d : Nat) (hreset : s.nreset = false)
    (hinit : s.link.opState = .init) (hd : s.selfCheck = some d)
    (htodo : (act { s.begin.reach d with selfCheck := none }).todo = [])
    (hoffers : (act { s.begin.reach d with selfCheck := none }).offers = [])
    (hpool : (act { s.begin.reach d with selfCheck := none }).poolOffers = []) :
    s.endSelfCheck act = (act { s.begin.reach d with selfCheck := none }).toState := by
  have hruns : s.begin.onExpiry s.begin.selfCheck (fun e => act { e with selfCheck := none })
      = act { s.begin.reach d with selfCheck := none } := by
    have : s.begin.selfCheck = some d := hd
    rw [this, Ev.onExpiry_running]
  rw [State.endSelfCheck, hreset, if_neg Bool.false_ne_true, if_pos hinit, State.event_quiet] <;> rw [hruns]
  · exact htodo
  · exact hoffers
  · exact hpool

/-- Settles O2: the hard reset is its state's definition; release and self-check are one event each. -/
theorem resetAndSelfCheck : Obligations.ResetAndSelfCheck := by
  refine ⟨fun s => ⟨_, rfl, rfl, rfl, by simp [State.msClock, State.hardReset], rfl, rfl, rfl, rfl,
      rfl, rfl, rfl, rfl, rfl, rfl, rfl, rfl⟩, fun s h => ?_,
    fun s d h1 h2 h3 => ?_, fun s d h1 h2 h3 => ?_⟩
  · exact congrArg Host.Outcome.next (if_pos h)
  · exact congrArg Host.Outcome.next (s.endSelfCheck_running _ d h1 h2 h3 rfl rfl rfl)
  · exact congrArg Host.Outcome.next (s.endSelfCheck_running _ d h1 h2 h3 rfl rfl rfl)

/-! ### Transactions (R179 to R183) -/

/-- The bits of a status byte (R191). -/
theorem statusByte_bits (st : OpState) (a b c d : Bool) :
    (statusByte st a b c d).toNat / 64 = st.code ∧ (statusByte st a b c d).getLsbD 5 = a
      ∧ (statusByte st a b c d).getLsbD 4 = b ∧ (statusByte st a b c d).getLsbD 3 = c
      ∧ (statusByte st a b c d).getLsbD 2 = d ∧ (statusByte st a b c d).getLsbD 1 = false
      ∧ (statusByte st a b c d).getLsbD 0 = false := by
  cases st <;> revert a b c d <;> decide

/-- The frame that a transaction takes: the oldest reply, else the oldest notice, else idle fill (R183). -/
theorem Link.choose_spec (l : Link) :
    (∀ r rest, l.written = r :: rest → l.choose = (.reply, r.frame))
      ∧ (l.written = [] → ∀ n rest, l.notices = n :: rest → l.choose = (.notice, n.frame))
      ∧ (l.written = [] → l.notices = [] → l.choose = (.idle, [])) := by
  refine ⟨fun r rest h => ?_, fun h n rest h' => ?_, fun h h' => ?_⟩
  · simp only [Link.choose, h]
  · simp only [Link.choose, h, h']
  · simp only [Link.choose, h, h']

/-- Settles O4, from the frame chosen and the bits of the status byte. -/
theorem transactionStartChoosesTheFrame : Obligations.TransactionStartChoosesTheFrame := by
  intro s hreset hnone
  obtain ⟨hreply, hnotice, hidle⟩ := s.link.choose_spec
  obtain ⟨hstate, hrejected, hdropped, hlost, hmore, h1, h0⟩ := statusByte_bits s.link.opState s.link.frameRejected
    s.link.requestDropped s.link.noticesLost s.link.morePending
  refine ⟨s.link.begin, ?_, fun r rest h => Prod.mk.inj (hreply r rest h), fun h n rest h' => Prod.mk.inj (hnotice h n rest h'),
    fun h h' => Prod.mk.inj (hidle h h'), hstate.trans ?_, hrejected, hdropped, hlost, hmore, h1, h0, rfl, rfl, rfl⟩
  · refine congrArg Host.Outcome.next (if_neg ?_)
    simp [hreset, hnone]
  · cases s.link.opState <;> rfl

/-! ### The end of a transaction (R179, R180) -/

theorem exec_transactionEnd (s : State) (x : Transaction) (sdi : List Byte) (h : s.link.transaction = some x) :
    exec (.transactionEnd sdi) s
      = .next (({ s with link := s.link.settle x sdi.length } : State).judgeFrame sdi) := by
  simp only [exec, execTransactionEnd, State.transactionEnd, h]

/-- A NULL frame, or no byte at all, carries no request (R179, R180). -/
theorem State.judgeFrame_null (s : State) (sdi : List Byte) (h : ∀ n ∈ sdi.head?, n = 0) : s.judgeFrame sdi = s := by
  cases sdi with
  | nil => rfl
  | cons n rest =>
    obtain rfl : n = 0 := h n rfl
    rfl

/-- The flags after a transaction: each that a status byte clocked out whole reported is cleared (R183). -/
theorem Link.settle_eq (l : Link) (t : Transaction) (n : Nat) :
    l.settle t n =
      { l.settleFrame t n with
        transaction := none, sdo := t.sdo n
        frameRejected := l.frameRejected && !(t.clearRejected && decide (n ≠ 0))
        requestDropped := l.requestDropped && !(t.clearDropped && decide (n ≠ 0))
        noticesLost := l.noticesLost && !(t.clearLost && decide (n ≠ 0)) } := by
  have hflags : (l.settleFrame t n).frameRejected = l.frameRejected ∧ (l.settleFrame t n).requestDropped = l.requestDropped
      ∧ (l.settleFrame t n).noticesLost = l.noticesLost := by
    unfold Link.settleFrame
    split <;> exact ⟨rfl, rfl, rfl⟩
  obtain ⟨h1, h2, h3⟩ := hflags
  unfold Link.settle Link.settleFlags
  split
  · next hn => simp [hn, ← h1, ← h2, ← h3]
  · next hn => simp [hn, ← h1, ← h2, ← h3]

/-- The queues and the counter after a frame clocked out whole, or cut off (R183). -/
theorem Link.settleFrame_spec (l : Link) (t : Transaction) (n : Nat) :
    (t.chosen = .idle → l.settleFrame t n = l)
      ∧ (t.chosen ≠ .idle → n ≤ t.frame.length →
          l.settleFrame t n = { l with counters := { l.counters with resent := bump l.counters.resent } })
      ∧ (t.chosen = .reply → t.frame.length < n →
          l.settleFrame t n =
            { l with written := l.written.tail
                     counters := { l.counters with repliesSent := bump l.counters.repliesSent } })
      ∧ (t.chosen = .notice → t.frame.length < n →
          l.settleFrame t n =
            { l with notices := l.notices.tail
                     counters := { l.counters with noticesSent := bump l.counters.noticesSent } }) := by
  refine ⟨fun h => ?_, fun h hn => ?_, fun h hn => ?_, fun h hn => ?_⟩
  · simp only [Link.settleFrame, h]
  · have hcut : t.whole n = false := decide_eq_false (by omega)
    cases hc : t.chosen
    case idle => exact absurd hc h
    all_goals simp only [Link.settleFrame, hc, hcut]
  · have hwhole : t.whole n = true := decide_eq_true hn
    simp only [Link.settleFrame, h, hwhole]
  · have hwhole : t.whole n = true := decide_eq_true hn
    simp only [Link.settleFrame, h, hwhole]

/-- Settles O5: a frame without a request, after the outgoing frame has been settled. -/
theorem transactionEndSettlesTheFrame : Obligations.TransactionEndSettlesTheFrame := by
  intro s x sdi hx hnull
  obtain ⟨hidle, hcut, hreply, hnotice⟩ := s.link.settleFrame_spec x sdi.length
  refine ⟨s.link.settleFrame x sdi.length, ?_, hidle, hcut, hreply, hnotice⟩
  rw [exec_transactionEnd s x sdi hx, State.judgeFrame_null _ _ hnull, Link.settle_eq]
  simp only [ne_eq, List.length_eq_zero_iff, Transaction.sdo]

/-- The class of a frame by its length byte and the bytes received (R180). -/
theorem frameClass_cons (n : Byte) (rest : List Byte) :
    (250 < n.toNat → frameClass (n :: rest) = .tooLong)
      ∧ (1 ≤ n.toNat → n.toNat ≤ 250 → (n.toNat < 4 ∨ rest.length < n.toNat + 2) →
          frameClass (n :: rest) = .mutilated)
      ∧ (4 ≤ n.toNat → n.toNat ≤ 250 → n.toNat + 2 ≤ rest.length →
          crc16Bytes (n :: rest.take n.toNat) ≠ (rest.drop n.toNat).take 2 → frameClass (n :: rest) = .crcBad) := by
  have hbyte : byteAt (n :: rest) 0 = n := rfl
  refine ⟨fun h => ?_, fun h1 h2 h3 => ?_, fun h1 h2 h3 h4 => ?_⟩
  all_goals simp only [frameClass, hbyte]
  · rw [if_neg (by omega), if_pos h]
  · rw [if_neg (by omega), if_neg (by omega), if_pos (by rw [List.length_cons]; omega)]
  · rw [if_neg (by omega), if_neg (by omega), if_neg (by rw [List.length_cons]; omega), if_neg]
    simpa using h4

/-- A rejected frame: its counter, and the flag; the ended transaction's own note of the flag is gone with it (R180). -/
theorem exec_transactionEnd_rejected (s : State) (x : Transaction) (n : Byte) (rest : List Byte) (k : FrameClass)
    (hx : s.link.transaction = some x) (hk : frameClass (n :: rest) = k) (hbad : k ≠ .nullFrame ∧ k ≠ .sound) :
    exec (.transactionEnd (n :: rest)) s = .next { s with link := { s.link.settle x (rest.length + 1) with
      frameRejected := true
      counters := (s.link.settle x (rest.length + 1)).counters.countRejected k } } := by
  rw [exec_transactionEnd s x _ hx, State.judgeFrame, if_neg (List.cons_ne_nil n rest), hk]
  cases k
  case nullFrame => exact absurd rfl hbad.1
  case sound => exact absurd rfl hbad.2
  all_goals rfl

/-- Settles O6, from the classes of R180. -/
theorem badRequestFramesAreRejected : Obligations.BadRequestFramesAreRejected := by
  intro s x n rest hx
  obtain ⟨htooLong, hmutilated, hcrcBad⟩ := frameClass_cons n rest
  exact ⟨fun h => exec_transactionEnd_rejected s x n rest _ hx (htooLong h) (by decide),
    fun h1 h2 h3 => exec_transactionEnd_rejected s x n rest _ hx (hmutilated h1 h2 h3) (by decide),
    fun h1 h2 h3 h4 => exec_transactionEnd_rejected s x n rest _ hx (hcrcBad h1 h2 h3 h4) (by decide)⟩

end Sys2Proof.Machine
end

section
/-! Requests and what they reply (R26, R49, R71, R159, R177 to R181, R186): frames carried out, requests dropped,
readings. -/

namespace Sys2Proof.Machine

set_option Elab.async false

/-! ### Taking and dropping (R181) -/

/-- A request taken by a hub that lets it in. -/
theorem State.takeRequest_taken (s : State) (code : Byte) (act : Ev → Ev) (hreset : s.nreset = false)
    (hm : s.mayTake code = true) : s.takeRequest code act = s.event fun e => act e.countTaken := by
  rw [State.takeRequest, hreset, if_neg Bool.false_ne_true, if_pos hm]

/-- A request without work and notices left is its state t with the answer replied. -/
theorem State.takeRequest_quiet (s t : State) {code : Byte} {h : ReqHeader} {body : Ev → Ev × Answer} {e : Ev} {st : Status}
    {pl : List Byte} (hreset : s.nreset = false) (hm : s.mayTake code = true)
    (hb : body s.begin.countTaken = (e, { status := st, payload := pl }))
    (htodo : e.todo = []) (hoffers : e.offers = []) (hpool : e.poolOffers = []) (ht : e.toState = t.counted) :
    s.hubRequest code h body = t.replied code h st pl := by
  rw [State.hubRequest, s.takeRequest_taken _ _ hreset hm, State.event_quiet] <;> rw [hb]
  · exact congrArg (fun u : State => u.wrote (replyOf code h { status := st, payload := pl })) ht
  · exact htodo
  · exact hoffers
  · exact hpool

/-- The same of a listening hub. -/
theorem State.hubRequest_quiet (s t : State) {code : Byte} {h : ReqHeader} {body : Ev → Ev × Answer} {e : Ev} {st : Status}
    {pl : List Byte} (hs : s.listens) (hb : body s.begin.countTaken = (e, { status := st, payload := pl }))
    (htodo : e.todo = []) (hoffers : e.offers = [])
    (hpool : e.poolOffers = []) (ht : e.toState = t.counted) :
    s.hubRequest code h body = t.replied code h st pl :=
  s.takeRequest_quiet t hs.1.1 (hs.mayTake code) hb htodo hoffers hpool ht

/-- The same of a request that names a port. -/
theorem State.portRequest_quiet (s t : State) {code : Byte} {h : ReqHeader} {body : PortId → Ev → Ev × Answer} {p : PortId}
    {e : Ev} {st : Status} {pl : List Byte} (hs : s.listens) (hp : portOf h.port = some p)
    (hb : body p s.begin.countTaken = (e, { status := st, payload := pl }))
    (htodo : e.todo = []) (hoffers : e.offers = []) (hpool : e.poolOffers = []) (ht : e.toState = t.counted) :
    s.portRequest code h body = t.replied code h st pl :=
  s.hubRequest_quiet t hs (by simp only [hp, hb]) htodo hoffers hpool ht

/-! ### SOUND frames (R179, R181, R191) -/

/-- A frame that names a request names a request of the host (R194). -/
theorem requestNamed_isRequest {code : Byte} {h : ReqHeader} {b : List Byte} {i : Instr}
    (hi : requestNamed code h b = some i) : isRequest i = true := by
  have hall : (requestNamed code h b).all isRequest = true := by
    simp only [requestNamed, apply_ite (Option.all isRequest), Option.all_some, Option.all_none, isRequest, ite_self]
  rw [hi] at hall
  exact hall

theorem readRequest_isRequest {sdi : List Byte} {i : Instr} (h : readRequest sdi = some i) : isRequest i = true := by
  unfold readRequest at h
  split at h
  · exact requestNamed_isRequest h
  · cases h

theorem State.judgeFrame_sound (s : State) (sdi : List Byte) (h : frameClass sdi = .sound) :
    s.judgeFrame sdi = s.soundFrame sdi := by
  have hne : sdi ≠ [] := by
    rintro rfl
    cases h
  rw [State.judgeFrame, if_neg hne, h]

/-- A SOUND frame holds as many bytes as its length byte and its CRC ask for (R180). -/
theorem frameClass_sound {sdi : List Byte} (h : frameClass sdi = .sound) :
    4 ≤ (byteAt sdi 0).toNat ∧ (byteAt sdi 0).toNat + 3 ≤ sdi.length := by
  unfold frameClass at h
  dsimp only at h
  split at h
  · cases h
  split at h
  · cases h
  split at h
  · cases h
  · omega

theorem framePayload_length {sdi : List Byte} (h : frameClass sdi = .sound) :
    (framePayload sdi).length = (byteAt sdi 0).toNat - 4 := by
  have := frameClass_sound h
  simp only [framePayload, List.length_take, List.length_drop]
  omega

theorem framePayload_getElem? {sdi : List Byte} {k : Nat} (h : k < (byteAt sdi 0).toNat - 4) :
    (framePayload sdi)[k]? = sdi[5 + k]? := by
  rw [framePayload, List.getElem?_take_of_lt h, List.getElem?_drop]

theorem byteAt_framePayload {sdi : List Byte} {k : Nat} (h : k < (byteAt sdi 0).toNat - 4) :
    byteAt (framePayload sdi) k = byteAt sdi (5 + k) := by
  simp only [byteAt, List.getD_eq_getElem?_getD, framePayload_getElem? h]

@[simp] theorem be1_toNat (b : Byte) : be1 b.toNat = [b] := by simp [be1]

/-- The two bytes of a half laid out are its two bytes (R190). -/
theorem be2_append (a b : Byte) : be2 (a ++ b).toNat = [a, b] := by
  have h : (a ++ b).toNat = a.toNat * 256 + b.toNat := by
    rw [BitVec.toNat_append, Nat.shiftLeft_eq, Nat.mul_comm, ← Nat.two_pow_add_eq_or_of_lt b.isLt, Nat.mul_comm]
  have := a.isLt
  have := b.isLt
  simp only [be2, h, List.cons.injEq, and_true]
  constructor <;> apply BitVec.eq_of_toNat_eq <;> rw [BitVec.toNat_ofNat] <;> omega

/-- The reply to a CAM_ACCESS of another length: its access kind and parameter, where the payload holds them (R191). -/
theorem malformedAccess_framePayload {sdi : List Byte} (h : frameClass sdi = .sound) :
    malformedAccess (framePayload sdi)
      = (if (byteAt sdi 0).toNat = 4 then [0xFF] else [byteAt sdi 5])
        ++ (if (byteAt sdi 0).toNat < 7 then [0xFF, 0xFF] else [byteAt sdi 6, byteAt sdi 7]) ++ [0, 0, 0, 0, 0, 0] := by
  have hlen := framePayload_length h
  obtain ⟨hlow, hhigh⟩ := frameClass_sound h
  have hkind : opt1 ((framePayload sdi)[0]?.map BitVec.toNat)
      = if (byteAt sdi 0).toNat = 4 then [0xFF] else [byteAt sdi 5] := by
    split
    · rw [List.getElem?_eq_none (by omega)]
      rfl
    · have hbyte : (framePayload sdi)[0]? = some (byteAt sdi 5) := by
        rw [framePayload_getElem? (by omega), byteAt, List.getD_eq_getElem?_getD, List.getElem?_eq_getElem (by omega)]
        rfl
      rw [hbyte]
      exact be1_toNat _
  have hparam : opt2 (if 3 ≤ (framePayload sdi).length then some (halfAt (framePayload sdi) 1).toNat else none)
      = if (byteAt sdi 0).toNat < 7 then [0xFF, 0xFF] else [byteAt sdi 6, byteAt sdi 7] := by
    split
    · rw [if_neg (by omega)]
      refine (be2_append _ _).trans ?_
      rw [byteAt_framePayload (by omega), byteAt_framePayload (by omega)]
    · rw [if_pos (by omega)]
      rfl
  rw [malformedAccess, hkind, hparam]

/-- Settles O7: a known request goes to its rule, any other frame is answered BAD_REQUEST. -/
theorem soundFramesAreCarriedOut : Obligations.SoundFramesAreCarriedOut := by
  intro s x sdi hx hsound
  rw [exec_transactionEnd s x sdi hx, State.judgeFrame_sound _ _ hsound]
  refine ⟨fun i hi => ?_, fun hi hs => congrArg Host.Outcome.next ?_⟩
  · rw [State.soundFrame, hi, exec_request _ _ (readRequest_isRequest hi)]
  · have hpayload : badRequestPayload (byteAt sdi 1) (framePayload sdi) =
        if byteAt sdi 1 ≠ 0x60 then [] else
          (if (byteAt sdi 0).toNat = 4 then [0xFF] else [byteAt sdi 5])
            ++ (if (byteAt sdi 0).toNat < 7 then [0xFF, 0xFF] else [byteAt sdi 6, byteAt sdi 7])
            ++ [0, 0, 0, 0, 0, 0] := by
      simp only [badRequestPayload, malformedAccess_framePayload hsound, camAccessCode, ite_not]
    rw [State.soundFrame, hi, ← hpayload]
    dsimp only
    rw [State.badRequest, State.takeRequest_listens _ _ _ hs, State.event_quiet] <;> rfl

/-! ### Dropped requests (R181) -/

/-- No request but IDENTIFY bears IDENTIFY's code (R194). -/
theorem requestBytes_code {i : Instr} {x : Byte × ReqHeader × List Byte} (hx : requestBytes i = some x)
    (hi : ∀ h, i ≠ .identify h) : x.1 ≠ identifyCode := by
  cases i <;> cases hx
  case identify h => exact absurd rfl (hi h)
  all_goals exact of_decide_eq_true rfl

/-- A request whose code the hub does not take is dropped. -/
theorem State.carryOut_dropped (s : State) {i : Instr} {x : Byte × ReqHeader × List Byte} (hx : requestBytes i = some x)
    (hreset : s.nreset = false) (hm : s.mayTake x.1 = false) : s.carryOut i = s.dropRequest := by
  have hrun : ¬ s.nreset = true := by simp [hreset]
  have hdrop : ¬ s.mayTake x.1 = true := by simp [hm]
  cases i <;> cases hx
  all_goals exact (if_neg hrun).trans (if_neg hdrop)

/-- Settles O9: no request but IDENTIFY is taken outside CONFIG and RUN, and none without a free reply entry. -/
theorem untakenRequestsAreDropped : Obligations.UntakenRequestsAreDropped := by
  intro i s hi hreset hwhy
  rw [exec_request i s hi]
  obtain ⟨x, hx⟩ : ∃ x, requestBytes i = some x := by
    cases i
    any_goals exact ⟨_, rfl⟩
    all_goals cases hi
  refine congrArg Host.Outcome.next (s.carryOut_dropped hx hreset ?_)
  obtain h | ⟨h, hi⟩ | h := hwhy
  · simp [State.mayTake, h]
  · simp [State.mayTake, h, requestBytes_code hx hi]
  · have : s.freeReplies = 0 := Nat.sub_eq_zero_of_le (Nat.le_of_not_lt h)
    simp [State.mayTake, this]

end Sys2Proof.Machine
end

section
/-! What the reading requests reply (R26, R49, R71, R159, R177, R178, R186, R193), and the requests that clear records. -/

namespace Sys2Proof.Machine

set_option Elab.async false

/-! ### Lengths of the layouts (R190, R193) -/

@[simp] theorem be1_length (n : Nat) : (be1 n).length = 1 := rfl

@[simp] theorem be2_length (n : Nat) : (be2 n).length = 2 := rfl

@[simp] theorem be4_length (n : Nat) : (be4 n).length = 4 := rfl

@[simp] theorem flagByte_length (b : Bool) : (flagByte b).length = 1 := rfl

@[simp] theorem opt1_length (o : Option Nat) : (opt1 o).length = 1 := by cases o <;> rfl

@[simp] theorem opt2_length (o : Option Nat) : (opt2 o).length = 2 := by cases o <;> rfl

@[simp] theorem opt4_length (o : Option Nat) : (opt4 o).length = 4 := by cases o <;> rfl

@[simp] theorem positionBytes_length (o : Option Positions) : (positionBytes o).length = 6 := by
  cases o <;> simp [positionBytes]

/-- A list of members of one width. -/
theorem listField_length {α : Type} (enc : α → List Byte) (n : Nat) (l : List α) (h : ∀ x, (enc x).length = n) :
    (listField enc l).length = 1 + n * l.length := by
  simp [listField, List.length_flatMap, h, Nat.mul_comm]

theorem Finding.bytes_length (f : Finding) : f.bytes.length = 20 := by simp [Finding.bytes]

@[simp] theorem Port.feedBytes_length (x : Port) (now : Nat) : (x.feedBytes now).length = 15 := by simp [Port.feedBytes]

@[simp] theorem Tether.bytes_length (t : Tether) : t.bytes.length = 5 := by simp [Tether.bytes]

@[simp] theorem Move.bytes_length (m : Option Move) : (Move.bytes m).length = 5 := by cases m <;> simp [Move.bytes]

@[simp] theorem Port.moveLeft_length (x : Port) (now : Nat) : (x.moveLeft now).length = 2 := by
  unfold Port.moveLeft
  split
  · rfl
  · split <;> rfl

@[simp] theorem Port.lensBytes_length (x : Port) (now : Nat) : (x.lensBytes now).length = 25 := by
  simp [Port.lensBytes]

@[simp] theorem exposureBytes_length (now : Nat) (r : Option Exposure) : (exposureBytes now r).length = 9 := by
  cases r <;> simp [exposureBytes]

@[simp] theorem PendingTrigger.bytes_length (now : Nat) (t : PendingTrigger) : (t.bytes now).length = 10 := by
  simp [PendingTrigger.bytes]

@[simp] theorem Capture.bytes_length (c : Capture) (now : Nat) : (c.bytes now).length = 13 + 10 * c.queue.length := by
  simp [Capture.bytes, listField_length _ 10 _ (PendingTrigger.bytes_length now)]
  omega

@[simp] theorem frameBytes_length (r : FrameRecord) : (frameBytes r).length = 13 := by cases r <;> simp [frameBytes]

@[simp] theorem Port.ingressBytes_length (x : Port) : x.ingressBytes.length = 24 := by simp [Port.ingressBytes]

@[simp] theorem RelayEntry.bytes_length (egress : Word) (r : RelayEntry) : (r.bytes egress).length = 12 := by
  unfold RelayEntry.bytes
  cases r.stage <;> simp

/-- The length of a port status record (R193). -/
theorem State.portBytes_length (s : State) (p : PortId) :
    (s.portBytes p).length
      = 83 + 10 * (s.port p).capture.queue.length + 12 * (s.relay.filter fun r => decide (r.port = p)).length := by
  simp [State.portBytes, listField_length _ 12 _ (RelayEntry.bytes_length _)]
  omega

/-! ### Readings (R26, R71, R159, R177, R178, R186, R193) -/

/-- Settles O10: each reading request replies with what its rule names and leaves no work. -/
theorem readingRequestsOnlyReply : Obligations.ReadingRequestsOnlyReply := by
  refine ⟨fun h s hreset hinit hroom => ?_, fun h s hs => ⟨?_, ?_, fun offset count => ?_, fun p hp => ⟨?_, ?_, ?_⟩⟩,
    State.portBytes_length, Finding.bytes_length, rfl⟩
  · have hm : s.mayTake 0x01 = true := by
      have : 0 < s.freeReplies := Nat.sub_pos_of_lt hroom
      simp only [State.mayTake, this]
      cases hst : s.link.opState
      case init => exact absurd hst hinit
      all_goals rfl
    have hbytes : s.begin.countTaken.identifyBytes =
        [0x5C#8, 0x08#8, Config.hardwareStep, 8#8,
          match s.link.opState with | .init => 0#8 | .config => 1#8 | .run => 2#8 | .halted => 3#8,
          if s.link.failure then 1#8 else 0#8] ++ be4 s.usClock.toNat ++ be4 s.msClock.toNat := by
      change State.identifyBytes s = _
      unfold State.identifyBytes
      cases s.link.opState <;> cases s.link.failure <;> rfl
    exact (congrArg Host.Outcome.next (s.takeRequest_quiet s hreset hm rfl rfl rfl rfl rfl)).trans
      (congrArg (fun b => Host.Outcome.next (s.replied 0x01 h .done b)) hbytes)
  · exact congrArg Host.Outcome.next (s.hubRequest_quiet s hs rfl rfl rfl rfl rfl)
  · exact congrArg Host.Outcome.next (s.hubRequest_quiet s hs rfl rfl rfl rfl rfl)
  · have hn : max 1 (min 8 count.toNat) = clampTo 1 8 count.toNat := by
      unfold clampTo
      split
      · omega
      · split <;> omega
    have hstatus : (if count.toNat = 0 ∨ 8 < count.toNat then Status.adjusted else .done)
        = adjustedIf (takeField true 1 8 count.toNat 1).2 := by
      unfold adjustedIf takeField clampTo
      by_cases h0 : count.toNat = 0
      · simp [h0]
      by_cases h8 : 8 < count.toNat
      · have : ¬ count.toNat < 1 := by omega
        have : ¬ 8 = count.toNat := by omega
        simp [*]
      · have : ¬ count.toNat < 1 := by omega
        simp [*]
    rw [hn, hstatus, List.append_assoc]
    exact congrArg Host.Outcome.next (s.hubRequest_quiet s hs rfl rfl rfl rfl rfl)
  · exact congrArg Host.Outcome.next (s.portRequest_quiet s hs hp rfl rfl rfl rfl rfl)
  · exact congrArg Host.Outcome.next (s.portRequest_quiet s hs hp rfl rfl rfl rfl rfl)
  · exact congrArg Host.Outcome.next (s.portRequest_quiet s hs hp rfl rfl rfl rfl rfl)

/-! ### Clearing (R26, R177) -/

/-- Cleared counters are 0 (R26). -/
theorem Port.counterValues_clearCounters (x : Port) : ∀ v ∈ x.clearCounters.counterValues, v = 0 := by
  have h : x.clearCounters.counterValues = List.replicate 87 0 := rfl
  rw [h]
  exact fun v hv => List.eq_of_mem_replicate hv

/-- READ_COUNTERS with its clear option (R26). -/
theorem Ev.readCounters_clear (e : Ev) (p : PortId) {clear : Byte} (hc : clear ≠ 0) :
    Ev.readCounters clear p e = (e.updPort p Port.clearCounters, { status := .done, payload := (e.port p).counterBytes }) := by
  rw [Ev.readCounters, if_neg hc]

/-- Settles O28: the reply of READ_COUNTERS is made before its counters are cleared. -/
theorem clearingRequestsEmptyTheirRecords : Obligations.ClearingRequestsEmptyTheirRecords := by
  refine fun h s hs => ⟨congrArg Host.Outcome.next (s.hubRequest_quiet _ hs rfl rfl rfl rfl rfl), fun p clear hp hc => ?_⟩
  exact ⟨(s.port p).clearCounters,
    congrArg Host.Outcome.next (s.portRequest_quiet _ hs hp (Ev.readCounters_clear _ p hc) rfl rfl rfl rfl),
    Port.counterValues_clearCounters _, rfl⟩

end Sys2Proof.Machine
end

section
/-! Structural errors (R181), the notice mask (R184), and the requests that write settings (R48, R52, R77, R83, R94,
R153, R167). -/

namespace Sys2Proof.Machine

set_option Elab.async false

/-! ### Operands that name no member (R190, R194) -/

theorem portOf_eq_none {b : Byte} (h : 8 ≤ b.toNat) : portOf b = none := dif_neg (by omega)

theorem cableKindOf_eq_none {b : Byte} (h : 8 ≤ b.toNat) : cableKindOf b = none := dif_neg (by omega)

theorem cableKindOf_eq_some {b : Byte} (i : Fin 8) (h : b.toNat = i.val) : cableKindOf b = some i := by
  unfold cableKindOf
  rw [dif_pos (by omega)]
  exact congrArg some (Fin.ext h)

theorem presetOf_eq_none {b : Byte} (h : 16 ≤ b.toNat) : presetOf b = none := dif_neg (by omega)

theorem presetOf_eq_some {b : Byte} (i : Fin 16) (h : b.toNat = i.val) : presetOf b = some i := by
  unfold presetOf
  rw [dif_pos (by omega)]
  exact congrArg some (Fin.ext h)

/-- A code beyond its list names no member. -/
theorem memberOf_eq_none {α : Type} {l : List α} {b : Byte} (h : l.length ≤ b.toNat) : memberOf l b = none :=
  List.getElem?_eq_none h

theorem damagedPolicyOf_eq_none {b : Byte} (h : 2 ≤ b.toNat) : damagedPolicyOf b = none := memberOf_eq_none h

theorem onOffOf_eq_none {b : Byte} (h : 2 ≤ b.toNat) : onOffOf b = none := memberOf_eq_none h

theorem outputGroupOf_eq_none {b : Byte} (h : 2 ≤ b.toNat) : outputGroupOf b = none := memberOf_eq_none h

theorem edgeOf_eq_none {b : Byte} (h : 4 ≤ b.toNat) : edgeOf b = none := memberOf_eq_none h

theorem faultKindOf_eq_none {b : Byte} (h : 14 ≤ b.toNat) : faultKindOf b = none := memberOf_eq_none h

theorem reactionOf_eq_none {b : Byte} (h : 5 ≤ b.toNat) : reactionOf b = none := memberOf_eq_none h

theorem accessKindOf_eq_none {b : Byte} (h : 2 ≤ b.toNat) : accessKindOf b = none := memberOf_eq_none h

theorem sourceOf_eq_none {b : Byte} (h : 5 ≤ b.toNat) : sourceOf b = none := memberOf_eq_none h

/-- The source bytes below 4 name the pins (R73). -/
theorem sourceOf_pin {b : Byte} (i : Fin 4) (h : b.toNat = i.val) : sourceOf b = some (sourceOfPin i) := by
  have hmember : ∀ i : Fin 4, allSources[i.val]? = some (sourceOfPin i) := by decide
  rw [sourceOf, memberOf, h, hmember]

@[simp] theorem sourceOfPin_pin (i : Fin 4) : (sourceOfPin i).pin? = some i := by
  revert i
  decide

@[simp] theorem sourceOfPin_index (i : Fin 4) : ((sourceOfPin i).index).val = i.val := by
  revert i
  decide

/-- A named field that holds no member is a structural error. -/
theorem badMember_none {α : Type} {isNamed : Bool} {o : Option α} (h : isNamed = true) (ho : o = none) :
    badMember isNamed o = true := by
  simp [badMember, h, ho]

/-! ### BAD_ARGUMENT (R181, R191) -/

/-- A CAM_ACCESS whose structure is wrong (R136, R191). -/
theorem State.camAccess_bad (s : State) (h : ReqHeader) (f : CamAccessFields) (hs : s.listens)
    (hbad : accessTarget h.port f = none) :
    s.camAccess h f = s.replied 0x60 h .badArgument ([f.kind] ++ be2 f.param.toNat ++ [0, 0, 0, 0, 0, 0]) := by
  have hbody : ∀ e : Ev, e.camAccess h f = e.writeReply (accessReply h f .badArgument) := fun e => by
    simp only [Ev.camAccess, hbad]
  rw [State.camAccess, State.takeRequest_listens _ _ _ hs, State.event_quiet] <;> rw [hbody]
  all_goals rfl

theorem accessTarget_badPort {port : Byte} (f : CamAccessFields) (h : 8 ≤ port.toNat) : accessTarget port f = none := by
  simp only [accessTarget, portOf_eq_none h]

theorem accessTarget_badField (port : Byte) {f : CamAccessFields} (h : 2 ≤ f.kind.toNat ∨ 4095 < f.param.toNat) :
    accessTarget port f = none := by
  unfold accessTarget
  split
  · next k _ hk =>
    refine if_neg fun hparam => ?_
    obtain h | h := h
    · rw [accessKindOf_eq_none h] at hk
      cases hk
    · omega
  · rfl
  · rfl

/-- A request that names a port and is refused BAD_ARGUMENT whatever its port (R181). -/
theorem State.portRequest_badArgument (s : State) (code : Byte) (h : ReqHeader) (body : PortId → Ev → Ev × Answer)
    (hs : s.listens) (hbody : ∀ p, body p s.begin.countTaken = answerOnly .badArgument s.begin.countTaken) :
    s.portRequest code h body = s.replied code h .badArgument [] := by
  cases hp : portOf h.port with
  | none => exact s.portRequest_badPort code h body hs hp
  | some p => exact s.portRequest_quiet s hs hp (hbody p) rfl rfl rfl rfl

/-- A field of SET_PORT that names no member (R48). -/
theorem setPortBad_of_field {f : SetPortFields}
    (h : (named f.mask 1 = true ∧ 8 ≤ f.cableKind.toNat) ∨ (named f.mask 6 = true ∧ 2 ≤ f.damagedPolicy.toNat)
      ∨ (named f.mask 7 = true ∧ 2 ≤ f.autoHome.toNat) ∨ (named f.mask 12 = true ∧ 2 ≤ f.outputGroup.toNat)) :
    setPortBad f = true := by
  unfold setPortBad
  obtain ⟨hn, hv⟩ | ⟨hn, hv⟩ | ⟨hn, hv⟩ | ⟨hn, hv⟩ := h
  · simp [badMember_none hn (cableKindOf_eq_none hv)]
  · simp [badMember_none hn (damagedPolicyOf_eq_none hv)]
  · simp [badMember_none hn (onOffOf_eq_none hv)]
  · simp [badMember_none hn (outputGroupOf_eq_none hv)]

theorem Ev.setReaction_bad (e : Ev) (p : PortId) {kind reaction : Byte} (h : 14 ≤ kind.toNat ∨ 5 ≤ reaction.toNat) :
    Ev.setReaction kind reaction p e = answerOnly .badArgument e := by
  unfold Ev.setReaction
  split
  · next k r hk hr =>
    obtain h | h := h
    · rw [faultKindOf_eq_none h] at hk
      cases hk
    · rw [reactionOf_eq_none h] at hr
      cases hr
  · rfl
  · rfl

/-- A SET_SOURCE whose source, or a field of it, names no member (R77). -/
theorem Ev.setSource_bad (e : Ev) {f : SetSourceFields}
    (h : 5 ≤ f.source.toNat ∨ (named f.mask 0 = true ∧ 4 ≤ f.edge.toNat)
      ∨ (f.source.toNat = 4 ∧ (named f.mask 0 = true ∨ named f.mask 1 = true))
      ∨ (f.source.toNat < 4 ∧ named f.mask 2 = true)) :
    (match sourceOf f.source with | none => answerOnly .badArgument e | some src => e.setSource f src)
      = answerOnly .badArgument e := by
  cases hsrc : sourceOf f.source with
  | none => rfl
  | some src =>
    refine if_pos ?_
    obtain h | ⟨hn, hv⟩ | ⟨h4, hn⟩ | ⟨h4, hn⟩ := h
    · rw [sourceOf_eq_none h] at hsrc
      cases hsrc
    · simp [setSourceBad, badMember_none hn (edgeOf_eq_none hv)]
    · have hperiod : sourceOf f.source = some .period := by rw [sourceOf, memberOf, h4]; rfl
      obtain rfl := Option.some.inj (hsrc.symm.trans hperiod)
      obtain hn | hn := hn <;> simp [setSourceBad, Source.pin?, hn]
    · obtain rfl := Option.some.inj (hsrc.symm.trans (sourceOf_pin ⟨f.source.toNat, h4⟩ rfl))
      simp [setSourceBad, hn]

/-- Settles O11: an operand that names no member is found before anything is written. -/
theorem structuralErrorsAreBadArgument : Obligations.StructuralErrorsAreBadArgument := by
  refine ⟨fun h s hs hport => ?_, fun h s hs => ?_⟩
  · have hp := portOf_eq_none hport
    refine ⟨fun c code hc => ?_, fun b => ?_, fun f => ?_, fun k r => ?_, fun b => ?_, fun m l => ?_, fun f => ?_,
      fun b => ?_, fun f => congrArg Host.Outcome.next (s.camAccess_bad h f hs (accessTarget_badPort f hport))⟩
    · simp only [List.mem_cons, Prod.mk.injEq, List.not_mem_nil, or_false] at hc
      rcases hc with ⟨rfl, rfl⟩ | ⟨rfl, rfl⟩ | ⟨rfl, rfl⟩ | ⟨rfl, rfl⟩ | ⟨rfl, rfl⟩ | ⟨rfl, rfl⟩ | ⟨rfl, rfl⟩
      all_goals exact congrArg Host.Outcome.next (s.portRequest_badPort _ _ _ hs hp)
    all_goals exact congrArg Host.Outcome.next (s.portRequest_badPort _ _ _ hs hp)
  · refine ⟨fun f hf => congrArg Host.Outcome.next (s.hubRequest_quiet (e := s.begin.countTaken) s hs ?_ rfl rfl rfl rfl),
      fun f hf => ?_, fun kind reaction hk => ?_,
      fun f hf => ?_, fun preset hq => ?_, fun f hf =>
        congrArg Host.Outcome.next (s.camAccess_bad h f hs (accessTarget_badField _ hf))⟩
    · simp only [cableKindOf_eq_none hf]
      rfl
    · refine congrArg Host.Outcome.next (s.portRequest_badArgument _ _ _ hs fun p => ?_)
      rw [Ev.setPort, if_pos (setPortBad_of_field hf)]
    · exact congrArg Host.Outcome.next (s.portRequest_badArgument _ _ _ hs fun p => Ev.setReaction_bad _ p hk)
    · exact congrArg Host.Outcome.next (s.hubRequest_quiet s hs (Ev.setSource_bad _ hf) rfl rfl rfl rfl)
    · refine congrArg Host.Outcome.next (s.portRequest_badArgument _ _ _ hs fun p => ?_)
      simp only [Ev.lensGoto, presetOf_eq_none hq]

/-! ### Notices (R184) -/

/-- Settles O12, from the three outcomes of an offered notice. -/
theorem noticesPassTheMaskAndTheQueue : Obligations.NoticesPassTheMaskAndTheQueue := by
  refine ⟨fun h mask s hs => congrArg Host.Outcome.next (s.hubRequest_quiet _ hs rfl rfl rfl rfl rfl),
    fun l n => ⟨fun h => ?_, fun h hfull => ?_, fun h hroom => ?_⟩⟩
  · rw [Link.join, h, if_neg Bool.false_ne_true]
  · exact (if_pos h).trans (if_neg (Nat.not_lt_of_le hfull))
  · exact (if_pos h).trans (if_pos hroom)

/-! ### Pool settings and cable kinds (R52, R153) -/

/-- A field's value, and when it counts as adjusted. -/
theorem takeField_fst (b : Bool) (lo hi new old : Nat) :
    (takeField b lo hi new old).1 = if b then clampTo lo hi new else old := by cases b <;> rfl

theorem takeField_snd (b : Bool) (lo hi new old : Nat) :
    (takeField b lo hi new old).2 = true ↔ b = true ∧ clampTo lo hi new ≠ new := by cases b <;> simp [takeField]

theorem takeField_adjusted (b : Bool) (lo hi new old : Nat) :
    (takeField b lo hi new old).2 = true ↔ b = true ∧ (if b then clampTo lo hi new else old) ≠ new := by
  cases b <;> simp [takeField]

/-- A value is clamped where it lies outside its range. -/
theorem clampTo_ne (lo hi v : Nat) : clampTo lo hi v ≠ v ↔ ¬ (lo ≤ v ∧ v ≤ hi) := by
  unfold clampTo
  split
  · omega
  · split <;> omega

theorem adjustedIf_eq_adjusted (b : Bool) : adjustedIf b = .adjusted ↔ b = true := by cases b <;> simp [adjustedIf]

theorem adjustedIf_cases (b : Bool) : adjustedIf b = .done ∨ adjustedIf b = .adjusted := by cases b <;> simp [adjustedIf]

/-- The thresholds held apart (R52). -/
theorem PoolSettings.separate_eq (q : PoolSettings) :
    q.separate = ({ q with kill := min q.kill (q.derate - 500) }, decide (q.derate - 500 < q.kill)) := by
  unfold PoolSettings.separate
  split
  · next h => simp [h, Nat.min_eq_right (Nat.le_of_lt h)]
  · next h => simp [h, Nat.min_eq_left (Nat.le_of_not_lt h)]

/-- A boolean test of all the ports of a state (R52). -/
theorem State.any_port (s : State) (f : Port → Bool) : s.ports.any f = true ↔ ∃ p, f (s.port p) = true := by
  rw [Vector.any_eq_true]
  exact ⟨fun ⟨i, hi, h⟩ => ⟨⟨i, hi⟩, h⟩, fun ⟨p, h⟩ => ⟨p.val, p.isLt, h⟩⟩

/-- Settles O13: the five fields as written, held apart, and the V_min values capped. -/
theorem setPoolWritesThePoolSettings : Obligations.SetPoolWritesThePoolSettings := by
  intro h f s hs hconfig
  have hseparate := (s.pool.settings.write f).1.separate_eq
  refine ⟨(s.pool.settings.write f).1.separate.1, (s.begin.countTaken.setPool f).2.status,
    congrArg Host.Outcome.next ?_, ?_, ?_, ?_, ?_, ?_, adjustedIf_cases _, ?_⟩
  · have hrun : ¬ s.begin.countTaken.link.opState = .run := by
      change ¬ s.link.opState = .run
      simp [hconfig]
    have hwrite : s.begin.countTaken.setPool f =
        ({ s.begin.countTaken.updPool fun q => { q with settings := (s.pool.settings.write f).1.separate.1 } with
            ports := if named f.mask 1 then
                s.ports.map fun y => y.capVMin (s.pool.settings.write f).1.separate.1.vPool
              else s.ports },
          { status := (s.begin.countTaken.setPool f).2.status }) := by
      unfold Ev.setPool
      split <;> rfl
    exact s.hubRequest_quiet _ hs ((if_neg hrun).trans hwrite) rfl rfl rfl rfl
  case refine_7 =>
    have hcapped : (s.ports.any fun y => decide ((s.pool.settings.write f).1.separate.1.vPool < y.feed.settings.vMin))
        = true ↔ ∃ p, (s.pool.settings.write f).1.separate.1.vPool < (s.port p).feed.settings.vMin := by
      rw [s.any_port]
      simp only [decide_eq_true_eq]
    refine (adjustedIf_eq_adjusted _).trans ?_
    change ((s.pool.settings.write f).2 || (s.pool.settings.write f).1.separate.2 || (named f.mask 1
      && s.ports.any fun y => decide ((s.pool.settings.write f).1.separate.1.vPool < y.feed.settings.vMin))) = true ↔ _
    rw [Bool.or_eq_true, Bool.or_eq_true, Bool.and_eq_true, hcapped, hseparate]
    simp only [PoolSettings.write, Bool.or_eq_true, takeField_snd (named f.mask 3), takeField_adjusted, takeField_fst,
      decide_eq_true_eq]
    have horder : ∀ b v d k t u c : Prop, (((((b ∨ v) ∨ d) ∨ k) ∨ t) ∨ u) ∨ c ↔ b ∨ v ∨ d ∨ t ∨ k ∨ u ∨ c := by tauto
    exact horder _ _ _ _ _ _ _
  all_goals rw [hseparate]
  all_goals simp only [PoolSettings.write, takeField_fst]

/-- The named fields of a cable kind, each clamped (R153). -/
theorem CableKind.write_eq (k : CableKind) (f : SetCableKindFields) :
    k.write f =
      ({ velocity := if named f.mask 0 then clampTo 500 990 f.velocity.toNat else k.velocity
         loop := if named f.mask 1 then clampTo 1 2000 f.loop.toNat else k.loop
         connector := if named f.mask 2 then clampTo 0 5000 f.connector.toNat else k.connector },
        decide ((named f.mask 0 = true ∧ ¬ (500 ≤ f.velocity.toNat ∧ f.velocity.toNat ≤ 990))
          ∨ (named f.mask 1 = true ∧ ¬ (1 ≤ f.loop.toNat ∧ f.loop.toNat ≤ 2000))
          ∨ (named f.mask 2 = true ∧ 5000 < f.connector.toNat))) := by
  refine Prod.ext ?_ (Bool.eq_iff_iff.mpr ?_)
  · simp only [CableKind.write, takeField_fst]
  · simp only [CableKind.write, Bool.or_eq_true, takeField_snd, clampTo_ne, decide_eq_true_eq, Nat.zero_le, true_and,
      Nat.not_le, or_assoc]

/-- The status of a request whose fields may be clamped, as its rule words it (R181). -/
theorem adjustedIf_decide (P : Prop) [Decidable P] : adjustedIf (decide P) = if P then .adjusted else .done := by
  simp [adjustedIf]

/-- Settles O14: one kind is written with the clamps of R153. -/
theorem setCableKindWritesOneKind : Obligations.SetCableKindWritesOneKind := by
  intro h f s i hs hconfig hi
  have hrun : ¬ s.begin.countTaken.link.opState = .run := by
    change ¬ s.link.opState = .run
    simp [hconfig]
  have hbody : (match cableKindOf f.index with
      | none => answerOnly .badArgument s.begin.countTaken
      | some i => s.begin.countTaken.setCableKind i f) =
      ({ s.begin.countTaken with kinds := s.kinds.set i.val ((s.kinds.get i).write f).1 i.isLt },
        { status := adjustedIf ((s.kinds.get i).write f).2 }) := by
    rw [cableKindOf_eq_some i hi]
    exact if_neg hrun
  rw [CableKind.write_eq, adjustedIf_decide] at hbody
  exact congrArg Host.Outcome.next (s.hubRequest_quiet _ hs hbody rfl rfl rfl rfl)

end Sys2Proof.Machine
end

section
/-! Locked settings (R187), and the requests that write a port's settings, its reactions, a trigger source, a program
and a preset (R48, R77, R83, R94, R167). -/

namespace Sys2Proof.Machine

set_option Elab.async false

theorem portOf_eq_some_of_lt {b : Byte} (h : b.toNat < 8) : portOf b = some ⟨b.toNat, h⟩ := dif_pos h

/-- Settles O15: in RUN each of the three is refused before it writes. -/
theorem lockedSettingsAreRefusedInRun : Obligations.LockedSettingsAreRefusedInRun := by
  intro h s hs hrun
  have hrun' : s.begin.countTaken.link.opState = .run := hrun
  refine ⟨fun f => ?_, fun f hf => ?_, fun f hport hgood hlocked => ?_⟩
  · exact congrArg Host.Outcome.next (s.hubRequest_quiet s hs (if_pos hrun') rfl rfl rfl rfl)
  · have hbody : (match cableKindOf f.index with
        | none => answerOnly .badArgument s.begin.countTaken
        | some i => s.begin.countTaken.setCableKind i f) = answerOnly .refusedState s.begin.countTaken := by
      rw [cableKindOf_eq_some ⟨f.index.toNat, hf⟩ rfl]
      exact if_pos hrun'
    exact congrArg Host.Outcome.next (s.hubRequest_quiet s hs hbody rfl rfl rfl rfl)
  · have hlocked' : setPortLocked f = true := by
      simp only [setPortLocked, Bool.or_eq_true]
      tauto
    have hbody : ∀ p, Ev.setPort f p s.begin.countTaken = answerOnly .refusedState s.begin.countTaken := fun p => by
      rw [Ev.setPort, hgood, if_neg Bool.false_ne_true, if_pos ⟨hrun', hlocked'⟩]
    exact congrArg Host.Outcome.next
      (s.portRequest_quiet s hs (portOf_eq_some_of_lt hport) (hbody _) rfl rfl rfl rfl)

/-! ### SET_PORT (R48) -/

/-- A named field without a structural error holds a member (R48). -/
theorem badMember_false {α : Type} {isNamed : Bool} {o : Option α} (h : badMember isNamed o = false) (hn : isNamed = true) :
    ∃ x, o = some x := by
  rw [badMember, hn, Bool.true_and, Option.isNone_eq_false_iff, Option.isSome_iff_exists] at h
  exact h

/-- The member kept where the list has two. -/
theorem takeMember_two {α : Type} {isNamed : Bool} {a b old : α} {code : Byte}
    (h : badMember isNamed (memberOf [a, b] code) = false) :
    takeMember isNamed (memberOf [a, b] code) old = if isNamed then (if code = 0 then a else b) else old := by
  cases isNamed with
  | false => rfl
  | true =>
    obtain ⟨x, hx⟩ := badMember_false h rfl
    have hlt : code.toNat < 2 := (List.getElem?_eq_some_iff.mp hx).1
    have hcode : code = 0 ∨ code = 1 := by
      rcases Nat.lt_succ_iff_lt_or_eq.mp hlt with h0 | h1
      · exact .inl (BitVec.eq_of_toNat_eq (Nat.lt_one_iff.mp h0))
      · exact .inr (BitVec.eq_of_toNat_eq h1)
    obtain rfl | rfl := hcode <;> rfl

/-- An entry that the queue does not hold is not re-sorted (R62). -/
theorem Ev.resortEntry_none (e : Ev) (p : PortId) (n : Nat) (h : ∀ a ∈ e.pool.queue, a.port ≠ p) : e.resortEntry p n = e := by
  have hnone : (e.pool.queue.find? fun x => decide (x.port = p)) = none := by
    rw [List.find?_eq_none]
    exact fun a ha => by simp [h a ha]
  simp only [Ev.resortEntry, hnone]

/-- SET_PORT without a structural error, a locked field or an admission entry (R48). -/
theorem Ev.setPort_eq (e : Ev) (p : PortId) {f : SetPortFields} (hgood : setPortBad f = false)
    (hlocked : ¬ (e.link.opState = .run ∧ setPortLocked f = true)) (hq : ∀ a ∈ e.pool.queue, a.port ≠ p) :
    Ev.setPort f p e =
      (e.updFeed p fun x => { x with settings := ((e.port p).feed.settings.write f e.pool.settings.vPool).1 },
        { status := adjustedIf ((e.port p).feed.settings.write f e.pool.settings.vPool).2 }) := by
  rw [Ev.setPort, hgood, if_neg Bool.false_ne_true, if_neg hlocked]
  dsimp only
  split
  · rfl
  · exact Prod.ext (Ev.resortEntry_none _ _ _ hq) rfl

/-- Settles O16: the settings as SET_PORT writes them; nothing is sorted anew. -/
theorem setPortWritesThePortSettings : Obligations.SetPortWritesThePortSettings := by
  intro h f s p hs hp hlocked hgood hq
  have hbad := hgood
  simp only [setPortBad, Bool.or_eq_false_iff] at hbad
  obtain ⟨⟨⟨hkind, hpolicy⟩, hhome⟩, hgroup⟩ := hbad
  have hfree : ¬ (s.begin.countTaken.link.opState = .run ∧ setPortLocked f = true) := fun ⟨hrun, hl⟩ =>
    Bool.false_ne_true ((hlocked hrun).symm.trans hl)
  refine ⟨((s.port p).feed.settings.write f s.pool.settings.vPool).1,
    adjustedIf ((s.port p).feed.settings.write f s.pool.settings.vPool).2, congrArg Host.Outcome.next ?_,
    takeField_fst .., ?_, takeField_fst .., takeField_fst .., takeField_fst .., takeField_fst .., takeMember_two hpolicy, ?_,
    takeField_fst .., takeField_fst .., takeField_fst .., takeField_fst .., takeMember_two hgroup, adjustedIf_cases _, ?_⟩
  · exact s.portRequest_quiet _ hs hp (Ev.setPort_eq _ p hgood hfree hq) rfl rfl rfl rfl
  · change if named f.mask 1 then (takeMember (named f.mask 1) (cableKindOf f.cableKind) (s.port p).feed.settings.cableKind).val
        = f.cableKind.toNat else takeMember (named f.mask 1) (cableKindOf f.cableKind) _ = _
    split
    · next hn =>
      obtain ⟨i, hi⟩ := badMember_false hkind hn
      have hlt : f.cableKind.toNat < 8 := Nat.lt_of_not_le fun hge => by
        rw [cableKindOf_eq_none hge] at hi
        cases hi
      rw [takeMember, if_pos hn, cableKindOf_eq_some ⟨_, hlt⟩ rfl]
      rfl
    · next hn => simp [takeMember, hn]
  · refine (takeMember_two hhome).trans ?_
    congr 1
  · refine (adjustedIf_eq_adjusted _).trans ?_
    simp only [PortSettings.write, Bool.or_eq_true, takeField_adjusted, takeField_fst, or_assoc]

/-! ### SET_REACTION (R167) -/

/-- A fault kind's byte names it (R194). -/
theorem faultKindOf_index {b : Byte} {k : FaultKind} (h : k.index.val = b.toNat) : faultKindOf b = some k := by
  rw [faultKindOf, memberOf, ← h]
  cases k <;> rfl

/-- A reaction's byte names it (R194). -/
theorem reactionOf_code {b : Byte} {r : Reaction} (h : r.code = b.toNat) : reactionOf b = some r := by
  rw [reactionOf, memberOf, ← h]
  cases r <;> rfl

theorem Ev.setReaction_eq (e : Ev) (p : PortId) {kind reaction : Byte} {k : FaultKind} {r : Reaction}
    (hk : k.index.val = kind.toNat) (hr : r.code = reaction.toNat) :
    Ev.setReaction kind reaction p e =
      (e.updCable p fun c => { c with
        reactions := c.reactions.set k.index.val (if r ∈ k.allowed then r else defaultReactions.get k.index) k.index.isLt },
        { status := if r ∈ k.allowed then .done else .adjusted }) := by
  simp only [Ev.setReaction, faultKindOf_index hk, reactionOf_code hr]
  by_cases h : r ∈ k.allowed <;> simp [h, adjustedIf]

/-- Settles O17: both bytes name their members, so one entry is written. -/
theorem setReactionWritesTheTable : Obligations.SetReactionWritesTheTable :=
  fun _ _ _ s p _ _ hs hp hk hr =>
    congrArg Host.Outcome.next (s.portRequest_quiet _ hs hp (Ev.setReaction_eq _ p hk hr) rfl rfl rfl rfl)

/-! ### SET_SOURCE (R74, R75, R77) -/

theorem Ev.setSource_good (e : Ev) {f : SetSourceFields} {src : Source} (hsrc : sourceOf f.source = some src)
    (hgood : setSourceBad f src = false) :
    (match sourceOf f.source with | none => answerOnly .badArgument e | some src => e.setSource f src)
      = (e.updRouter fun _ => (e.router.writeSource f src (decide (e.link.opState = .run)) e.time).1,
          { status := adjustedIf (e.router.writeSource f src (decide (e.link.opState = .run)) e.time).2 }) := by
  rw [hsrc]
  dsimp only
  rw [Ev.setSource, hgood, if_neg Bool.false_ne_true]

theorem clampTo_zero (hi v : Nat) : clampTo 0 hi v = min hi v := by
  unfold clampTo
  split
  · omega
  · split <;> omega

/-- The edge selection a SET_SOURCE keeps (R77, R194). -/
theorem takeMember_edgeOf {isNamed : Bool} {code : Byte} (old : EdgeSelection) (h : isNamed = true → code.toNat < 4) :
    takeMember isNamed (edgeOf code) old =
      if isNamed then (match code.toNat with | 0 => .off | 1 => .rising | 2 => .falling | _ => .both) else old := by
  cases isNamed with
  | false => rfl
  | true =>
    have hlt := h rfl
    rw [edgeOf, memberOf]
    generalize code.toNat = n at hlt ⊢
    obtain rfl | rfl | rfl | rfl : n = 0 ∨ n = 1 ∨ n = 2 ∨ n = 3 := by omega
    all_goals rfl

/-- The port mask that SET_SOURCE writes (R77). -/
theorem Router.writeMap_eq (r : Router) (f : SetSourceFields) (src : Source) :
    r.writeMap f src =
      { r with map := if named f.mask 3 then r.map.set src.index.val f.portMask src.index.isLt else r.map } := by
  unfold Router.writeMap
  split <;> rfl

theorem setSourceBad_pin {f : SetSourceFields} (i : Fin 4) (hedge : named f.mask 0 = true → f.edge.toNat < 4)
    (hperiod : named f.mask 2 = false) : setSourceBad f (sourceOfPin i) = false := by
  have hmember : badMember (named f.mask 0) (edgeOf f.edge) = false := by
    cases hn : named f.mask 0 with
    | false => rfl
    | true =>
      have hsome : (edgeOf f.edge).isSome = true := by simp [edgeOf, memberOf, hedge hn]
      rw [badMember, Bool.true_and, Option.isNone_eq_false_iff.mpr hsome]
  simp [setSourceBad, hmember, hperiod]

theorem setSourceBad_period {f : SetSourceFields} (hn0 : named f.mask 0 = false) (hn1 : named f.mask 1 = false) :
    setSourceBad f .period = false := by
  simp [setSourceBad, badMember, Source.pin?, hn0, hn1]

/-- SET_SOURCE of a pin source (R74, R77). -/
theorem Router.writeSource_pin (r : Router) {f : SetSourceFields} (i : Fin 4) (run : Bool) (now : Nat)
    (hedge : named f.mask 0 = true → f.edge.toNat < 4) :
    r.writeSource f (sourceOfPin i) run now =
      ({ r with
          pins := modifyAt r.pins i fun x => { x with
            edge := if named f.mask 0 then
                (match f.edge.toNat with | 0 => .off | 1 => .rising | 2 => .falling | _ => .both) else x.edge
            holdoff := if named f.mask 1 then min 65535 f.holdoff.toNat else x.holdoff }
          map := if named f.mask 3 then r.map.set i.val f.portMask (by omega) else r.map },
        decide (named f.mask 1 = true ∧ 65535 < f.holdoff.toNat)) := by
  have hwrite : ∀ x : PinSource, x.write f =
      ({ x with
          edge := if named f.mask 0 then
              (match f.edge.toNat with | 0 => .off | 1 => .rising | 2 => .falling | _ => .both) else x.edge
          holdoff := if named f.mask 1 then min 65535 f.holdoff.toNat else x.holdoff },
        decide (named f.mask 1 = true ∧ 65535 < f.holdoff.toNat)) := fun x => by
    refine Prod.ext ?_ (Bool.eq_iff_iff.mpr ?_)
    · simp only [PinSource.write, takeMember_edgeOf x.edge hedge, takeField_fst, clampTo_zero]
    · simp only [PinSource.write, takeField_snd, clampTo_ne, decide_eq_true_eq, Nat.zero_le, true_and, Nat.not_le]
  simp only [Router.writeSource, sourceOfPin_pin, hwrite, Router.writeMap_eq, sourceOfPin_index]
  rfl

/-- The period that SET_SOURCE keeps, and whether it was clamped (R73, R77). -/
theorem takePeriod_eq (isNamed : Bool) (new old : Nat) :
    takePeriod isNamed new old =
      (if isNamed = false then old else if new = 0 then 0 else clampTo 100 10000000 new,
        decide (isNamed = true ∧ (if new = 0 then 0 else clampTo 100 10000000 new) ≠ new)) := by
  unfold takePeriod
  split
  · next h => cases isNamed <;> simp [h]
  · cases isNamed <;> simp [takeField]

/-- SET_SOURCE of PERIOD (R75, R77). -/
theorem Router.writeSource_period (r : Router) {f : SetSourceFields} {period : Nat} (run : Prop) [Decidable run] (now : Nat)
    (hp : period = (if named f.mask 2 = false then r.period
      else if f.period = 0 then 0 else clampTo 100 10000000 f.period.toNat)) :
    r.writeSource f .period (decide run) now =
      ({ r with
          period := period
          periodTimer :=
            if named f.mask 2 = true ∧ run ∧ r.periodTimer = none ∧ period ≠ 0 then some (now + period)
            else r.periodTimer
          map := if named f.mask 3 then r.map.set 4 f.portMask else r.map },
        decide (named f.mask 2 = true ∧ period ≠ f.period.toNat)) := by
  have hzero : f.period = 0 ↔ f.period.toNat = 0 := ⟨fun h => by rw [h]; rfl, fun h => BitVec.eq_of_toNat_eq h⟩
  rw [if_congr hzero rfl rfl] at hp
  have hperiod : takePeriod (named f.mask 2) f.period.toNat r.period
      = (period, decide (named f.mask 2 = true ∧ period ≠ f.period.toNat)) := by
    rw [takePeriod_eq, hp]
    cases hn : named f.mask 2 <;> rfl
  have htimer : (named f.mask 2 && decide run && r.periodTimer.isNone && !decide (period = 0)) = true ↔
      named f.mask 2 = true ∧ run ∧ r.periodTimer = none ∧ period ≠ 0 := by
    simp only [Bool.and_eq_true, Bool.not_eq_true', decide_eq_false_iff_not, decide_eq_true_eq,
      Option.isNone_iff_eq_none, and_assoc, ne_eq]
  simp only [Router.writeSource, Source.pin?, Router.writePeriod, hperiod, Router.writeMap_eq, htimer]
  rfl

/-- Settles O18: a pin's settings, or the period with its timer, and the port mask. -/
theorem setSourceWritesOneSource : Obligations.SetSourceWritesOneSource := by
  refine ⟨fun h f s i hs hi hedge hperiod => ?_, fun h f s period hs h4 hn0 hn1 hp => ?_⟩
  · have hbody := Ev.setSource_good s.begin.countTaken (sourceOf_pin i hi) (setSourceBad_pin i hedge hperiod)
    rw [Router.writeSource_pin _ i _ _ hedge, adjustedIf_decide] at hbody
    exact congrArg Host.Outcome.next (s.hubRequest_quiet _ hs hbody rfl rfl rfl rfl)
  · have hbody := Ev.setSource_good s.begin.countTaken (src := .period) (by rw [h4]; rfl) (setSourceBad_period hn0 hn1)
    rw [Router.writeSource_period s.begin.countTaken.router _ _ hp, adjustedIf_decide] at hbody
    exact congrArg Host.Outcome.next (s.hubRequest_quiet _ hs hbody rfl rfl rfl rfl)

/-! ### SET_PROGRAM (R83) -/

/-- A preset byte of a step names a preset, or NONE (R83, R190). -/
theorem stepPreset_eq {b : Byte} (h : b.toNat < 16 ∨ b = 0xFF) :
    ∃ o, stepPreset b = some o ∧ o.map Fin.val = if b = 0xFF then none else some b.toNat := by
  by_cases hnone : b = 0xFF
  · exact ⟨none, if_pos hnone, (if_pos hnone).symm⟩
  · have hlt := h.resolve_right hnone
    refine ⟨some ⟨b.toNat, hlt⟩, ?_, (if_neg hnone).symm⟩
    rw [stepPreset, if_neg hnone, presetOf_eq_some ⟨b.toNat, hlt⟩ rfl]
    rfl

theorem stepPreset_eq_none {b : Byte} (h : 16 ≤ b.toNat) (hnone : b ≠ 0xFF) : stepPreset b = none := by
  rw [stepPreset, if_neg hnone, presetOf_eq_none h]
  rfl

/-- The mode bytes of SET_PROGRAM (R194). -/
theorem programModeOf_eq {mode : Byte} (h : mode.toNat < 2) :
    programModeOf mode = some (if mode = 1 then .atWrap else .now) := by
  obtain rfl | rfl : mode = 0 ∨ mode = 1 := by
    obtain h0 | h1 : mode.toNat = 0 ∨ mode.toNat = 1 := by omega
    · exact .inl (BitVec.eq_of_toNat_eq h0)
    · exact .inr (BitVec.eq_of_toNat_eq h1)
  · rfl
  · rfl

theorem setProgramBad_false {mode : Byte} {steps : List WireStep} (hmode : mode.toNat < 2) (hlen : steps.length ≤ 8)
    (hsteps : ∀ x ∈ steps, x.preset.toNat < 16 ∨ x.preset = 0xFF) : setProgramBad mode steps = false := by
  have hany : (steps.any fun x => (stepPreset x.preset).isNone) = false := by
    rw [List.any_eq_false]
    intro x hx
    obtain ⟨o, ho, -⟩ := stepPreset_eq (hsteps x hx)
    simp [ho]
  rw [setProgramBad, programModeOf_eq hmode, hany, decide_eq_false (Nat.not_lt_of_le hlen)]
  rfl

theorem setProgramBad_true {mode : Byte} {steps : List WireStep}
    (h : 2 ≤ mode.toNat ∨ 8 < steps.length ∨ ∃ x ∈ steps, 16 ≤ x.preset.toNat ∧ x.preset ≠ 0xFF) :
    setProgramBad mode steps = true := by
  simp only [setProgramBad, Bool.or_eq_true, List.any_eq_true, decide_eq_true_eq, Option.isNone_iff_eq_none]
  obtain h | h | ⟨x, hx, hhigh, hnone⟩ := h
  · exact .inl (.inl (memberOf_eq_none h))
  · exact .inl (.inr h)
  · exact .inr ⟨x, hx, stepPreset_eq_none hhigh hnone⟩

/-- The program that SET_PROGRAM writes, running or staged (R83). -/
theorem Capture.writeProgram_eq (c : Capture) {mode : Byte} (l : List ProgramStep) (h : mode.toNat < 2) :
    c.writeProgram (programModeOf mode) l =
      if mode = 1 ∧ c.program ≠ [] then { c with staged := some l }
      else { c with program := l, cursor := 0, staged := none } := by
  rw [Capture.writeProgram, programModeOf_eq h]
  by_cases hm : mode = 1 <;> simp [hm]

/-- The status of SET_PROGRAM (R83). -/
theorem adjustedIf_stepClamped (steps : List WireStep) :
    adjustedIf (steps.any stepClamped) =
      if ∃ x ∈ steps, x.exposure.toNat = 0 ∨ 1000000 < x.exposure.toNat then .adjusted else .done := by
  have hstep : ∀ x, stepClamped x = true ↔ x.exposure.toNat = 0 ∨ 1000000 < x.exposure.toNat := fun x => by
    have h := clampTo_ne 1 1000000 x.exposure.toNat
    rw [stepClamped, Bool.not_eq_true', decide_eq_false_iff_not, ← ne_eq, h]
    omega
  rw [← adjustedIf_decide]
  congr 1
  rw [Bool.eq_iff_iff, List.any_eq_true, decide_eq_true_eq]
  simp only [hstep]

/-- Settles O19: the steps are taken one by one; a structural error is found before anything is written. -/
theorem setProgramWritesTheProgram : Obligations.SetProgramWritesTheProgram := by
  refine fun h mode steps s p hs hp => ⟨fun hmode hlen hsteps => ?_, fun hbad => ?_⟩
  · refine ⟨steps.map takeStep, List.length_map _, fun k x y hx hy => ?_, congrArg Host.Outcome.next ?_⟩
    · obtain rfl : takeStep x = y := by simpa [hx] using hy
      obtain ⟨o, ho, hval⟩ := stepPreset_eq (hsteps x (List.mem_of_getElem? hx))
      refine ⟨rfl, ?_⟩
      rw [takeStep, ho]
      exact hval
    · have hbody : Ev.setProgram mode steps p s.begin.countTaken =
          (s.begin.countTaken.updCapture p fun c =>
              if mode = 1 ∧ c.program ≠ [] then { c with staged := some (steps.map takeStep) }
              else { c with program := steps.map takeStep, cursor := 0, staged := none },
            { status := if ∃ x ∈ steps, x.exposure.toNat = 0 ∨ 1000000 < x.exposure.toNat then .adjusted else .done }) := by
        rw [Ev.setProgram, setProgramBad_false hmode hlen hsteps, if_neg Bool.false_ne_true, adjustedIf_stepClamped]
        simp only [Capture.writeProgram_eq _ _ hmode]
      exact s.portRequest_quiet _ hs hp hbody rfl rfl rfl rfl
  · have hbody : Ev.setProgram mode steps p s.begin.countTaken = answerOnly .badArgument s.begin.countTaken :=
      if_pos (setProgramBad_true hbad)
    exact congrArg Host.Outcome.next (s.portRequest_quiet s hs hp hbody rfl rfl rfl rfl)

/-! ### SET_PRESET (R94) -/

/-- The named fields of a preset, each brought down to the top of its range (R94). -/
theorem Preset.write_eq (q : Preset) (f : SetPresetFields) :
    q.write f =
      ({ focus := if named f.mask 0 then min 4095 f.focus.toNat else q.focus
         iris := if named f.mask 1 then min 255 f.iris.toNat else q.iris
         zoom := if named f.mask 2 then min 1023 f.zoom.toNat else q.zoom
         settle := if named f.mask 3 then min 100 f.settle.toNat else q.settle
         tolerance := if named f.mask 4 then min 64 f.tolerance.toNat else q.tolerance
         valid := if named f.mask 5 then decide (f.valid ≠ 0) else q.valid },
        decide ((named f.mask 0 = true ∧ 4095 < f.focus.toNat) ∨ (named f.mask 1 = true ∧ 255 < f.iris.toNat)
          ∨ (named f.mask 2 = true ∧ 1023 < f.zoom.toNat) ∨ (named f.mask 3 = true ∧ 100 < f.settle.toNat)
          ∨ (named f.mask 4 = true ∧ 64 < f.tolerance.toNat))) := by
  refine Prod.ext ?_ (Bool.eq_iff_iff.mpr ?_)
  · simp only [Preset.write, takeField_fst, clampTo_zero, ne_eq, decide_not]
  · simp only [Preset.write, Bool.or_eq_true, takeField_snd, clampTo_ne, decide_eq_true_eq, Nat.zero_le, true_and,
      Nat.not_le, or_assoc]

/-- Settles O20: one preset is written with the clamps of R94. -/
theorem setPresetWritesOnePreset : Obligations.SetPresetWritesOnePreset := by
  refine fun h f s p hs hp => ⟨fun i hi => ?_, fun hbad => ?_⟩
  · have hbody : Ev.setPreset f p s.begin.countTaken =
        (s.begin.countTaken.updLens p fun l =>
            { l with presets := l.presets.set i.val (((s.port p).lens.presets.get i).write f).1 i.isLt },
          { status := adjustedIf (((s.port p).lens.presets.get i).write f).2 }) := by
      rw [Ev.setPreset, presetOf_eq_some i hi]
      rfl
    rw [Preset.write_eq, adjustedIf_decide] at hbody
    exact congrArg Host.Outcome.next (s.portRequest_quiet _ hs hp hbody rfl rfl rfl rfl)
  · have hbody : Ev.setPreset f p s.begin.countTaken = answerOnly .badArgument s.begin.countTaken := by
      rw [Ev.setPreset, presetOf_eq_none hbad]
    exact congrArg Host.Outcome.next (s.portRequest_quiet s hs hp hbody rfl rfl rfl rfl)

end Sys2Proof.Machine
end

section
/-! Request frames (R190, R191, R194): every well-formed request is read back from its frame. -/

namespace Sys2Proof.Machine

set_option Elab.async false

/-! ### Fields (R190) -/

/-- Two fields side by side, as numbers. -/
theorem toNat_append_eq_add {v w : Nat} (a : BitVec v) (b : BitVec w) : (a ++ b).toNat = 2 ^ w * a.toNat + b.toNat := by
  rw [BitVec.toNat_append, Nat.shiftLeft_eq, Nat.mul_comm, ← Nat.two_pow_add_eq_or_of_lt b.isLt]

/-- The two bytes of a half, most significant first. -/
theorem half_bytes (x : Half) : (BitVec.ofNat 8 (x.toNat / 256) ++ BitVec.ofNat 8 x.toNat : Half) = x := by
  have := x.isLt
  apply BitVec.eq_of_toNat_eq
  simp only [toNat_append_eq_add, BitVec.toNat_ofNat]
  omega

/-- The four bytes of a word, most significant first. -/
theorem word_bytes (x : Word) :
    ((BitVec.ofNat 8 (x.toNat / 16777216) ++ BitVec.ofNat 8 (x.toNat / 65536) : Half)
      ++ (BitVec.ofNat 8 (x.toNat / 256) ++ BitVec.ofNat 8 x.toNat : Half) : Word) = x := by
  have := x.isLt
  apply BitVec.eq_of_toNat_eq
  simp only [toNat_append_eq_add, BitVec.toNat_ofNat]
  omega

/-! ### Frames (R191) -/

/-- A frame bears a body of 4 to 250 bytes behind its length byte. -/
theorem length_byte {n : Nat} (h : n ≤ 250) : (BitVec.ofNat 8 n).toNat = n := by
  rw [BitVec.toNat_ofNat]
  omega

/-- A frame with a body of 4 to 250 bytes and its CRC is SOUND (R180). -/
theorem frameClass_linkFrame (body : List Byte) (hlow : 4 ≤ body.length) (hhigh : body.length ≤ 250) :
    frameClass (be1 body.length ++ body ++ crc16Bytes (be1 body.length ++ body)) = .sound := by
  have hn : (byteAt (be1 body.length ++ body ++ crc16Bytes (be1 body.length ++ body)) 0).toNat = body.length :=
    length_byte hhigh
  have hlen : (be1 body.length ++ body).length = body.length + 1 := by simp; omega
  have hcrc : (crc16Bytes (be1 body.length ++ body)).length = 2 := rfl
  unfold frameClass
  simp only [hn]
  rw [if_neg (by omega), if_neg (by omega), if_neg (by rw [List.length_append]; omega), if_pos]
  rw [List.take_left' hlen, List.drop_left' hlen, List.take_of_length_le (by omega)]

/-- The request in a frame: its code, header and payload (R191). -/
theorem readRequest_requestFrame (code : Byte) (h : ReqHeader) (pl : List Byte) (hlen : pl.length ≤ 246) :
    readRequest (requestFrame (code, h, pl)) = if payloadFits code pl then requestNamed code h pl else none := by
  have hframe : requestFrame (code, h, pl) =
      [BitVec.ofNat 8 (4 + pl.length), code, BitVec.ofNat 8 (h.tag.toNat / 256), BitVec.ofNat 8 h.tag.toNat, h.port]
        ++ (pl ++ crc16Bytes (be1 (4 + pl.length) ++ ([code] ++ be2 h.tag.toNat ++ [h.port] ++ pl))) := by
    have hbody : ([code] ++ be2 h.tag.toNat ++ [h.port] ++ pl).length = 4 + pl.length := by
      simp [be2]
      omega
    simp only [requestFrame, hbody]
    simp [be1, be2]
  have hheader : frameHeader (requestFrame (code, h, pl)) = h := by
    rw [hframe]
    cases h
    exact congrArg (fun t => ReqHeader.mk t _) (half_bytes _)
  have hpayload : framePayload (requestFrame (code, h, pl)) = pl := by
    have hn : (byteAt (requestFrame (code, h, pl)) 0).toNat - 4 = pl.length := by
      rw [hframe]
      change (BitVec.ofNat 8 (4 + pl.length)).toNat - 4 = _
      rw [length_byte (by omega)]
      omega
    rw [framePayload, hn, hframe]
    exact List.take_left' rfl
  have hcode : byteAt (requestFrame (code, h, pl)) 1 = code := by
    rw [hframe]
    rfl
  rw [readRequest, hheader, hpayload, hcode]

/-! ### Fields behind others (R190) -/

theorem byteAt_append (l r : List Byte) (j : Nat) : byteAt (l ++ r) (l.length + j) = byteAt r j := by
  simp [byteAt, List.getElem?_append_right]

theorem halfAt_append (l r : List Byte) (j : Nat) : halfAt (l ++ r) (l.length + j) = halfAt r j := by
  simp only [halfAt, Nat.add_assoc, byteAt_append]

theorem wordAt_append (l r : List Byte) (j : Nat) : wordAt (l ++ r) (l.length + j) = wordAt r j := by
  simp only [wordAt, Nat.add_assoc, halfAt_append]

/-! ### The steps of a program (R194) -/

/-- A step as SET_PROGRAM carries it. -/
def WireStep.bytes (x : WireStep) : List Byte := [x.preset] ++ be4 x.exposure.toNat

/-- The k-th step behind a mode byte and a count is the k-th step of the rest. -/
theorem readStep_eq (mode n : Byte) (b : List Byte) (k : Nat) :
    readStep ([mode] ++ [n] ++ b) k = { preset := byteAt b (5 * k), exposure := wordAt b (5 * k + 1) } := by
  have h : 3 + 5 * k = ([mode] ++ [n]).length + (5 * k + 1) := by simp; omega
  rw [readStep, h, wordAt_append]
  exact congrArg (WireStep.mk · _) (byteAt_append ([mode] ++ [n]) b (5 * k))

/-- The steps of a SET_PROGRAM are read back one by one. -/
theorem map_readStep (mode n : Byte) (steps : List WireStep) :
    (List.range steps.length).map (readStep ([mode] ++ [n] ++ steps.flatMap WireStep.bytes)) = steps := by
  rw [show readStep ([mode] ++ [n] ++ steps.flatMap WireStep.bytes) = _ from funext (readStep_eq mode n _)]
  induction steps with
  | nil => rfl
  | cons x l ih =>
    rw [List.length_cons, List.range_succ_eq_map, List.map_cons, List.map_map]
    refine congrArg₂ List.cons (congrArg (WireStep.mk x.preset) (word_bytes x.exposure)) (Eq.trans ?_ ih)
    refine List.map_congr_left fun k _ => ?_
    have h : 5 * (k + 1) = (WireStep.bytes x).length + 5 * k := by simp [WireStep.bytes]; omega
    simp only [Function.comp, Nat.succ_eq_add_one, h, List.flatMap_cons, Nat.add_assoc, byteAt_append, wordAt_append]

/-! ### Payloads (R194) -/

theorem readSetPool_bytes (f : SetPoolFields) :
    readSetPool ([f.mask] ++ be4 f.budget.toNat ++ be2 f.vPool.toNat ++ be2 f.derate.toNat ++ be2 f.kill.toNat
      ++ be2 f.trip.toNat) = f := by
  cases f
  rw [readSetPool, SetPoolFields.mk.injEq]
  exact ⟨rfl, word_bytes _, half_bytes _, half_bytes _, half_bytes _, half_bytes _⟩

theorem readSetCableKind_bytes (f : SetCableKindFields) :
    readSetCableKind ([f.index, f.mask] ++ be2 f.velocity.toNat ++ be2 f.loop.toNat ++ be2 f.connector.toNat) = f := by
  cases f
  rw [readSetCableKind, SetCableKindFields.mk.injEq]
  exact ⟨rfl, rfl, half_bytes _, half_bytes _, half_bytes _⟩

theorem readSetPort_bytes (f : SetPortFields) :
    readSetPort (be2 f.mask.toNat ++ [f.priority, f.cableKind] ++ be2 f.declaredLength.toNat ++ be2 f.vMin.toNat
      ++ be2 f.lensPower.toNat ++ [f.retryLimit, f.damagedPolicy, f.autoHome, f.flexThreshold, f.drift]
      ++ be4 f.defaultExposure.toNat ++ be2 f.holdLimit.toNat ++ [f.outputGroup]) = f := by
  cases f
  rw [readSetPort, SetPortFields.mk.injEq]
  exact ⟨half_bytes _, rfl, rfl, half_bytes _, half_bytes _, half_bytes _, rfl, rfl, rfl, rfl, rfl, word_bytes _,
    half_bytes _, rfl⟩

theorem readSetSource_bytes (f : SetSourceFields) :
    readSetSource ([f.source, f.mask, f.edge] ++ be4 f.holdoff.toNat ++ be4 f.period.toNat ++ [f.portMask]) = f := by
  cases f
  rw [readSetSource, SetSourceFields.mk.injEq]
  exact ⟨rfl, rfl, rfl, word_bytes _, word_bytes _, rfl⟩

theorem readSetPreset_bytes (f : SetPresetFields) :
    readSetPreset ([f.index, f.mask] ++ be2 f.focus.toNat ++ be2 f.iris.toNat ++ be2 f.zoom.toNat
      ++ [f.settle, f.tolerance, f.valid]) = f := by
  cases f
  rw [readSetPreset, SetPresetFields.mk.injEq]
  exact ⟨rfl, rfl, half_bytes _, half_bytes _, half_bytes _, rfl, rfl, rfl⟩

theorem readCamAccess_bytes (f : CamAccessFields) :
    readCamAccess ([f.kind] ++ be2 f.param.toNat ++ be4 f.value.toNat) = f := by
  cases f
  rw [readCamAccess, CamAccessFields.mk.injEq]
  exact ⟨rfl, half_bytes _, word_bytes _⟩

/-- The payload of a SET_PROGRAM that fits a frame (R180, R194). -/
theorem requestNamed_setProgram (h : ReqHeader) (mode : Byte) (steps : List WireStep) (hfits : programFits steps = true)
    {pl : List Byte} (hpl : pl = [mode] ++ be1 steps.length ++ steps.flatMap WireStep.bytes) :
    pl.length ≤ 246 ∧ payloadFits 0x42 pl = true ∧ requestNamed 0x42 h pl = some (.setProgram h mode steps) := by
  have hn : steps.length ≤ 48 := of_decide_eq_true hfits
  have hcount : (byteAt pl 1).toNat = steps.length := by
    rw [hpl]
    exact length_byte (by omega)
  have hlen : pl.length = 2 + 5 * steps.length := by
    rw [hpl]
    simp [List.length_flatMap, WireStep.bytes, Nat.mul_comm]
    omega
  refine ⟨by omega, ?_, ?_⟩
  · rw [payloadFits, if_pos rfl, hcount, hlen]
    simp
  · have hsteps : (List.range (byteAt pl 1).toNat).map (readStep pl) = steps := by
      rw [hcount, hpl]
      exact map_readStep mode _ steps
    have hmode : byteAt pl 0 = mode := by
      rw [hpl]
      rfl
    exact congrArg₂ (fun m l => some (Instr.setProgram h m l)) hmode hsteps

/-- A request's payload has the length of its layout and reads back as the request. -/
theorem requestNamed_requestBytes (i : Instr) (x : Byte × ReqHeader × List Byte) (hwf : i.wellFormed = true)
    (hx : requestBytes i = some x) :
    x.2.2.length ≤ 246 ∧ payloadFits x.1 x.2.2 = true ∧ requestNamed x.1 x.2.1 x.2.2 = some i := by
  cases i <;> cases hx
  case setNoticeMask h mask =>
    exact ⟨Nat.le_of_ble_eq_true rfl, rfl, congrArg (fun v => some (Instr.setNoticeMask h v)) (half_bytes mask)⟩
  case setPool h f =>
    exact ⟨Nat.le_of_ble_eq_true rfl, rfl, congrArg (fun v => some (Instr.setPool h v)) (readSetPool_bytes f)⟩
  case setCableKind h f =>
    exact ⟨Nat.le_of_ble_eq_true rfl, rfl, congrArg (fun v => some (Instr.setCableKind h v)) (readSetCableKind_bytes f)⟩
  case setPort h f =>
    exact ⟨Nat.le_of_ble_eq_true rfl, rfl, congrArg (fun v => some (Instr.setPort h v)) (readSetPort_bytes f)⟩
  case setSource h f =>
    exact ⟨Nat.le_of_ble_eq_true rfl, rfl, congrArg (fun v => some (Instr.setSource h v)) (readSetSource_bytes f)⟩
  case setPreset h f =>
    exact ⟨Nat.le_of_ble_eq_true rfl, rfl, congrArg (fun v => some (Instr.setPreset h v)) (readSetPreset_bytes f)⟩
  case camAccess h f =>
    exact ⟨Nat.le_of_ble_eq_true rfl, rfl, congrArg (fun v => some (Instr.camAccess h v)) (readCamAccess_bytes f)⟩
  case setProgram h mode steps => exact requestNamed_setProgram h mode steps hwf rfl
  all_goals exact ⟨Nat.le_of_ble_eq_true rfl, rfl, rfl⟩

/-- Settles O8, from the frame's parts and the layouts of the payloads. -/
theorem requestFramesReadBack : Obligations.RequestFramesReadBack := by
  intro i x hwf hx
  obtain ⟨hlen, hfits, hnamed⟩ := requestNamed_requestBytes i x hwf hx
  obtain ⟨code, h, pl⟩ := x
  constructor
  · have hbody : ([code] ++ be2 h.tag.toNat ++ [h.port] ++ pl).length = 4 + pl.length := by
      simp
      omega
    have hlen' : pl.length ≤ 246 := hlen
    exact frameClass_linkFrame _ (by rw [hbody]; omega) (by rw [hbody]; omega)
  · rw [readRequest_requestFrame code h pl hlen, hfits, if_pos rfl, hnamed]

end Sys2Proof.Machine
end

section
/-! How an event and a request end with the work they leave and the notices they offer, each said once; the class of a
packet (R4); the soft reset (R189). -/

namespace Sys2Proof.Machine

set_option Elab.async false

/-! ### Columns and changes of one port -/

@[simp] theorem State.begin_time (s : State) : s.begin.time = s.time := rfl
@[simp] theorem State.begin_epoch (s : State) : s.begin.epoch = s.epoch := rfl
@[simp] theorem State.begin_ports (s : State) : s.begin.ports = s.ports := rfl
@[simp] theorem State.begin_pool (s : State) : s.begin.pool = s.pool := rfl
@[simp] theorem State.begin_router (s : State) : s.begin.router = s.router := rfl
@[simp] theorem State.begin_output (s : State) : s.begin.output = s.output := rfl
@[simp] theorem State.begin_relay (s : State) : s.begin.relay = s.relay := rfl
@[simp] theorem State.begin_meter (s : State) : s.begin.meter = s.meter := rfl
@[simp] theorem State.begin_kinds (s : State) : s.begin.kinds = s.kinds := rfl
@[simp] theorem State.begin_breaks (s : State) : s.begin.breaks = s.breaks := rfl
@[simp] theorem State.begin_link (s : State) : s.begin.link = s.link := rfl
@[simp] theorem State.begin_before (s : State) : s.begin.before = s.ports := rfl
@[simp] theorem State.begin_offers (s : State) : s.begin.offers = [] := rfl
@[simp] theorem State.begin_poolOffers (s : State) : s.begin.poolOffers = [] := rfl
@[simp] theorem State.begin_todo (s : State) : s.begin.todo = [] := rfl
@[simp] theorem State.begin_port (s : State) (p : PortId) : s.begin.port p = s.port p := rfl
@[simp] theorem Ev.push_port (e : Ev) (t : Task) (p : PortId) : (e.push t).port p = e.port p := rfl
@[simp] theorem Ev.offer_port (e : Ev) (n : Notice) (p : PortId) : (e.offer n).port p = e.port p := rfl
@[simp] theorem Ev.reach_port (e : Ev) (d : Nat) (p : PortId) : (e.reach d).port p = e.port p := rfl
@[simp] theorem Ev.setRelay_port (e : Ev) (l : List RelayEntry) (p : PortId) : (e.setRelay l).port p = e.port p := rfl
@[simp] theorem Ev.updPool_port (e : Ev) (f : Pool → Pool) (p : PortId) : (e.updPool f).port p = e.port p := rfl
@[simp] theorem Ev.updRouter_port (e : Ev) (f : Router → Router) (p : PortId) : (e.updRouter f).port p = e.port p := rfl
@[simp] theorem Ev.updOutput_port (e : Ev) (f : Output → Output) (p : PortId) : (e.updOutput f).port p = e.port p := rfl
@[simp] theorem Ev.updMeter_port (e : Ev) (f : Meter → Meter) (p : PortId) : (e.updMeter f).port p = e.port p := rfl
@[simp] theorem Ev.updBreaks_port (e : Ev) (f : Breaks → Breaks) (p : PortId) : (e.updBreaks f).port p = e.port p := rfl
@[simp] theorem Ev.updLink_port (e : Ev) (f : Link → Link) (p : PortId) : (e.updLink f).port p = e.port p := rfl
@[simp] theorem Ev.writeReply_port (e : Ev) (r : Reply) (p : PortId) : (e.writeReply r).port p = e.port p := rfl
@[simp] theorem Ev.countPool_port (e : Ev) (f : PoolCounters → PoolCounters) (p : PortId) :
    (e.countPool f).port p = e.port p := rfl
@[simp] theorem Ev.countMeter_port (e : Ev) (f : MeterCounters → MeterCounters) (p : PortId) :
    (e.countMeter f).port p = e.port p := rfl
@[simp] theorem Ev.countTaken_port (e : Ev) (p : PortId) : e.countTaken.port p = e.port p := rfl
@[simp] theorem Ev.markPower_port (e : Ev) (p q : PortId) (c : PowerCause) : (e.markPower p c).port q = e.port q := rfl

@[simp] theorem Ev.countTether_port (e : Ev) (p : PortId) (f : TetherCounters → TetherCounters) :
    (e.countTether p f).port p
      = { e.port p with tether := { (e.port p).tether with counters := f (e.port p).tether.counters } } :=
  e.updTether_port p _

@[simp] theorem Ev.countFeed_port (e : Ev) (p : PortId) (f : FeedCounters → FeedCounters) :
    (e.countFeed p f).port p
      = { e.port p with feed := { (e.port p).feed with counters := f (e.port p).feed.counters } } :=
  e.updFeed_port p _

@[simp] theorem Ev.countCapture_port (e : Ev) (p : PortId) (f : CaptureCounters → CaptureCounters) :
    (e.countCapture p f).port p
      = { e.port p with capture := { (e.port p).capture with counters := f (e.port p).capture.counters } } :=
  e.updCapture_port p _

@[simp] theorem Ev.countLens_port (e : Ev) (p : PortId) (f : LensCounters → LensCounters) :
    (e.countLens p f).port p
      = { e.port p with lens := { (e.port p).lens with counters := f (e.port p).lens.counters } } :=
  e.updLens_port p _

@[simp] theorem Ev.countIngress_port (e : Ev) (p : PortId) (f : IngressCounters → IngressCounters) :
    (e.countIngress p f).port p
      = { e.port p with ingress := { (e.port p).ingress with counters := f (e.port p).ingress.counters } } :=
  e.updIngress_port p _

@[simp] theorem Ev.countCable_port (e : Ev) (p : PortId) (f : BreakCounters → BreakCounters) :
    (e.countCable p f).port p
      = { e.port p with cable := { (e.port p).cable with counters := f (e.port p).cable.counters } } :=
  e.updCable_port p _

/-- Two changes of one port agree when they agree on its column. -/
theorem State.onPort_congr (s : State) (p : PortId) {f g : Port → Port} (h : f (s.port p) = g (s.port p)) :
    s.onPort p f = s.onPort p g :=
  congrArg (fun v => ({ s with ports := v } : State)) (modifyAt_congr s.ports p h)

theorem State.onPort_same (s : State) (p : PortId) {f : Port → Port} (h : f (s.port p) = s.port p) : s.onPort p f = s :=
  congrArg (fun v => ({ s with ports := v } : State)) (modifyAt_same s.ports p h)

theorem State.onTether_congr (s : State) (p : PortId) {f g : Tether → Tether}
    (h : f (s.port p).tether = g (s.port p).tether) : s.onTether p f = s.onTether p g :=
  s.onPort_congr p (congrArg (fun t => ({ s.port p with tether := t } : Port)) h)

theorem State.onTether_same (s : State) (p : PortId) {f : Tether → Tether} (h : f (s.port p).tether = (s.port p).tether) :
    s.onTether p f = s :=
  s.onPort_same p (congrArg (fun t => ({ s.port p with tether := t } : Port)) h)

theorem State.onCable_congr (s : State) (p : PortId) {f g : Cable → Cable} (h : f (s.port p).cable = g (s.port p).cable) :
    s.onCable p f = s.onCable p g :=
  s.onPort_congr p (congrArg (fun y => ({ s.port p with cable := y } : Port)) h)

/-- Two changes of one port, one after the other. -/
theorem Ev.updPort_twice (e : Ev) (p : PortId) (f g : Port → Port) :
    (e.updPort p f).updPort p g = e.updPort p fun x => g (f x) := by
  simp only [Ev.updPort, modifyAt_twice]

/-! ### Work that changes nothing -/

/-- A task that leaves an event as it is, whatever other work is left. -/
def Ev.Idle (e : Ev) (t : Task) : Prop := ∀ l, ({ e with todo := l } : Ev).perform t = { e with todo := l }

theorem Ev.settleBy_idle (l : List Task) (k : Nat) (e : Ev) (hidle : ∀ t ∈ l, e.Idle t) (hk : l.length ≤ k) :
    Ev.settleBy k { e with todo := l } = { e with todo := [] } := by
  induction l generalizing k with
  | nil => exact Ev.settleBy_done k _ rfl
  | cons t rest ih =>
    obtain ⟨k, rfl⟩ : ∃ j, k = j + 1 := ⟨k - 1, by simp at hk; omega⟩
    refine (Ev.settleBy_cons k { e with todo := t :: rest } t rest rfl).trans ?_
    refine (congrArg (Ev.settleBy k) (hidle t List.mem_cons_self rest)).trans ?_
    exact ih k (fun u hu => hidle u (List.mem_cons_of_mem _ hu)) (by simpa using hk)

/-- An event whose remaining work changes nothing ends as it is. -/
theorem Ev.settle_idle (e : Ev) (hidle : ∀ t ∈ e.todo, e.Idle t) (hlen : e.todo.length ≤ 512) :
    e.settle = { e with todo := [] } :=
  Ev.settleBy_idle e.todo 512 e hidle hlen

/-- An event that leaves one task after which nothing is left to do. -/
theorem Ev.settle_last (e : Ev) (t : Task) (htodo : e.todo = [t]) {e' : Ev}
    (hperform : ({ e with todo := [] } : Ev).perform t = e') (hleft : e'.todo = []) : e.settle = e' :=
  (e.settle_one t htodo (by rw [hperform, hleft])).trans hperform

theorem Tether.startChannel_busy (t : Tether) (h : t.channel ≠ none) : t.startChannel = t :=
  if_pos (Option.isSome_iff_ne_none.mpr h)

theorem Ev.startChannel_same (e : Ev) (p : PortId) (h : (e.port p).tether.startChannel = (e.port p).tether) :
    e.startChannel p = e :=
  congrArg (fun v => ({ e with ports := v } : Ev))
    (modifyAt_same e.ports p (congrArg (fun y => ({ e.ports.get p with tether := y } : Port)) h))

/-- With no pending trigger and no want an examination finds nothing to do (R84). -/
theorem Ev.examine_nothing (e : Ev) (p : PortId) (hqueue : (e.port p).capture.queue = [])
    (hwant : (e.port p).capture.want = none) : e.examine p = e := by
  simp [Ev.examine, hqueue, Ev.examineHeads, Ev.endExamination, hwant]

theorem Ev.handIn_nothing (e : Ev) (p : PortId) (h : (e.port p).mayHandIn = false) : e.handIn p = e := by
  simp [Ev.handIn, h]

theorem Port.mayHandIn_of_state (x : Port) (h : x.lens.state ≠ .moveWait) : x.mayHandIn = false := by
  simp [Port.mayHandIn, h]

/-- A head that does not fit the headroom is left where it is (R60). -/
theorem Ev.serve_nothing (e : Ev) (h : ∀ a ∈ e.pool.queue.head?, e.fits a.amount = false) : e.serve = e := by
  unfold Ev.serve
  cases hqueue : e.pool.queue with
  | nil => rfl
  | cons a rest => simp [Ev.servePass, hqueue, h a (by simp [hqueue])]

theorem Ev.outputServe_nothing (e : Ev)
    (h : e.output.sending ≠ none ∨ e.output.holdPin = true ∨ e.outputPick = none) : e.outputServe = e := by
  unfold Ev.outputServe
  obtain h | h | h := h
  · simp [Option.isSome_iff_ne_none.mpr h]
  · simp [h]
  · simp [h]

theorem Ev.meterServe_busy (e : Ev) (h : e.meter.holder ≠ none) : e.meterServe = e :=
  if_pos (Option.isSome_iff_ne_none.mpr h)

/-- With no calibration pending, no LIVE place occupied and nothing offered the meter stays idle (R144). -/
theorem Ev.meterServe_unasked (e : Ev) (hcal : e.meter.pendingCal = false)
    (hlive : e.meter.livePlaces = Vector.replicate 8 false) (hoffered : e.meter.offered = none) : e.meterServe = e := by
  have hpick : e.meter.livePick = none := by
    rw [Meter.livePick, List.find?_eq_none]
    simp [hlive, Vector.get_eq_getElem]
  simp [Ev.meterServe, hcal, Ev.meterPick, hpick, hoffered]

theorem Ev.idle_channel (e : Ev) (p : PortId) (h : (e.port p).tether.startChannel = (e.port p).tether) :
    e.Idle (.channel p) := fun l => Ev.startChannel_same { e with todo := l } p h

theorem Ev.idle_examine (e : Ev) (p : PortId) (hqueue : (e.port p).capture.queue = [])
    (hwant : (e.port p).capture.want = none) : e.Idle (.examine p) := fun l =>
  Ev.examine_nothing { e with todo := l } p hqueue hwant

theorem Ev.idle_handIn (e : Ev) (p : PortId) (h : (e.port p).mayHandIn = false) : e.Idle (.handIn p) := fun l =>
  Ev.handIn_nothing { e with todo := l } p h

theorem Ev.idle_serve (e : Ev) (h : ∀ a ∈ e.pool.queue.head?, e.fits a.amount = false) : e.Idle .serve := fun l =>
  Ev.serve_nothing { e with todo := l } h

theorem Ev.idle_output (e : Ev)
    (h : e.output.sending ≠ none ∨ e.output.holdPin = true ∨ e.outputPick = none) : e.Idle .output := fun l =>
  Ev.outputServe_nothing { e with todo := l } h

theorem Ev.idle_meter_unasked (e : Ev) (hcal : e.meter.pendingCal = false)
    (hlive : e.meter.livePlaces = Vector.replicate 8 false) (hoffered : e.meter.offered = none) : e.Idle .meter := fun l =>
  Ev.meterServe_unasked { e with todo := l } hcal hlive hoffered

/-! ### How an event ends -/

/-- The end of an event: its state with its notices joined (R184). -/
theorem Ev.finish_noticed (e : Ev) : e.finish = e.toState.noticed e.notices := rfl

/-- A block's event whose work ends in e, where the blocks run. -/
theorem State.blockEvent_noticed (s t : State) {act : Ev → Ev} {e₀ e : Ev} {l : List Notice} (hs : s.running)
    (hact : act s.begin = e₀) (hsettle : e₀.settle = e) (hnotices : e.notices = l := by rfl)
    (ht : e.toState = t := by rfl) : s.blockEvent act = t.noticed l := by
  rw [s.blockEvent_running act hs, State.event, hact, hsettle, Ev.finish_noticed, hnotices, ht]

/-- The same without notices. -/
theorem State.blockEvent_silent (s t : State) {act : Ev → Ev} {e₀ e : Ev} (hs : s.running)
    (hact : act s.begin = e₀) (hsettle : e₀.settle = e) (hoffers : e.offers = [] := by rfl)
    (hpool : e.poolOffers = [] := by rfl) (ht : e.toState = t := by rfl) : s.blockEvent act = t := by
  rw [s.blockEvent_running act hs, State.event, hact, hsettle, Ev.finish_quiet _ hoffers hpool, ht]

/-- A block's event that leaves no work and offers no notice. -/
theorem State.blockEvent_quiet (s t : State) {act : Ev → Ev} {e : Ev} (hs : s.running) (hact : act s.begin = e)
    (htodo : e.todo = [] := by rfl) (hoffers : e.offers = [] := by rfl) (hpool : e.poolOffers = [] := by rfl)
    (ht : e.toState = t := by rfl) : s.blockEvent act = t :=
  s.blockEvent_silent t hs hact (Ev.settle_done e htodo) hoffers hpool ht

/-- A request whose answer is written and whose work ends in e. -/
theorem State.hubRequest_noticed (s t : State) {code : Byte} {h : ReqHeader} {body : Ev → Ev × Answer} {a : Ev × Answer}
    {e : Ev} {l : List Notice} (hs : s.listens) (hb : body s.begin.countTaken = a)
    (hsettle : (Ev.respond code h a).settle = e) (hnotices : e.notices = l := by rfl) (ht : e.toState = t := by rfl) :
    s.hubRequest code h body = t.noticed l := by
  rw [s.hubRequest_listens _ _ _ hs, State.event, hb, hsettle, Ev.finish_noticed, hnotices, ht]

/-- The same of a request that names a port. -/
theorem State.portRequest_noticed (s t : State) {code : Byte} {h : ReqHeader} {body : PortId → Ev → Ev × Answer}
    {p : PortId} {a : Ev × Answer} {e : Ev} {l : List Notice} (hs : s.listens) (hp : portOf h.port = some p)
    (hb : body p s.begin.countTaken = a) (hsettle : (Ev.respond code h a).settle = e)
    (hnotices : e.notices = l := by rfl) (ht : e.toState = t := by rfl) : s.portRequest code h body = t.noticed l :=
  s.hubRequest_noticed t hs (by simp only [hp, hb]) hsettle hnotices ht

/-- A request whose work ends in e, without notices. -/
theorem State.hubRequest_silent (s t : State) {code : Byte} {h : ReqHeader} {body : Ev → Ev × Answer} {a : Ev × Answer}
    {e : Ev} (hs : s.listens) (hb : body s.begin.countTaken = a) (hsettle : (Ev.respond code h a).settle = e)
    (hoffers : e.offers = [] := by rfl) (hpool : e.poolOffers = [] := by rfl) (ht : e.toState = t := by rfl) :
    s.hubRequest code h body = t := by
  rw [s.hubRequest_listens _ _ _ hs, State.event, hb, hsettle, Ev.finish_quiet _ hoffers hpool, ht]

theorem State.portRequest_silent (s t : State) {code : Byte} {h : ReqHeader} {body : PortId → Ev → Ev × Answer}
    {p : PortId} {a : Ev × Answer} {e : Ev} (hs : s.listens) (hp : portOf h.port = some p)
    (hb : body p s.begin.countTaken = a) (hsettle : (Ev.respond code h a).settle = e)
    (hoffers : e.offers = [] := by rfl) (hpool : e.poolOffers = [] := by rfl) (ht : e.toState = t := by rfl) :
    s.portRequest code h body = t :=
  s.hubRequest_silent t hs (by simp only [hp, hb]) hsettle hoffers hpool ht

/-! ### The class of a packet (R4) -/

theorem upKind_image (b : Byte) : (upKind b).role = .image ↔ b = 0x20 ∨ b = 0x21 ∨ b = 0x22 := by
  revert b
  decide

theorem upKind_frameStart (b : Byte) : upKind b = .frameStart ↔ b = 0x20 := by
  revert b
  decide

theorem upKind_line (b : Byte) : upKind b = .line ↔ b = 0x21 := by
  revert b
  decide

theorem upPayload_length (bytes : List Byte) : (upPayload bytes).length = bytes.length - 12 := by
  simp only [upPayload, List.length_take, List.length_drop]
  omega

/-- A packet whose CRC-32 can be read is too short for its kind below 16 bytes, a LINE at 12 (R4). -/
theorem crcBad_iff (bytes : List Byte) :
    crcBad bytes = true ↔
      bytes.length < 12 ∨ crc32Bytes (bytes.take (bytes.length - 4)) ≠ bytes.drop (bytes.length - 4)
        ∨ (byteAt bytes 0 = 0x20 ∧ bytes.length < 16) ∨ (byteAt bytes 0 = 0x21 ∧ bytes.length = 12) := by
  have hempty : (upPayload bytes).isEmpty = true ↔ bytes.length ≤ 12 := by
    rw [List.isEmpty_iff, ← List.length_eq_zero_iff, upPayload_length]
    omega
  simp only [crcBad, Bool.or_eq_true, Bool.and_eq_true, Bool.not_eq_true', decide_eq_true_eq, decide_eq_false_iff_not,
    upKind_frameStart, upKind_line, upPayload_length, hempty]
  by_cases h12 : bytes.length < 12
  · simp [h12]
  · have h4 : bytes.length - 12 < 4 ↔ bytes.length < 16 := by omega
    have h0 : bytes.length ≤ 12 ↔ bytes.length = 12 := by omega
    simp only [h12, h4, h0, false_or, or_assoc]

/-- Settles O41: test by test, with the kinds as their codes and the payloads as their lengths. -/
theorem packetsAreClassified : Obligations.PacketsAreClassified := by
  intro held ending bytes
  have hheader : (!headerComplete bytes) = true ↔ bytes.length < 8 := by simp [headerComplete]
  simp only [classify, hheader, upKind_image, crcBad_iff]

/-! ### The soft reset (R189) -/

/-- Settles O23: a soft reset has the stated values, block by block. -/
theorem restartKeepsTheCableKnowledge : Obligations.RestartKeepsTheCableKnowledge := by
  intro h s hs
  refine ⟨_, congrArg Host.Outcome.next
    ((if_neg (by simp [hs.1.1])).trans (if_pos (hs.mayTake 0x02)) : s.restart h = _), ?_⟩
  refine ⟨rfl, ?_, ?_, ?_, rfl, rfl, rfl, rfl, rfl, rfl, rfl, rfl, rfl, rfl, rfl, rfl, rfl, rfl, rfl, rfl, rfl, rfl, rfl,
    rfl, rfl, fun p => ?_⟩
  · simp [State.usClock, State.softReset]
  · simp [State.msClock, State.softReset]
  · simp [State.attn, State.softReset, hs.1.1]
  · simp [State.port, State.softReset, Port.softReset, Vector.get_eq_getElem]

end Sys2Proof.Machine
end

section
/-! The timebase (R144, R145, R150, R151) and the trigger router (R73 to R78). -/

namespace Sys2Proof.Machine

set_option Elab.async false

theorem Ev.onExpiry_some (e : Ev) (act : Ev → Ev) {timer : Option Nat} {d : Nat} (h : timer = some d) :
    e.onExpiry timer act = act (e.reach d) := by
  rw [h, Ev.onExpiry_running]

/-! ### Calibrations -/

theorem Ev.meterServe_calibration (e : Ev) (hholder : e.meter.holder = none) (hcal : e.meter.pendingCal = true) :
    e.meterServe = e.updMeter fun m =>
      { m with pendingCal := false, holder := some (.calibration, e.time + Config.shotTime) } := by
  simp [Ev.meterServe, hholder, hcal]

/-- A valid calibration: 960 to 1600 ticks and a loop of at most 255 (R150). -/
theorem calibrationCause_noCause {n loop : Nat} (hlow : 960 ≤ n) (hhigh : n ≤ 1600) (hloop : loop ≤ 255) :
    calibrationCause (min n 4095) (min loop 256) = .noCause := by
  have h1 : min n 4095 = n := by omega
  have h2 : min loop 256 = loop := by omega
  simp only [calibrationCause, h1, h2]
  rw [if_neg (by omega), if_neg (by omega), if_neg (by omega), if_neg (by omega)]

/-- The cause of an invalid calibration, the first test that fails (R150). -/
theorem calibrationCause_invalid {n loop : Nat} (h : (n < 960 ∨ 1600 < n) ∨ 255 < loop) :
    calibrationCause (min n 4095) (min loop 256)
      = if n = 0 then .noReference else if 4095 ≤ n then .overflow else if n < 960 ∨ 1600 < n then .outOfRange
        else .loopOverflow := by
  have h0 : min n 4095 = 0 ↔ n = 0 := by omega
  have h1 : min n 4095 = 4095 ↔ 4095 ≤ n := by omega
  have h2 : 255 < min loop 256 ↔ 255 < loop := by omega
  simp only [calibrationCause, h0, h1, h2]
  split
  · rfl
  · split
    · rfl
    · rename_i hbelow
      have h3 : min n 4095 = n := by omega
      rw [h3]
      split
      · rfl
      · rw [if_pos (by omega)]

theorem ite_ne_noCause {n : Nat} :
    (if n = 0 then TimebaseCause.noReference else if 4095 ≤ n then .overflow else if n < 960 ∨ 1600 < n then .outOfRange
        else .loopOverflow) ≠ .noCause := by
  repeat' split
  all_goals exact fun h => nomatch h

/-- A calibration that completes: its record stands and the meter is idle again, with no one waiting for it. -/
theorem exec_calibrationComplete (s : State) (d n loop : Nat) (hs : s.running)
    (hholder : s.meter.holder = some (.calibration, d)) (hcal : s.meter.pendingCal = false)
    (hlive : s.meter.livePlaces = Vector.replicate 8 false) (hoffered : s.meter.offered = none) :
    exec (.calibrationComplete n loop) s = .next { s with
      time := max s.time d
      meter := { s.meter with
        holder := none
        timebase := calibrate n loop (max s.time d)
        counters :=
          if (calibrate n loop (max s.time d)).valid then
            { s.meter.counters with calValid := bump s.meter.counters.calValid }
          else { s.meter.counters with calInvalid := bump s.meter.counters.calInvalid } } } := by
  have hdone : s.begin.calibrationDone n loop
      = ((((s.begin.reach d).recordCalibration n loop).updMeter fun m => { m with holder := none }).push .meter) := by
    simp only [Ev.calibrationDone, show s.begin.meter = s.meter from rfl, hholder]
  exact congrArg Host.Outcome.next (s.blockEvent_silent _ hs hdone (Ev.settle_last _ .meter rfl
    (Ev.meterServe_unasked _ hcal hlive hoffered) rfl))

/-- Settles O29: the meter's pick for a pending calibration, and the record a completed one leaves. -/
theorem calibrationsSetTheTimebase : Obligations.CalibrationsSetTheTimebase := by
  refine ⟨fun h s hs => ?_, fun s hs hholder hcal => ?_, fun s d n loop hs hholder hcal hlive hoffered h1 h2 h3 => ?_,
    fun s d n loop hs hholder hcal hlive hoffered h1 => ?_, fun s d hs htimer => ?_⟩
  · refine ⟨fun hholder => ?_, fun hholder => ?_⟩
    · exact congrArg Host.Outcome.next (s.hubRequest_silent _ hs rfl
        (by exact Ev.settle_last _ .meter rfl (Ev.meterServe_calibration _ hholder rfl) rfl))
    · exact congrArg Host.Outcome.next (s.hubRequest_silent _ hs rfl
        (by exact Ev.settle_last _ .meter rfl (Ev.meterServe_busy _ hholder) rfl))
  · exact congrArg Host.Outcome.next (s.blockEvent_quiet _ hs (Ev.meterServe_calibration _ hholder hcal))
  · rw [exec_calibrationComplete s d n loop hs hholder hcal hlive hoffered]
    have hcause := calibrationCause_noCause h1 h2 h3
    have hn : min n 4095 = n := by omega
    have hloop : min loop 256 = loop := by omega
    rw [hn, hloop] at hcause
    simp only [calibrate, hn, hloop, hcause, decide_true, if_true, if_neg (Nat.not_lt.mpr h3)]
    rfl
  · rw [exec_calibrationComplete s d n loop hs hholder hcal hlive hoffered]
    have hcause := calibrationCause_invalid h1
    have hloop : (if 255 < min loop 256 then 0 else min loop 256) = if 255 < loop then 0 else loop := by
      split_ifs <;> omega
    refine ⟨_, _, ?_, rfl, rfl⟩
    simp only [calibrate, hcause, hloop, ite_ne_noCause, decide_false, if_false, Bool.false_eq_true]
    rfl
  · exact congrArg Host.Outcome.next (s.blockEvent_quiet _ hs (Ev.onExpiry_some _ _ htimer))

/-! ### Triggers of sources whose port mask is empty (R78) -/

/-- The router after a trigger of a source (R78). -/
def Router.given (r : Router) (source : Source) : Router :=
  { r with tagCounter := r.tagCounter + 1
           counters := modifyAt r.counters source.index fun c => { c with accepted := bump c.accepted } }

theorem Ev.giveTrigger_unmapped (e : Ev) (source : Source) (h : e.router.map.get source.index = 0) :
    e.giveTrigger source = e.updRouter fun r => r.given source := by
  have hports : maskPorts (0 : Byte) = [] := by decide
  rw [Ev.giveTrigger, h, hports]
  rfl

/-- The counters of a source after a soft trigger of it (R76, R78). -/
def SourceCounters.softGiven (c : SourceCounters) : SourceCounters :=
  { c with accepted := bump c.accepted, soft := bump c.soft }

/-- The router after a soft trigger of each source of a list (R76). -/
def Router.softGiven (r : Router) (l : List Source) : Router :=
  { r with
    tagCounter := r.tagCounter + BitVec.ofNat 16 l.length
    counters := l.foldl (fun c x => modifyAt c x.index SourceCounters.softGiven) r.counters }

theorem Ev.softTriggers_unmapped (l : List Source) (e : Ev) (h : ∀ x ∈ l, e.router.map.get x.index = 0) :
    l.foldl Ev.softTrigger e = e.updRouter fun r => r.softGiven l := by
  induction l generalizing e with
  | nil => simp [Ev.updRouter, Router.softGiven]
  | cons x rest ih =>
    have hone : e.softTrigger x = e.updRouter fun r =>
        { r with tagCounter := r.tagCounter + 1, counters := modifyAt r.counters x.index SourceCounters.softGiven } := by
      refine (Ev.giveTrigger_unmapped _ x (by exact h x List.mem_cons_self)).trans ?_
      simp only [Ev.updRouter, Router.given, modifyAt_twice]
      rfl
    have htag : ∀ t : Half, t + 1 + BitVec.ofNat 16 rest.length = t + BitVec.ofNat 16 (rest.length + 1) := by
      intro t
      rw [Nat.add_comm, BitVec.ofNat_add, BitVec.add_assoc]
      rfl
    rw [List.foldl_cons, hone]
    refine (ih _ (by exact fun y hy => h y (List.mem_cons_of_mem _ hy))).trans ?_
    simp only [Ev.updRouter, Router.softGiven, List.length_cons, List.foldl_cons, htag]

/-- Each entry of a vector changes once where the indices of a list differ. -/
theorem foldl_modifyAt_get {ι α : Type} {n : Nat} (index : ι → Fin n) (f : α → α) (l : List ι) (v : Vector α n)
    (hl : (l.map index).Nodup) (i : Fin n) :
    (l.foldl (fun c x => modifyAt c (index x) f) v).get i = if i ∈ l.map index then f (v.get i) else v.get i := by
  induction l generalizing v with
  | nil => simp
  | cons x rest ih =>
    obtain ⟨hx, hrest⟩ := List.nodup_cons.mp hl
    rw [List.foldl_cons, ih _ hrest]
    by_cases hi : i = index x
    · subst hi
      rw [if_neg hx, modifyAt_get, if_pos (by simp)]
    · rw [modifyAt_get_other _ _ _ _ hi]
      simp only [List.map_cons, List.mem_cons, hi, false_or]

theorem maskSources_index (mask : Byte) :
    (maskSources mask).map Source.index = (List.finRange 5).filter fun i => mask.getLsbD i.val := by
  have h : List.finRange 5 = allSources.map Source.index := by decide
  rw [h, List.filter_map]
  rfl

theorem mem_maskSources_index (mask : Byte) (i : Fin 5) :
    i ∈ (maskSources mask).map Source.index ↔ mask.getLsbD i.val = true := by
  rw [maskSources_index]
  simp

theorem maskSources_index_nodup (mask : Byte) : ((maskSources mask).map Source.index).Nodup := by
  rw [maskSources_index]
  exact (List.nodup_finRange 5).filter _

theorem maskSources_length (mask : Byte) :
    (maskSources mask).length = ((List.range 5).filter fun k => mask.getLsbD k).length := by
  have h : List.range 5 = allSources.map fun x => x.index.val := by decide
  rw [h, List.filter_map, List.length_map]
  rfl

/-- Settles O30: the sources of the mask one by one, each raising the tag counter by one. -/
theorem triggerGivesConsecutiveTags : Obligations.TriggerGivesConsecutiveTags := by
  refine fun h mask s hs => ⟨fun hbad => ?_, fun h0 h32 hconfig => ?_, fun h0 h32 hrun hmap => ?_⟩
  · exact congrArg Host.Outcome.next (s.hubRequest_quiet _ hs (if_pos hbad) rfl rfl rfl rfl)
  · have hgood : ¬ (mask = 0 ∨ 32 ≤ mask.toNat) := by
      rintro (h | h)
      · exact h0 h
      · omega
    have hop : ¬ s.link.opState = .run := by simp [hconfig]
    exact congrArg Host.Outcome.next (s.hubRequest_quiet _ hs ((if_neg hgood).trans (if_neg hop)) rfl rfl rfl rfl)
  · have hgood : ¬ (mask = 0 ∨ 32 ≤ mask.toNat) := by
      rintro (h | h)
      · exact h0 h
      · omega
    have hmapped : ∀ x ∈ maskSources mask, s.router.map.get x.index = 0 := fun x hx =>
      hmap _ ((mem_maskSources_index mask _).mp (List.mem_map_of_mem hx))
    have hn := maskSources_length mask
    have hbody : s.begin.countTaken.trigger mask = _ :=
      (if_neg hgood).trans ((if_pos hrun).trans (congrArg (·, _) (Ev.softTriggers_unmapped _ _ hmapped)))
    refine ⟨(maskSources mask).length, (s.router.softGiven (maskSources mask)).counters, hn, fun i => ?_,
      congrArg Host.Outcome.next ((s.hubRequest_quiet
        { s with router := s.router.softGiven (maskSources mask) } hs hbody rfl rfl rfl rfl).trans ?_)⟩
    · refine (foldl_modifyAt_get _ _ _ _ (maskSources_index_nodup mask) i).trans ?_
      simp only [mem_maskSources_index]
      rfl
    · simp only [listField, consecutiveTags, List.length_map, List.length_range, List.flatMap_map]
      rfl

/-! ### Pins and the period timer (R74, R75) -/

/-- An edge that the selection of a pin names (R74). -/
theorem EdgeSelection.names_iff (x : EdgeSelection) (rising : Bool) :
    x.names rising = true ↔
      match x with
      | .off => False | .rising => rising = true | .falling => rising = false | .both => True := by
  cases x <;> simp [EdgeSelection.names]

theorem EdgeSelection.not_names_iff (x : EdgeSelection) (rising : Bool) :
    ¬ x.names rising = true ↔
      match x with
      | .off => True | .rising => rising = false | .falling => rising = true | .both => False := by
  cases x <;> simp [EdgeSelection.names]

theorem sourceOfPin_index_eq (pin : Fin 4) : (sourceOfPin pin).index = pin.castSucc := Fin.ext (sourceOfPin_index pin)

/-- Settles O31: the tests of an edge in order, and the two timers of the router. -/
theorem pinsAndPeriodGiveTriggers : Obligations.PinsAndPeriodGiveTriggers := by
  refine ⟨fun s pin rising hs => ⟨fun hnot => ?_, fun hrun hedge => ⟨fun htimer => ?_, fun htimer hmap => ?_⟩⟩,
    fun s pin d hs htimer => ?_, fun s d hs htimer hmap => ?_⟩
  · have hskip : ¬ (s.link.opState = .run ∧ (s.router.pins.get pin).edge.names rising = true) := by
      obtain h | h := hnot
      · simp [h]
      · exact fun ⟨_, hn⟩ => (EdgeSelection.not_names_iff _ _).mpr h hn
    exact congrArg Host.Outcome.next (s.blockEvent_quiet _ hs (if_neg hskip))
  · have hcounts := And.intro hrun ((EdgeSelection.names_iff _ _).mpr hedge)
    rw [← sourceOfPin_index_eq]
    exact congrArg Host.Outcome.next (s.blockEvent_quiet _ hs
      ((if_pos hcounts).trans (if_pos (Option.isSome_iff_ne_none.mpr htimer))))
  · have hcounts := And.intro hrun ((EdgeSelection.names_iff _ _).mpr hedge)
    have hidle : ¬ (s.router.pins.get pin).timer.isSome = true := by simp [htimer]
    rw [← sourceOfPin_index_eq] at hmap ⊢
    exact congrArg Host.Outcome.next (s.blockEvent_quiet _ hs
      ((if_pos hcounts).trans ((if_neg hidle).trans
        (congrArg (Ev.updRouter · _) (Ev.giveTrigger_unmapped _ _ hmap)))))
  · exact congrArg Host.Outcome.next (s.blockEvent_quiet _ hs (Ev.onExpiry_some _ _ htimer))
  · exact congrArg Host.Outcome.next (s.blockEvent_quiet _ hs
      ((Ev.onExpiry_some _ _ htimer).trans (Ev.giveTrigger_unmapped _ .period hmap)))

end Sys2Proof.Machine
end

section
/-! The downstream channel (R20, R21, R24). -/

namespace Sys2Proof.Machine

set_option Elab.async false

theorem Ev.updTether_twice (e : Ev) (p : PortId) (f g : Tether → Tether) :
    (e.updTether p f).updTether p g = e.updTether p fun t => g (f t) := by
  simp only [Ev.updTether, Ev.updPort, modifyAt_twice]

/-! ### Starts (R21) -/

/-- A channel with nothing due and an empty queue starts nothing (R21). -/
theorem Tether.startChannel_empty (t : Tether) (hqueue : t.queue = []) (hwake : t.wakeDue = false)
    (hcredit : t.creditDue = false) : t.startChannel = t := by
  unfold Tether.startChannel Tether.startIdle Tether.startHead
  rw [hqueue, hwake, hcredit]
  split
  · rfl
  · cases t.link <;> rfl

theorem Tether.startChannel_wake (t : Tether) (hidle : t.channel = none) (hlink : t.link = .waking)
    (hwake : t.wakeDue = true) : t.startChannel = t.startWake := by
  simp [Tether.startChannel, hidle, Tether.startIdle, hlink, hwake]

theorem Tether.startChannel_credit (t : Tether) (hidle : t.channel = none) (hlink : t.link = .up)
    (hcredit : t.creditDue = true) : t.startChannel = t.startCredit := by
  simp [Tether.startChannel, hidle, Tether.startIdle, hlink, hcredit]

theorem Tether.startChannel_head (t : Tether) (hidle : t.channel = none)
    (hlink : t.link = .locking ∨ t.link = .up ∧ t.creditDue = false) : t.startChannel = t.startHead := by
  obtain h | ⟨h, hcredit⟩ := hlink
  · simp [Tether.startChannel, hidle, Tether.startIdle, h]
  · simp [Tether.startChannel, hidle, Tether.startIdle, h, hcredit]

/-- Whether a head may start, in the answer kinds of the table (R21). -/
theorem Tether.mayStart_eq (t : Tether) (k : DownPacket) :
    t.mayStart k =
      match k with
      | .trigger .. => true
      | .lensMove .. | .lensHome .. =>
          t.outstanding.all fun o => decide (o.kind ≠ .lensMove) && decide (o.kind ≠ .lensHome)
      | .camRead .. | .camWrite .. =>
          decide ((t.outstanding.filter fun o => decide (o.kind = .camRead) || decide (o.kind = .camWrite)).length < 3) := by
  have hlens : (fun o : Outstanding => !o.kind.isLens)
      = fun o => decide (o.kind ≠ .lensMove) && decide (o.kind ≠ .lensHome) := by
    funext o
    cases o.kind <;> rfl
  have haccess : (fun o : Outstanding => !o.kind.isLens)
      = fun o => decide (o.kind = .camRead) || decide (o.kind = .camWrite) := by
    funext o
    cases o.kind <;> rfl
  cases k <;> simp only [Tether.mayStart, List.not_any_eq_all_not, hlens, ← haccess]

/-- The rows of the starts run the channel's own operation. -/
theorem State.startChannel_eq (s : State) (p : PortId) {act : Ev → Ev} {f : Tether → Tether} (hs : s.running)
    (hact : act s.begin = s.begin.startChannel p) (h : (s.port p).tether.startChannel = f (s.port p).tether) :
    s.blockEvent act = s.onTether p f :=
  s.blockEvent_quiet _ hs hact rfl rfl rfl (s.onTether_congr p h)

/-- Nothing is sent while the channel is busy (R21). -/
theorem State.startChannel_busy (s : State) (p : PortId) {act : Ev → Ev} (hs : s.running)
    (hact : act s.begin = s.begin.startChannel p ∨ act s.begin = s.begin) (hbusy : (s.port p).tether.channel ≠ none) :
    s.blockEvent act = s := by
  refine s.blockEvent_quiet s (e := s.begin) hs ?_
  obtain h | h := hact
  · exact h.trans (s.begin.startChannel_same p (Tether.startChannel_busy _ hbusy))
  · exact h

theorem ite_or {P : Prop} [Decidable P] {α : Type} (x y : α) : (if P then x else y) = x ∨ (if P then x else y) = y := by
  split <;> simp

/-! ### The end of a packet (R24, R137) -/

theorem outstandingOf_tagged {k : DownPacket} {tag : Byte} {kind : AnswerKind} (htag : k.tag? = some tag)
    (hkind : k.answerKind? = some kind) (now : Nat) :
    outstandingOf k now = [{ tag := tag, kind := kind, deadline := now + kind.deadline }] := by
  simp [outstandingOf, htag, hkind]

/-- The tagged packets, with the answers they await and the time each may take (R24). -/
theorem taggedPacket_deadline {k : DownPacket} {tag : Byte} {kind : AnswerKind} {deadline : Nat}
    (h : (k, kind, deadline) ∈ [(DownPacket.lensHome tag, AnswerKind.lensHome, 5000000)]
      ∨ (∃ target, (k, kind, deadline) = (.lensMove tag target, .lensMove, 2000000))
      ∨ (∃ param, (k, kind, deadline) = (.camRead tag param, .camRead, 100000))
      ∨ (∃ param value, (k, kind, deadline) = (.camWrite tag param value, .camWrite, 100000))) :
    k.tag? = some tag ∧ k.answerKind? = some kind ∧ kind.deadline = deadline := by
  obtain h | ⟨target, h⟩ | ⟨param, h⟩ | ⟨param, value, h⟩ := h
  · obtain ⟨rfl, rfl, rfl⟩ : k = _ ∧ kind = _ ∧ deadline = _ := by simpa using h
    exact ⟨rfl, rfl, rfl⟩
  all_goals
    cases h
    exact ⟨rfl, rfl, rfl⟩

/-- Settles O40: the channel's own operation link state by link state, and what the end of each item does. -/
theorem channelSendsInOrder : Obligations.ChannelSendsInOrder := by
  refine fun s p hs => ⟨fun hbusy => ⟨?_, ?_, ?_⟩, fun hidle hlink hwake => ?_, fun hidle hlink hcredit => ?_,
    fun k rest hidle hlink hqueue => ?_, fun i hchannel hqueue hwake hcredit => ⟨fun hi => ?_,
      fun k tag kind deadline hk hi => ?_⟩⟩
  · exact congrArg Host.Outcome.next (s.startChannel_busy p hs (ite_or _ _) hbusy)
  · exact congrArg Host.Outcome.next (s.startChannel_busy p hs (ite_or _ _) hbusy)
  · exact congrArg Host.Outcome.next (s.startChannel_busy p hs (ite_or _ _) hbusy)
  · exact congrArg Host.Outcome.next (s.startChannel_eq p hs (if_pos hlink)
      (Tether.startChannel_wake _ hidle hlink hwake))
  · exact congrArg Host.Outcome.next (s.startChannel_eq p hs (if_pos ⟨hlink, hcredit⟩)
      (Tether.startChannel_credit _ hidle hlink hcredit))
  · have hhead : (s.port p).tether.startChannel = _ :=
      (Tether.startChannel_head _ hidle hlink).trans (by rw [Tether.startHead, hqueue])
    have hexec : exec (.downQueueStart p) s = .next (if (s.port p).tether.mayStart k = true then
        s.onTether p fun t => { t with channel := some (.packet k), queue := rest } else s) := by
      split
      · next h =>
        exact congrArg Host.Outcome.next (s.startChannel_eq p hs (if_pos hlink) (hhead.trans (if_pos h)))
      · next h =>
        exact congrArg Host.Outcome.next ((s.startChannel_eq (f := id) p hs (if_pos hlink)
          (hhead.trans (if_neg h))).trans (s.onTether_same p rfl))
    rw [Tether.mayStart_eq] at hexec
    exact hexec
  · have hact : s.begin.downSent p = (s.begin.updTether p fun t => { t with channel := none }).push (.channel p) := by
      obtain rfl | ⟨n, rfl⟩ | ⟨tag, exposure, rfl⟩ := hi <;> simp only [Ev.downSent, State.begin_port, hchannel]
      simp [Ev.packetSent, outstandingOf, DownPacket.tag?, Ev.updTether_twice]
    exact congrArg Host.Outcome.next (s.blockEvent_silent _ hs hact (Ev.settle_last _ (.channel p) rfl
      (Ev.startChannel_same _ p (Tether.startChannel_empty _ (by simpa using hqueue) (by simpa using hwake)
        (by simpa using hcredit))) rfl))
  · have ⟨htag, hkind, hdeadline⟩ := taggedPacket_deadline hk
    subst hi hdeadline
    have hact : s.begin.downSent p
        = ((s.begin.updTether p fun t =>
            { t with channel := none
                     outstanding := t.outstanding ++ [{ tag := tag, kind := kind, deadline := s.time + kind.deadline }]
            }).relaySent p tag).push (.channel p) := by
      simp only [Ev.downSent, State.begin_port, hchannel, Ev.packetSent, htag, outstandingOf_tagged htag hkind,
        Ev.updTether_twice]
      rfl
    exact congrArg Host.Outcome.next (s.blockEvent_silent _ hs hact (Ev.settle_last _ (.channel p) rfl
      (Ev.startChannel_same _ p (Tether.startChannel_empty _ (by simpa [Ev.relaySent] using hqueue)
        (by simpa [Ev.relaySent] using hwake) (by simpa [Ev.relaySent] using hcredit))) rfl))

end Sys2Proof.Machine
end

section
/-! The check of R31, and the requests and timers that take ports through it (R31 to R47, R69, R187). -/

namespace Sys2Proof.Machine

set_option Elab.async false

/-! ### The check of R31 -/

/-- The check of R31: the port's column is checked and its POWER_CHANGE is marked. -/
theorem Ev.probeCheck_eq (e : Ev) (p : PortId) (cause : PowerCause) :
    e.probeCheck p cause = (e.updPort p fun x => x.checked e.pool.feedEnable e.time).markPower p cause := by
  have hcheck {f : Port → Port} (hf : f (e.port p) = (e.port p).checked e.pool.feedEnable e.time) :
      (e.updPort p f).markPower p cause
        = (e.updPort p fun x => x.checked e.pool.feedEnable e.time).markPower p cause :=
    congrArg (fun v => ({ e with ports := v } : Ev).markPower p cause) (modifyAt_congr e.ports p hf)
  unfold Ev.probeCheck
  split
  · next hdiag => exact hcheck (if_pos hdiag).symm
  · next hdiag =>
    split
    · next henable => exact hcheck ((if_neg hdiag).trans (if_pos henable)).symm
    · next henable =>
      refine Eq.trans ?_ (hcheck (f := fun x =>
        { x with feed := { x.feed.enter .probing with probeTimer := some (e.time + 20000) } })
          ((if_neg hdiag).trans (if_neg henable)).symm)
      exact congrArg (fun v => ({ e with ports := v } : Ev).markPower p cause) (modifyAt_twice e.ports p
        (fun x => { x with feed := x.feed.enter .probing })
        (fun x => { x with feed := { x.feed with probeTimer := some (e.time + 20000) } }))

/-- The columns after the check of R31 of each port of a list. -/
def checkedPorts (feedEnable : Bool) (now : Nat) (l : List PortId) (v : Vector Port 8) : Vector Port 8 :=
  l.foldl (fun c p => modifyAt c p fun x => x.checked feedEnable now) v

theorem checkedPorts_get (feedEnable : Bool) (now : Nat) (l : List PortId) (v : Vector Port 8) (hl : l.Nodup)
    (p : PortId) :
    (checkedPorts feedEnable now l v).get p = if p ∈ l then (v.get p).checked feedEnable now else v.get p := by
  refine (foldl_modifyAt_get id (fun x : Port => x.checked feedEnable now) l v (by simpa using hl) p).trans ?_
  rw [List.map_id]

/-- The check of each port of a list, each marked once. -/
theorem Ev.probeChecks_eq (l : List PortId) (cause : PowerCause) (e : Ev) (hl : l.Nodup)
    (hoffers : ∀ p ∈ l, ∀ o ∈ e.offers, o.isPower p = false) :
    l.foldl (fun y p => y.probeCheck p cause) e
      = { e with ports := checkedPorts e.pool.feedEnable e.time l e.ports
                 offers := e.offers ++ l.map fun p => .power p cause } := by
  induction l generalizing e with
  | nil => simp [checkedPorts]
  | cons p rest ih =>
    obtain ⟨hp, hrest⟩ := List.nodup_cons.mp hl
    have hkept : (e.offers.filter fun o => !o.isPower p) = e.offers :=
      List.filter_eq_self.mpr fun o ho => by simp [hoffers p List.mem_cons_self o ho]
    have hone : e.probeCheck p cause
        = { e with ports := modifyAt e.ports p fun x => x.checked e.pool.feedEnable e.time
                   offers := e.offers ++ [.power p cause] } := by
      rw [Ev.probeCheck_eq]
      exact congrArg (fun l => ({ e with
        ports := modifyAt e.ports p fun x => x.checked e.pool.feedEnable e.time
        offers := l ++ [.power p cause] } : Ev)) hkept
    rw [List.foldl_cons, hone]
    refine (ih _ hrest fun q hq o ho => ?_).trans ?_
    · obtain ho | ho := List.mem_append.mp ho
      · exact hoffers q (List.mem_cons_of_mem _ hq) o ho
      · obtain rfl := List.mem_singleton.mp ho
        exact decide_eq_false fun h => hp (h ▸ hq)
    · simp [checkedPorts]

/-- The POWER_CHANGEs of marked ports, resolved at the end of the event (R30). -/
theorem powerOffers_resolve (before after : Vector Port 8) (l : List PortId) (cause : PowerCause) :
    (l.map fun p => Offer.power p cause).filterMap (Offer.resolve before after)
      = l.filterMap fun p => powerNotice (before.get p) (after.get p) p cause := by
  rw [List.filterMap_map]
  rfl

/-- The notice of the only marked port. -/
theorem powerOffer_resolve (before after : Vector Port 8) (p : PortId) (cause : PowerCause) :
    [Offer.power p cause].filterMap (Offer.resolve before after)
      = (powerNotice (before.get p) (after.get p) p cause).toList := by
  simp only [List.filterMap_cons, List.filterMap_nil, Offer.resolve]
  cases powerNotice (before.get p) (after.get p) p cause <;> rfl

/-! ### Timers and feed samples (R33, R35, R37, R38, R41) -/

/-- A port that goes through the check alone in its event, after a change of its feed controller that leaves what the
check reads. -/
theorem State.checkPort_eq (s : State) (p : PortId) (cause : PowerCause) (now : Nat) (upd : Feed → Feed) {act : Ev → Ev}
    (hs : s.running)
    (hact : act s.begin = (((s.begin.reach now).updFeed p upd).probeCheck p cause)) :
    s.blockEvent act =
      (({ s with time := max s.time now } : State).onPort p fun x =>
          ({ x with feed := upd x.feed }).checked s.pool.feedEnable (max s.time now)).noticed
        (powerNotice (s.port p) (({ s.port p with feed := upd (s.port p).feed }).checked s.pool.feedEnable
          (max s.time now)) p cause).toList := by
  have hend : act s.begin
      = { s.begin with time := max s.time now, offers := [.power p cause]
                       ports := modifyAt s.ports p fun x =>
                         ({ x with feed := upd x.feed }).checked s.pool.feedEnable (max s.time now) } := by
    rw [hact, Ev.probeCheck_eq]
    simp only [Ev.updFeed, Ev.updPort, Ev.markPower, Ev.reach, modifyAt_twice]
    rfl
  refine s.blockEvent_noticed _ hs hend (Ev.settle_done _ rfl) ?_ rfl
  refine (List.append_nil _).trans ((powerOffer_resolve _ _ p cause).trans ?_)
  simp only [modifyAt_get]
  rfl

/-- A change of the feed controller that the check of R31 neither reads nor writes. -/
theorem Port.checked_upd (x : Port) (feedEnable : Bool) (now : Nat) (upd : Feed → Feed)
    (h : ∀ st, (upd x.feed).enter st = upd (x.feed.enter st))
    (h' : ∀ t, { upd (x.feed.enter .probing) with probeTimer := t } = upd { x.feed.enter .probing with probeTimer := t }) :
    ({ x with feed := upd x.feed }).checked feedEnable now
      = { x with feed := upd (x.checked feedEnable now).feed } := by
  unfold Port.checked
  dsimp only
  split
  · rw [h]
  · split
    · rw [h]
    · rw [h, h']

/-- The feed controller of a checked port. -/
theorem Port.checked_feed (x : Port) (feedEnable : Bool) (now : Nat) :
    x.checked feedEnable now = { x with feed := (x.checked feedEnable now).feed } := by
  unfold Port.checked
  split_ifs <;> rfl

theorem Port.checked_pool (x : Port) (feedEnable : Bool) (now : Nat) : (x.checked feedEnable now).pool = x.pool := by
  rw [Port.checked_feed]

/-- The check, in the words of R31. -/
theorem Port.checked_feed_eq (x : Port) (feedEnable : Bool) (now : Nat) :
    (x.checked feedEnable now).feed
      = if x.cable.diag ≠ .clear then x.feed.enter .diagnosing
        else if feedEnable = false then x.feed.enter .poolHalt
        else { x.feed.enter .probing with probeTimer := some (now + 20000) } := by
  unfold Port.checked
  split_ifs <;> rfl

/-- A timer whose expiry takes a port through the check of R31, where it leaves what the check reads and what a
POWER_CHANGE tells. -/
theorem State.checkTimer_eq (s : State) (p : PortId) (cause : PowerCause) (now : Nat) (upd : Feed → Feed) (f : Feed)
    {act : Ev → Ev} (hs : s.running)
    (hact : act s.begin = (((s.begin.reach now).updFeed p upd).probeCheck p cause))
    (henter : ∀ st, (upd (s.port p).feed).enter st = upd ((s.port p).feed.enter st))
    (hprobe : ∀ t, { upd ((s.port p).feed.enter .probing) with probeTimer := t }
      = upd { (s.port p).feed.enter .probing with probeTimer := t })
    (hnotice : ∀ x : Port, powerNotice (s.port p) { x with feed := upd f } p cause
      = powerNotice (s.port p) { x with feed := f } p cause)
    (hf : f = if (s.port p).cable.diag ≠ .clear then (s.port p).feed.enter .diagnosing
      else if s.pool.feedEnable = false then (s.port p).feed.enter .poolHalt
      else { (s.port p).feed.enter .probing with probeTimer := some (max s.time now + 20000) }) :
    s.blockEvent act =
      (({ s with time := max s.time now } : State).onFeed p fun _ => upd f).noticed
        (powerNotice (s.port p) { s.port p with feed := f } p cause).toList := by
  have hcolumn : ({ s.port p with feed := upd (s.port p).feed }).checked s.pool.feedEnable (max s.time now)
      = { s.port p with feed := upd f } := by
    rw [Port.checked_upd _ _ _ _ henter hprobe, Port.checked_feed_eq, ← hf]
  rw [s.checkPort_eq p cause now upd hs hact, hcolumn, hnotice]
  exact congrArg (fun u : State => u.noticed _) (State.onPort_congr _ p hcolumn)

/-- A feed sample that is no overload is recorded, and taken again in 1 ms (R38). -/
theorem Ev.feedSample_counted (e : Ev) (p : PortId) (current : Half) {d : Nat} {f : Feed}
    (htimer : (e.port p).feed.sampleTimer = some d) (hsample : (e.port p).feed.sample current = (f, false)) :
    e.feedSample p current
      = (e.reach d).updFeed p fun _ => { f with sampleTimer := some (max e.time d + 1000) } := by
  refine (Ev.onExpiry_some _ _ htimer).trans ?_
  simp only [Ev.reach_port, hsample, Bool.false_eq_true, if_false]
  rfl

/-- Settles O45: the two timers of the check, the two that change the feed controller alone, and the feed sample. -/
theorem feedTimersAndSamples : Obligations.FeedTimersAndSamples := by
  intro s now p d hs hnow
  subst hnow
  refine ⟨fun f hf => ⟨fun htimer => ?_, fun htimer => ?_⟩, fun htimer => ?_, fun htimer => ?_,
    fun current htimer => ⟨fun hcurrent => ?_, fun hcurrent hcount => ?_⟩⟩
  · exact congrArg Host.Outcome.next (s.checkTimer_eq p .probe d (fun f => { f with reprobeTimer := none }) f hs
      (Ev.onExpiry_some _ _ htimer) (fun _ => rfl) (fun _ => rfl) (fun _ => rfl) hf)
  · exact congrArg Host.Outcome.next (s.checkTimer_eq p .backoff d (fun f => { f with backoffTimer := none }) f hs
      (Ev.onExpiry_some _ _ htimer) (fun _ => rfl) (fun _ => rfl) (fun _ => rfl) hf)
  · exact congrArg Host.Outcome.next (s.blockEvent_quiet _ hs (Ev.onExpiry_some _ _ htimer))
  · exact congrArg Host.Outcome.next (s.blockEvent_quiet _ hs (Ev.onExpiry_some _ _ htimer))
  · exact congrArg Host.Outcome.next (s.blockEvent_quiet _ hs
      (Ev.feedSample_counted _ p current htimer (if_pos hcurrent)) rfl rfl rfl (State.onPort_congr _ p rfl))
  · have hsample : (s.port p).feed.sample current
        = ({ (s.port p).feed with lastSample := current, overCount := 1 }, false) := by
      simp [Feed.sample, Nat.not_le.mpr hcurrent, hcount]
    exact congrArg Host.Outcome.next (s.blockEvent_quiet _ hs (Ev.feedSample_counted _ p current htimer hsample) rfl rfl
      rfl (State.onPort_congr _ p rfl))

/-! ### PORT_ENABLE and PORT_RELEASE (R31, R42, R47) -/

theorem powerNotice_some {before after : Port} {p : PortId} {cause : PowerCause}
    (h : before.feed.power ≠ after.feed.power ∨ before.feed.hold ≠ after.feed.hold) :
    (powerNotice before after p cause).toList
      = [.powerChange p before.feed.power after.feed.power after.feed.hold after.feed.retry cause] := by
  have hdiffer : ¬ (before.feed.power = after.feed.power ∧ before.feed.hold = after.feed.hold) :=
    fun ⟨h1, h2⟩ => h.elim (· h1) (· h2)
  rw [powerNotice, if_neg hdiffer]
  rfl

/-- A request that takes its port through the check of R31. -/
theorem State.checkRequest_eq (s : State) (p : PortId) (cause : PowerCause) (upd : Feed → Feed) (f : Feed) {code : Byte}
    {h : ReqHeader} {body : PortId → Ev → Ev × Answer} (hs : s.listens) (hp : portOf h.port = some p)
    (hb : body p s.begin.countTaken = answerDone ((s.begin.countTaken.updFeed p upd).probeCheck p cause))
    (henter : ∀ st, (upd (s.port p).feed).enter st = upd ((s.port p).feed.enter st))
    (hprobe : ∀ t, { upd ((s.port p).feed.enter .probing) with probeTimer := t }
      = upd { (s.port p).feed.enter .probing with probeTimer := t })
    (hf : f = if (s.port p).cable.diag ≠ .clear then (s.port p).feed.enter .diagnosing
      else if s.pool.feedEnable = false then (s.port p).feed.enter .poolHalt
      else { (s.port p).feed.enter .probing with probeTimer := some (s.time + 20000) }) :
    s.portRequest code h body =
      ((s.onFeed p fun _ => upd f).replied code h .done []).noticed
        (powerNotice (s.port p) { s.port p with feed := upd f } p cause).toList := by
  have hcolumn : ({ s.port p with feed := upd (s.port p).feed }).checked s.pool.feedEnable s.time
      = { s.port p with feed := upd f } := by
    rw [Port.checked_upd _ _ _ _ henter hprobe, Port.checked_feed_eq, ← hf]
  have hend : (s.begin.countTaken.updFeed p upd).probeCheck p cause
      = { s.begin.countTaken with
          offers := [.power p cause]
          ports := modifyAt s.ports p fun x => ({ x with feed := upd x.feed }).checked s.pool.feedEnable s.time } := by
    rw [Ev.probeCheck_eq]
    simp only [Ev.updFeed, Ev.updPort, Ev.markPower, modifyAt_twice]
    rfl
  have hstate : (s.onPort p fun x => ({ x with feed := upd x.feed }).checked s.pool.feedEnable s.time)
      = s.onFeed p fun _ => upd f := s.onPort_congr p hcolumn
  refine s.portRequest_noticed _ hs hp (hb.trans (congrArg answerDone hend)) (Ev.settle_done _ rfl) ?_
    (congrArg (fun u : State => u.replied code h .done []) hstate)
  refine (List.append_nil _).trans ((powerOffer_resolve _ _ p cause).trans ?_)
  have hafter : (modifyAt s.ports p fun x =>
      ({ x with feed := upd x.feed }).checked s.pool.feedEnable s.time).get p = { s.port p with feed := upd f } :=
    (modifyAt_get _ _ _).trans hcolumn
  exact congrArg (fun x => (powerNotice (s.port p) x p cause).toList) hafter

/-- The states that the check of R31 leads to. -/
theorem checked_power {f g : Feed} {diag enable : Prop} [Decidable diag] [Decidable enable] {now : Nat}
    (hf : f = if diag then g.enter .diagnosing else if enable then g.enter .poolHalt
      else { g.enter .probing with probeTimer := some now }) :
    f.power = .diagnosing ∨ f.power = .poolHalt ∨ f.power = .probing := by
  subst hf
  split_ifs
  · exact .inl rfl
  · exact .inr (.inl rfl)
  · exact .inr (.inr rfl)

/-- Settles O25: state by state of the port; clearing HOLD leaves two tasks that find nothing to do. -/
theorem enableAndReleaseActOnThePort : Obligations.EnableAndReleaseActOnThePort := by
  refine fun h s p hs hp => ⟨fun hconfig => ?_, fun hrun hpower => ?_, fun f hf => ⟨fun hrun hpower => ?_,
    fun hpower => ?_⟩, fun hpower hhold => ?_, fun hpower hhold hlens hqueue hwant => ?_⟩
  · have hop : ¬ s.link.opState = .run := by simp [hconfig]
    exact congrArg Host.Outcome.next (s.portRequest_quiet _ hs hp (if_neg hop) rfl rfl rfl rfl)
  · exact congrArg Host.Outcome.next (s.portRequest_quiet _ hs hp ((if_pos hrun).trans (if_neg hpower)) rfl rfl rfl rfl)
  · have hleft : (s.port p).feed.power ≠ f.power := by
      rw [hpower]
      obtain h | h | h := checked_power hf <;> simp [h]
    refine congrArg Host.Outcome.next ((s.checkRequest_eq p .enable (fun f => { f with enabled := true }) f hs hp
      ((if_pos hrun).trans (if_pos hpower)) (fun _ => rfl) (fun _ => rfl) hf).trans ?_)
    rw [powerNotice_some (.inl hleft), hpower]
  · have hleft : (s.port p).feed.power ≠ f.power := by
      rw [hpower]
      obtain h | h | h := checked_power hf <;> simp [h]
    refine congrArg Host.Outcome.next ((s.checkRequest_eq p .release (fun f => { f with retry := 0 }) f hs hp
      (if_pos hpower) (fun _ => rfl) (fun _ => rfl) hf).trans ?_)
    rw [powerNotice_some (.inl hleft), hpower]
  · have hclear : ¬ (s.port p).feed.hold = true := by simp [hhold]
    exact congrArg Host.Outcome.next (s.portRequest_quiet _ hs hp ((if_neg hpower).trans (if_neg hclear)) rfl rfl rfl rfl)
  · have hidle : ∀ t ∈ [Task.handIn p, .examine p],
        ((((s.begin.countTaken.setHold p false .release).push (.handIn p)).push (.examine p)).writeReply
          (replyOf 0x34 h { status := .done })).Idle t := by
      intro t ht
      simp only [List.mem_cons, List.not_mem_nil, or_false] at ht
      obtain rfl | rfl := ht
      · exact Ev.idle_handIn _ p (Port.mayHandIn_of_state _ (by simpa [Ev.setHold] using hlens))
      · exact Ev.idle_examine _ p (by simpa [Ev.setHold] using hqueue) (by simpa [Ev.setHold] using hwant)
    refine congrArg Host.Outcome.next (s.portRequest_noticed _ hs hp ((if_neg hpower).trans (if_pos hhold))
      (Ev.settle_idle _ hidle (of_decide_eq_true rfl)) ?_)
    have hafter : (modifyAt s.ports p fun x => { x with feed := { x.feed with hold := false } }).get p
        = { s.port p with feed := { (s.port p).feed with hold := false } } := modifyAt_get _ _ _
    refine (List.append_nil _).trans ((powerOffer_resolve _ _ p .release).trans ?_)
    refine (congrArg (fun x => (powerNotice (s.port p) x p .release).toList) hafter).trans ?_
    exact powerNotice_some (.inr (by simp [hhold]))

/-! ### ENTER_RUN and FEED_RESTORE (R69, R187) -/

theorem powerNotice_same (x : Port) (p : PortId) (cause : PowerCause) : powerNotice x x p cause = none :=
  if_pos ⟨rfl, rfl⟩

theorem allPorts_nodup : allPorts.Nodup := by decide

theorem allPorts_mem (p : PortId) : p ∈ allPorts := by
  revert p
  decide

/-- Of the ports that a change leaves alone there is nothing to tell. -/
theorem powerNotices_filter (before after : Vector Port 8) {l kept : List PortId} {keep : PortId → Bool}
    (cause : PowerCause) (hkept : kept = l.filter keep) (h : ∀ p, keep p = false → after.get p = before.get p) :
    (kept.filterMap fun p => powerNotice (before.get p) (after.get p) p cause)
      = l.filterMap fun p => powerNotice (before.get p) (after.get p) p cause := by
  rw [hkept, List.filterMap_filter]
  refine List.filterMap_congr fun p _ => ?_
  cases hp : keep p with
  | true => exact if_pos rfl
  | false =>
    rw [h p hp, powerNotice_same]
    rfl

/-- The step into RUN, with the ports it checks named (R187). -/
theorem Ev.enterRun_eq (e : Ev) {l : List PortId} (hl : l = allPorts.filter fun p => (e.port p).feed.enabled) :
    e.enterRun = l.foldl (fun y p => y.probeCheck p .enable)
      { e with link := { e.link with opState := .run }, pool := e.pool.clearCounts
               router := e.router.startPeriod e.time } := by
  rw [hl]
  rfl

/-- Settles O21: the check of R31 of each enabled port, after the step into RUN. -/
theorem enterRunStartsTheHub : Obligations.EnterRunStartsTheHub := by
  refine fun h s hs => ⟨fun hrun => ?_, fun hconfig hbudget => ?_, fun hconfig hbudget => ?_⟩
  · exact congrArg Host.Outcome.next (s.hubRequest_quiet _ hs (if_pos hrun) rfl rfl rfl rfl)
  · have hop : ¬ s.link.opState = .run := by simp [hconfig]
    exact congrArg Host.Outcome.next (s.hubRequest_quiet _ hs ((if_neg hop).trans (if_pos hbudget)) rfl rfl rfl rfl)
  · have hop : ¬ s.link.opState = .run := by simp [hconfig]
    obtain ⟨l, hl⟩ : ∃ l, l = allPorts.filter fun p => (s.port p).feed.enabled := ⟨_, rfl⟩
    have hnodup : l.Nodup := hl ▸ allPorts_nodup.filter _
    have hmem : ∀ p, p ∈ l ↔ (s.port p).feed.enabled = true := fun p => by
      rw [hl, List.mem_filter]
      exact and_iff_right (allPorts_mem p)
    have hget : ∀ p, (checkedPorts s.pool.feedEnable s.time l s.ports).get p
        = if (s.port p).feed.enabled = false then s.port p else (s.port p).checked s.pool.feedEnable s.time := by
      intro p
      rw [checkedPorts_get _ _ _ _ hnodup p]
      cases henabled : (s.port p).feed.enabled with
      | true => exact (if_pos ((hmem p).mpr henabled)).trans (if_neg (by simp)).symm
      | false => exact (if_neg (by simp [hmem, henabled])).trans (if_pos rfl).symm
    have hentered : s.begin.countTaken.enterRun =
        { s.begin.countTaken with
          link := { s.counted.link with opState := .run }
          pool := s.pool.clearCounts
          router := s.router.startPeriod s.time
          ports := checkedPorts s.pool.feedEnable s.time l s.ports
          offers := l.map fun p => .power p .enable } :=
      (Ev.enterRun_eq _ hl).trans (Ev.probeChecks_eq l .enable _ hnodup (fun _ _ _ ho => nomatch ho))
    have hnotices : ((l.map fun p => Offer.power p .enable).filterMap
          (Offer.resolve s.ports (checkedPorts s.pool.feedEnable s.time l s.ports))) ++ []
        = allPorts.filterMap fun p =>
            powerNotice (s.port p) ((checkedPorts s.pool.feedEnable s.time l s.ports).get p) p .enable := by
      rw [List.append_nil, powerOffers_resolve]
      exact powerNotices_filter s.ports _ .enable hl fun p hp => (hget p).trans (if_pos hp)
    have hbody : (if s.begin.countTaken.link.opState = .run then answerDone s.begin.countTaken
        else if s.begin.countTaken.pool.settings.budget = 0 then answerOnly .badConfig s.begin.countTaken
        else answerDone s.begin.countTaken.enterRun) = _ :=
      (if_neg hop).trans ((if_neg hbudget).trans (congrArg answerDone hentered))
    exact ⟨_, congrArg Host.Outcome.next (s.hubRequest_noticed _ hs hbody (Ev.settle_done _ rfl) hnotices), hget⟩

/-- FEED_RESTORE, with the ports it checks named (R69). -/
theorem Ev.feedRestore_eq (e : Ev) {l : List PortId}
    (hl : l = allPorts.filter fun p => decide ((e.port p).feed.power = .poolHalt)) :
    e.feedRestore = (l.foldl (fun (y : Ev) p => y.probeCheck p .restore)
      ({ e with pool := { e.pool with feedEnable := true } } : Ev)).offerPool .restored l := by
  rw [hl]
  rfl

/-- Settles O24: the check of R31 of each halted port, before the POOL_EVENT. -/
theorem feedRestoreBringsThePortsBack : Obligations.FeedRestoreBringsThePortsBack := by
  refine fun h s hs => ⟨fun hkill => ?_, fun hmv hma => ⟨fun henable => ?_, fun henable => ?_⟩⟩
  · have hpresent : s.pool.killPresent = true := by simpa [Pool.killPresent] using hkill
    exact congrArg Host.Outcome.next (s.hubRequest_quiet { s with pool := _ } hs (if_pos hpresent) rfl rfl rfl rfl)
  · have hpresent : ¬ s.pool.killPresent = true := by simp [Pool.killPresent, hmv, hma]
    exact congrArg Host.Outcome.next (s.hubRequest_quiet _ hs ((if_neg hpresent).trans (if_pos henable)) rfl rfl rfl rfl)
  · have hpresent : ¬ s.pool.killPresent = true := by simp [Pool.killPresent, hmv, hma]
    have hoff : ¬ s.pool.feedEnable = true := by simp [henable]
    obtain ⟨l, hl⟩ : ∃ l, l = allPorts.filter fun p => decide ((s.port p).feed.power = .poolHalt) := ⟨_, rfl⟩
    have hnodup : l.Nodup := hl ▸ allPorts_nodup.filter _
    have hget : ∀ p, (checkedPorts true s.time l s.ports).get p
        = if (s.port p).feed.power ≠ .poolHalt then s.port p
          else if (s.port p).cable.diag ≠ .clear then { s.port p with feed := (s.port p).feed.enter .diagnosing }
          else { s.port p with feed :=
            { (s.port p).feed.enter .probing with probeTimer := some (s.time + 20000) } } := by
      intro p
      rw [checkedPorts_get _ _ _ _ hnodup p]
      by_cases hhalt : (s.port p).feed.power = .poolHalt
      · refine (if_pos (by simp [hl, hhalt, allPorts_mem p])).trans (Eq.trans ?_ (if_neg (by simp [hhalt])).symm)
        rfl
      · exact (if_neg (by simp [hl, hhalt])).trans (if_pos hhalt).symm
    have hrestored : s.begin.countTaken.feedRestore =
        ({ s.begin.countTaken with
          pool := { s.pool with feedEnable := true }
          ports := checkedPorts true s.time l s.ports
          offers := l.map fun p => .power p .restore } : Ev).offerPool .restored l :=
      (Ev.feedRestore_eq _ hl).trans (congrArg (Ev.offerPool · .restored l)
        (Ev.probeChecks_eq l .restore _ hnodup (fun _ _ _ ho => nomatch ho)))
    have hsum : ({ s with ports := checkedPorts true s.time l s.ports } : State).allocationSum = s.allocationSum := by
      refine State.allocationSum_congr _ _ fun p => ?_
      rw [State.port, checkedPorts_get _ _ _ _ hnodup p]
      split
      · exact Port.checked_pool _ _ _
      · rfl
    have hnotices := congrArg₂ (· ++ ·)
      (powerOffers_resolve s.ports (checkedPorts true s.time l s.ports) l .restore)
      (congrArg (fun n => [Notice.poolEvent .restored s.pool.sampleMv s.pool.sampleMa s.pool.effectiveBudget n l]) hsum)
    have hbody : (if s.begin.countTaken.pool.killPresent = true then
          answerOnly .refusedState (s.begin.countTaken.countPool fun c =>
            { c with restoresRefused := bump c.restoresRefused })
        else if s.begin.countTaken.pool.feedEnable = true then answerDone s.begin.countTaken
        else answerDone s.begin.countTaken.feedRestore) = _ :=
      (if_neg hpresent).trans ((if_neg hoff).trans (congrArg answerDone hrestored))
    exact ⟨_, l, hl, congrArg Host.Outcome.next (s.hubRequest_noticed _ hs hbody (Ev.settle_done _ rfl) hnotices), hget⟩

end Sys2Proof.Machine
end

section
/-! The pool sample without a kill (R64, R65, R67, R70). -/

namespace Sys2Proof.Machine

set_option Elab.async false

/-- A pool sample in CONFIG is recorded, and that is all (R64). -/
theorem Ev.poolSample_config (e : Ev) (v : Half) (d : Nat) (htimer : e.pool.sampleTimer = some d)
    (hconfig : ¬ e.link.opState = .run) :
    e.poolSample v = (e.reach d).updPool fun q => { q with
      sampleMv := v.toNat, sampleMa := e.summedCurrent, sampleTimer := some (max e.time d + 1000) } := by
  rw [Ev.poolSample, htimer, Ev.onExpiry_running]
  exact if_neg hconfig

/-- A sample that moves the counts and ends nothing (R64). -/
theorem Ev.judgePool_counts (e : Ev) {q : Pool} (hkill : e.pool.settings.kill ≤ e.pool.sampleMv) (hcount : e.pool.count = q)
    (htrip : q.tripCount ≠ 2) (hlow : q.derate = false → q.lowCount ≠ 5)
    (hrecovery : q.derate = true → q.recoveryCount ≠ 100) :
    e.judgePool = e.updPool fun _ => q := by
  have hpool : e.updPool Pool.count = e.updPool fun _ => q := congrArg (fun x => ({ e with pool := x } : Ev)) hcount
  have hvoltage : ¬ q.sampleMv < q.settings.kill := by
    subst hcount
    exact Nat.not_lt.mpr hkill
  have hlow' : ¬ (q.derate = false ∧ q.lowCount = 5) := fun ⟨h, h'⟩ => hlow h h'
  have hrecovery' : ¬ (q.derate = true ∧ q.recoveryCount = 100) := fun ⟨h, h'⟩ => hrecovery h h'
  simp only [Ev.judgePool, hpool, Ev.updPool_pool, hvoltage, htrip, decide_false, Bool.false_eq_true, or_false, and_false,
    if_false, if_neg hlow', if_neg hrecovery']

/-- The hundredth recovery sample (R67). -/
theorem Ev.judgePool_leaves_derate (e : Ev) (hkill : e.pool.settings.kill ≤ e.pool.sampleMv)
    (hhigh : e.pool.settings.derate + 500 ≤ e.pool.sampleMv) (htrip : e.pool.sampleMa ≤ e.pool.settings.trip)
    (hderate : e.pool.derate = true) (hcount : e.pool.recoveryCount = 99) :
    e.judgePool = (e.updPool fun q => { q with recoveryCount := 100, tripCount := 0 }).leaveDerate := by
  have hcounts : e.updPool Pool.count = e.updPool fun q => { q with recoveryCount := 100, tripCount := 0 } := by
    simp [Ev.updPool, Pool.count, hderate, hcount, hhigh, Nat.not_lt.mpr htrip]
  simp [Ev.judgePool, hcounts, hderate, Nat.not_lt.mpr hkill]

/-- The end of DERATE, with the ports it checks named (R67). -/
theorem Ev.leaveDerate_eq (e : Ev) {l : List PortId}
    (hl : l = allPorts.filter fun p => decide ((e.port p).feed.power = .shed)) :
    e.leaveDerate = ((l.foldl (fun (y : Ev) p => y.probeCheck p .derateEnd)
      (e.updPool fun q => { q with derate := false, lowCount := 0, recoveryCount := 0 })).push .serve).offerPool
        .derateLeft l := by
  rw [hl]
  rfl

/-- Allocations that fit the effective budget take no shed (R65). -/
theorem Ev.shedPass_fits (k : Nat) (e : Ev) (h : e.allocationSum ≤ e.pool.effectiveBudget) :
    Ev.shedPass k e = (e, []) := by
  cases k with
  | zero => rfl
  | succ k => exact if_pos h

/-- Settles O48: the counts first; the entry into DERATE sheds nothing here, and its end checks the SHED ports. -/
theorem poolSamplesAreCounted : Obligations.PoolSamplesAreCounted := by
  intro s now v d hs htimer hnow
  subst hnow
  refine ⟨fun hconfig => ?_, fun hrun hkill htrip => ?_⟩
  · have hop : ¬ s.link.opState = .run := by simp [hconfig]
    exact congrArg Host.Outcome.next (s.blockEvent_quiet _ hs (Ev.poolSample_config _ v d htimer hop))
  have hcounted (q : Pool) (hcount : ({ s.pool with
        sampleMv := v.toNat, sampleMa := s.summedCurrent, sampleTimer := some (max s.time d + 1000) } : Pool).count = q)
      (h2 : q.tripCount ≠ 2) (h5 : q.derate = false → q.lowCount ≠ 5) (h100 : q.derate = true → q.recoveryCount ≠ 100) :
      exec (.poolSample v) s = .next { s with time := max s.time d, pool := q } :=
    congrArg Host.Outcome.next (s.blockEvent_quiet _ hs ((Ev.poolSample_run _ v d htimer hrun).trans
      (Ev.judgePool_counts _ hkill hcount h2 h5 h100)))
  have htrip' : ¬ s.pool.settings.trip < s.summedCurrent := Nat.not_lt.mpr htrip
  refine ⟨fun hderate hhigh => ?_, fun hderate hlow hcount => ?_, fun hderate hlow hcount hhead hfits => ?_,
    fun hderate hhigh hcount => ?_, fun hderate hlow => ?_, fun hderate hhigh hcount hhead => ?_⟩
  · exact hcounted _ (by simp [Pool.count, hderate, htrip', Nat.not_lt.mpr hhigh]) (by simp) (by simp) (by simp [hderate])
  · have hmin : min (s.pool.lowCount + 1) 5 = s.pool.lowCount + 1 := by omega
    exact hcounted _ (by simp [Pool.count, hderate, htrip', hlow, hmin]) (by simp) (by simp; omega) (by simp [hderate])
  · have hact : s.begin.poolSample v =
        (({ s.begin with
            time := max s.time d
            pool := { s.pool with
              sampleMv := v.toNat, sampleMa := s.summedCurrent, sampleTimer := some (max s.time d + 1000)
              derate := true, lowCount := 0, recoveryCount := 0, tripCount := 0
              counters := { s.pool.counters with derates := bump s.pool.counters.derates } } } : Ev).push .serve).offerPool
          .derateEntered [] :=
      (Ev.poolSample_run _ v d htimer hrun).trans ((Ev.judgePool_enters_derate _ hkill hlow htrip hderate hcount).trans
        ((Ev.enterDerate_eq _ _ rfl).trans (congrArg (fun r : Ev × List PortId =>
          (r.1.push .serve).offerPool .derateEntered r.2) (Ev.shedPass_fits 8 _ hfits))))
    exact congrArg Host.Outcome.next (s.blockEvent_noticed _ hs hact (Ev.settle_last _ .serve rfl
      (Ev.serve_nothing _ fun a ha => decide_eq_false (Nat.not_le.mpr (hhead a ha))) rfl))
  · have hmin : min (s.pool.recoveryCount + 1) 100 = s.pool.recoveryCount + 1 := by omega
    exact hcounted _ (by simp [Pool.count, hderate, htrip', hhigh, hmin]) (by simp) (by simp [hderate]) (by simp; omega)
  · exact hcounted _ (by simp [Pool.count, hderate, htrip', Nat.not_le.mpr hlow]) (by simp) (by simp [hderate]) (by simp)
  · obtain ⟨l, hl⟩ : ∃ l, l = allPorts.filter fun p => decide ((s.port p).feed.power = .shed) := ⟨_, rfl⟩
    have hnodup : l.Nodup := hl ▸ allPorts_nodup.filter _
    have hget : ∀ p, (checkedPorts s.pool.feedEnable (max s.time d) l s.ports).get p
        = if (s.port p).feed.power = .shed then (s.port p).checked s.pool.feedEnable (max s.time d) else s.port p := by
      intro p
      rw [checkedPorts_get _ _ _ _ hnodup p]
      by_cases hshed : (s.port p).feed.power = .shed
      · exact (if_pos (by simp [hl, hshed, allPorts_mem p])).trans (if_pos hshed).symm
      · exact (if_neg (by simp [hl, hshed])).trans (if_neg hshed).symm
    have hsum : ({ s with ports := checkedPorts s.pool.feedEnable (max s.time d) l s.ports } : State).allocationSum
        = s.allocationSum := by
      refine State.allocationSum_congr _ _ fun p => ?_
      rw [State.port, hget]
      split
      · exact Port.checked_pool _ _ _
      · rfl
    have hact : s.begin.poolSample v =
        (({ s.begin with
            time := max s.time d
            pool := { s.pool with
              sampleMv := v.toNat, sampleMa := s.summedCurrent, sampleTimer := some (max s.time d + 1000)
              derate := false, lowCount := 0, recoveryCount := 0, tripCount := 0 }
            ports := checkedPorts s.pool.feedEnable (max s.time d) l s.ports
            offers := l.map fun p => .power p .derateEnd } : Ev).push .serve).offerPool .derateLeft l :=
      (Ev.poolSample_run _ v d htimer hrun).trans ((Ev.judgePool_leaves_derate _ hkill hhigh htrip hderate hcount).trans
        ((Ev.leaveDerate_eq _ hl).trans (congrArg (fun e => (Ev.push e .serve).offerPool .derateLeft l)
          (Ev.probeChecks_eq l .derateEnd _ hnodup (fun _ _ _ ho => nomatch ho)))))
    have hnotices := congrArg₂ (· ++ ·)
      ((powerOffers_resolve s.ports (checkedPorts s.pool.feedEnable (max s.time d) l s.ports) l .derateEnd).trans
          (powerNotices_filter s.ports _ .derateEnd hl fun p hp =>
            (hget p).trans (if_neg (of_decide_eq_false hp))))
      (congrArg (fun n => [Notice.poolEvent .derateLeft v.toNat s.summedCurrent s.pool.settings.budget n l]) hsum)
    have hblocked : ∀ a ∈ s.pool.queue.head?,
        decide (({ s with ports := checkedPorts s.pool.feedEnable (max s.time d) l s.ports } : State).allocationSum + a.amount
          ≤ s.pool.settings.budget) = false := by
      intro a ha
      rw [hsum]
      exact decide_eq_false (Nat.not_le.mpr (hhead a ha))
    rw [← hl]
    exact ⟨_, congrArg Host.Outcome.next (s.blockEvent_noticed _ hs hact (Ev.settle_last _ .serve rfl
      (Ev.serve_nothing _ hblocked) rfl) hnotices), hget⟩

end Sys2Proof.Machine
end

section
/-! The rotations of the arbiters (R131, R144), the output port (R127 to R134) and the meter's grants (R144 to R149). -/

namespace Sys2Proof.Machine

set_option Elab.async false

/-! ### Rotations -/

theorem mem_rotation {n ptr x : Nat} : x ∈ rotation n ptr ↔ ∃ k < n, (ptr + 1 + k) % n = x := by
  simp [rotation]

theorem mem_rotation_of_lt {n ptr x : Nat} (h : x < n) : x ∈ rotation n ptr := by
  have hn : 0 < n := Nat.zero_lt_of_lt h
  refine mem_rotation.mpr ⟨(x + n - (ptr + 1) % n) % n, Nat.mod_lt _ hn, ?_⟩
  have hlt := Nat.mod_lt (ptr + 1) hn
  rw [Nat.add_mod_mod, ← Nat.mod_add_mod, Nat.add_sub_cancel' (by omega), Nat.add_mod_right, Nat.mod_eq_of_lt h]

/-- The first position of a rotation that meets a test. -/
theorem find?_rotation {n ptr k : Nat} {f : Nat → Bool} (hk : k < n) (hf : f ((ptr + 1 + k) % n) = true)
    (hbefore : ∀ j < k, f ((ptr + 1 + j) % n) = false) : (rotation n ptr).find? f = some ((ptr + 1 + k) % n) := by
  rw [List.find?_eq_some_iff_getElem]
  refine ⟨hf, k, by simpa [rotation] using hk, by simp [rotation], fun j hj => ?_⟩
  simp [rotation, hbefore j hj]

theorem positionPort_val (p : PortId) : positionPort p.val = some p := dif_pos p.isLt

theorem positionPort_eq_some {k : Nat} {p : PortId} : positionPort k = some p ↔ k = p.val := by
  constructor
  · intro h
    unfold positionPort at h
    split at h
    · exact congrArg Fin.val (Option.some.inj h)
    · cases h
  · rintro rfl
    exact positionPort_val p

theorem positionPort_eq_none {k : Nat} : positionPort k = none ↔ 8 ≤ k := by
  simp [positionPort]

/-- The first port of a rotation that meets a test. -/
theorem find?_ports {ptr m : Nat} {p : PortId} {f : PortId → Bool} (hm : m < 8) (hp : p.val = (ptr + 1 + m) % 8)
    (hf : f p = true) (hbefore : ∀ (j : Nat) (q : PortId), j < m → q.val = (ptr + 1 + j) % 8 → f q = false) :
    ((rotation 8 ptr).filterMap positionPort).find? f = some p := by
  have hposition : (rotation 8 ptr).find? (fun k => (positionPort k).any f) = some p.val := by
    rw [hp]
    refine find?_rotation hm ?_ fun j hj => ?_
    · rw [← hp, positionPort_val]
      exact hf
    · have hlt : (ptr + 1 + j) % 8 < 8 := Nat.mod_lt _ (by decide)
      rw [positionPort_val ⟨_, hlt⟩]
      exact hbefore j _ hj rfl
  rw [List.find?_filterMap, hposition]
  exact positionPort_val p

/-- A rotation passes every port. -/
theorem find?_ports_isSome {ptr : Nat} {f : PortId → Bool} {p : PortId} (hf : f p = true) :
    ∃ q, ((rotation 8 ptr).filterMap positionPort).find? f = some q := by
  have hmem : p ∈ (rotation 8 ptr).filterMap positionPort :=
    List.mem_filterMap.mpr ⟨p.val, mem_rotation_of_lt p.isLt, positionPort_val p⟩
  exact Option.isSome_iff_exists.mp (List.find?_isSome.mpr ⟨p, hmem, hf⟩)

/-! ### The output arbiter (R130, R131) -/

theorem State.eligibleIn_iff (s : State) (g : OutputGroup) (p : PortId) :
    s.eligibleIn g p = true ↔ s.eligible p = true ∧ (s.port p).feed.settings.outputGroup = g := by
  simp [State.eligibleIn]

theorem State.qualifies_port (s : State) (p : PortId) : s.qualifies p.val = s.eligibleIn .high p := by
  rw [State.qualifies, positionPort_val]

theorem State.qualifies_low (s : State) : s.qualifies 8 = true ↔ ∃ p, s.eligibleIn .low p = true := by
  have hnone : positionPort 8 = none := positionPort_eq_none.mpr (Nat.le_refl 8)
  simp [State.qualifies, hnone, allPorts_mem]

theorem State.lowPick_isSome (s : State) {p : PortId} (h : s.eligibleIn .low p = true) : ∃ q, s.lowPick = some q :=
  find?_ports_isSome h

/-- The pick at a port's position of the HIGH rotation. -/
theorem State.outputPick_port (s : State) {k : Nat} {p : PortId}
    (h : (rotation 9 s.output.highPtr.val).find? s.qualifies = some k) (hk : positionPort k = some p) :
    s.outputPick = some (p, .high) := by
  simp [State.outputPick, h, hk]

/-- The pick at the LOW position. -/
theorem State.outputPick_low (s : State) {k : Nat}
    (h : (rotation 9 s.output.highPtr.val).find? s.qualifies = some k) (hk : positionPort k = none) :
    s.outputPick = s.lowPick.map fun p => (p, .low) := by
  simp [State.outputPick, h, hk]

theorem State.outputPick_eligible (s : State) {p : PortId} {g : OutputGroup} (h : s.outputPick = some (p, g)) :
    s.eligibleIn g p = true := by
  cases hfind : (rotation 9 s.output.highPtr.val).find? s.qualifies with
  | none => simp [State.outputPick, hfind] at h
  | some k =>
    cases hk : positionPort k with
    | some q =>
      rw [s.outputPick_port hfind hk] at h
      obtain ⟨rfl, rfl⟩ : q = p ∧ OutputGroup.high = g := by simpa using h
      have hqualifies := List.find?_some hfind
      rwa [positionPort_eq_some.mp hk, s.qualifies_port] at hqualifies
    | none =>
      rw [s.outputPick_low hfind hk] at h
      obtain ⟨hlow, rfl⟩ : s.lowPick = some p ∧ OutputGroup.low = g := by simpa using h
      exact List.find?_some (by exact hlow)

theorem State.outputPick_isSome (s : State) {p : PortId} (h : s.eligible p = true) : ∃ x, s.outputPick = some x := by
  have hqualifies : ∃ k < 9, s.qualifies k = true := by
    cases hgroup : (s.port p).feed.settings.outputGroup with
    | high =>
      exact ⟨p.val, by omega, by rw [s.qualifies_port, s.eligibleIn_iff]; exact ⟨h, hgroup⟩⟩
    | low => exact ⟨8, by omega, s.qualifies_low.mpr ⟨p, (s.eligibleIn_iff _ _).mpr ⟨h, hgroup⟩⟩⟩
  obtain ⟨j, hj, hjq⟩ := hqualifies
  obtain ⟨k, hk⟩ := Option.isSome_iff_exists.mp (List.find?_isSome.mpr
    ⟨j, mem_rotation_of_lt (ptr := s.output.highPtr.val) hj, hjq⟩)
  cases hport : positionPort k with
  | some q => exact ⟨_, s.outputPick_port hk hport⟩
  | none =>
    have hlt : k < 9 := by
      obtain ⟨m, -, rfl⟩ := mem_rotation.mp (List.mem_of_find?_eq_some hk)
      exact Nat.mod_lt _ (by decide)
    have hk8 : k = 8 := by
      have := positionPort_eq_none.mp hport
      omega
    have hlow := List.find?_some hk
    rw [hk8, s.qualifies_low] at hlow
    obtain ⟨q, hq⟩ := hlow
    obtain ⟨r, hr⟩ := s.lowPick_isSome hq
    exact ⟨(r, .low), by rw [s.outputPick_low hk hport, hr]; rfl⟩

/-- A position before which no port of its kind is eligible does not qualify. -/
theorem State.not_qualifies (s : State) {x : Nat} (hx : x < 9)
    (h : ∀ q, s.eligible q = true →
      ((s.port q).feed.settings.outputGroup = .high → q.val ≠ x)
      ∧ ((s.port q).feed.settings.outputGroup = .low → x ≠ 8)) : s.qualifies x = false := by
  rw [Bool.eq_false_iff]
  intro hqualifies
  cases hport : positionPort x with
  | some q =>
    obtain rfl := positionPort_eq_some.mp hport
    rw [s.qualifies_port, s.eligibleIn_iff] at hqualifies
    exact (h q hqualifies.1).1 hqualifies.2 rfl
  | none =>
    have h8 : x = 8 := by
      have := positionPort_eq_none.mp hport
      omega
    rw [h8, s.qualifies_low] at hqualifies
    obtain ⟨q, hq⟩ := hqualifies
    rw [s.eligibleIn_iff] at hq
    exact (h q hq.1).2 hq.2 h8

theorem Ev.outputServe_grants (e : Ev) {p : PortId} {g : OutputGroup} {x : Slot} {rest : List Slot}
    (hidle : e.output.sending = none) (hhold : e.output.holdPin = false) (hpick : e.outputPick = some (p, g))
    (hqueue : (e.port p).ingress.queue = x :: rest) :
    e.outputServe = e.updOutput fun o =>
      { o.granted p g with
        sending := some { port := p, reserve := x.reserve, egress := (e.port p).ingress.egressCount, packet := x.packet
                          flushed := false } } := by
  simp [Ev.outputServe, hidle, hhold, hpick, Ev.startTransmission, hqueue]

/-- Settles O51: the position the rotation finds, and the grant it stands for. -/
theorem outputArbiterPicks : Obligations.OutputArbiterPicks := by
  refine fun s => ⟨fun p g h => (s.eligibleIn_iff g p).mp (s.outputPick_eligible h), fun ⟨p, hp⟩ => s.outputPick_isSome hp,
    fun k hk hbefore => ?_, fun hs => ⟨fun hnot => ?_, fun p x rest hidle hhold hqueue => ⟨fun hpick => ?_,
      fun hpick => ?_⟩⟩⟩
  · have hnone : ∀ j < k, s.qualifies ((s.output.highPtr.val + 1 + j) % 9) = false := fun j hj =>
      s.not_qualifies (Nat.mod_lt _ (by decide)) fun q hq => hbefore j q hj hq
    refine ⟨fun p hp hel hgroup => ?_, fun h8 m p hm hp hel hgroup hothers => ?_⟩
    · have hqualifies : s.qualifies ((s.output.highPtr.val + 1 + k) % 9) = true := by
        rw [← hp, s.qualifies_port, s.eligibleIn_iff]
        exact ⟨hel, hgroup⟩
      exact s.outputPick_port (find?_rotation hk hqualifies hnone) (by rw [← hp, positionPort_val])
    · have hlow : s.eligibleIn .low p = true := (s.eligibleIn_iff _ _).mpr ⟨hel, hgroup⟩
      have hqualifies : s.qualifies ((s.output.highPtr.val + 1 + k) % 9) = true := by
        rw [h8]
        exact s.qualifies_low.mpr ⟨p, hlow⟩
      have hpick : s.lowPick = some p := find?_ports hm hp hlow fun j q hj hq => by
        rw [Bool.eq_false_iff]
        intro hq'
        rw [s.eligibleIn_iff] at hq'
        have := hothers j q hj hq hq'.1
        simp [hq'.2] at this
      rw [s.outputPick_low (find?_rotation hk hqualifies hnone) (by rw [h8]; exact positionPort_eq_none.mpr (Nat.le_refl 8)),
        hpick]
      rfl
  · exact congrArg Host.Outcome.next (s.blockEvent_quiet s (e := s.begin) hs (Ev.outputServe_nothing _ hnot))
  · exact congrArg Host.Outcome.next (s.blockEvent_quiet _ hs (Ev.outputServe_grants _ hidle hhold hpick hqueue))
  · exact congrArg Host.Outcome.next (s.blockEvent_quiet _ hs (Ev.outputServe_grants _ hidle hhold hpick hqueue))

end Sys2Proof.Machine
end

section
/-! The end of a transmission and the HOLD input (R20, R111, R128 to R134). -/

namespace Sys2Proof.Machine

set_option Elab.async false

/-- Without a HELD access of the port the relay's test finds nothing (R138). -/
theorem Ev.relayTest_nothing (e : Ev) (p : PortId) (h : ∀ r ∈ e.relay, r.port = p → r.stage.unanswered = true) :
    e.relayTest p = e := by
  have hreleased : ∀ r ∈ e.relay, r.released p (e.port p).ingress.egressCount = false := by
    intro r hr
    by_cases hp : r.port = p
    · have hstage := h r hr hp
      unfold RelayEntry.released
      cases hs : r.stage with
      | queued => simp
      | sent => simp
      | held code value w cut => simp [hs, RelayStage.unanswered] at hstage
    · simp [RelayEntry.released, hp]
  have hdue : e.relay.filter (fun r => r.released p (e.port p).ingress.egressCount) = [] :=
    List.filter_eq_nil_iff.mpr fun r hr => by simp [hreleased r hr]
  have hkept : e.relay.filter (fun r => !r.released p (e.port p).ingress.egressCount) = e.relay :=
    List.filter_eq_self.mpr fun r hr => by simp [hreleased r hr]
  simp only [Ev.relayTest, hdue, hkept]
  rfl

/-- A tether port whose credit return has been judged (R20). -/
def Tether.judged (t : Tether) : Tether := { t with creditDue := t.creditDue || t.returnDue }

/-- The judgement of the credit return: it becomes due, and then the channel looks for work (R20). -/
theorem Ev.judgeCredit_eq (e : Ev) (p : PortId) :
    ∃ l, (l = [] ∨ l = [Task.channel p])
      ∧ e.judgeCredit p = { e.updTether p Tether.judged with todo := e.todo ++ l } := by
  have hcolumn {f : Tether → Tether} (hf : f (e.port p).tether = (e.port p).tether.judged) (l : List Task) :
      ({ e.updTether p f with todo := l } : Ev) = { e.updTether p Tether.judged with todo := l } :=
    congrArg (fun v => ({ e with ports := v, todo := l } : Ev))
      (modifyAt_congr e.ports p (congrArg (fun t => ({ e.port p with tether := t } : Port)) hf))
  unfold Ev.judgeCredit
  split
  · next hdue =>
    refine ⟨[.channel p], .inr rfl, hcolumn ?_ _⟩
    simp [Tether.judged, hdue]
  · next hdue =>
    refine ⟨[], .inl rfl, ?_⟩
    have hsame : e.updTether p id = e := congrArg (fun v => ({ e with ports := v } : Ev)) (modifyAt_same e.ports p rfl)
    have hjudged := hcolumn (f := id) (by simp [Tether.judged, hdue]) (e.todo ++ [])
    rw [hsame, List.append_nil] at hjudged
    rw [List.append_nil]
    exact hjudged

/-- The tether port of a port whose credited slot has freed (R20, R111). -/
def Tether.freed (t : Tether) : Tether :=
  { t with occupied := t.occupied - 1, unreturned := t.unreturned + 1
           creditDue := t.creditDue || (decide (t.link = .up) && (decide (3 ≤ t.unreturned)
             || decide (t.occupied ≤ 1))) }

theorem Tether.judged_freed (t : Tether) :
    ({ t with occupied := t.occupied - 1, unreturned := t.unreturned + 1 } : Tether).judged = t.freed := by
  simp [Tether.judged, Tether.returnDue, Tether.freed, Nat.sub_eq_zero_iff_le]

theorem Ev.creditFreed_eq (e : Ev) (p : PortId) :
    ∃ l, (l = [] ∨ l = [Task.channel p])
      ∧ e.creditFreed p = { e.updTether p Tether.freed with todo := e.todo ++ l } := by
  obtain ⟨l, hl, h⟩ := Ev.judgeCredit_eq
    (e.updTether p fun t => { t with occupied := t.occupied - 1, unreturned := t.unreturned + 1 }) p
  refine ⟨l, hl, h.trans ?_⟩
  rw [Ev.updTether_twice]
  exact congrArg (fun f => ({ e.updTether p f with todo := e.todo ++ l } : Ev)) (funext Tether.judged_freed)

/-! ### HOLD (R129) -/

theorem State.outputPick_none (s : State) (h : ∀ p, s.eligible p = false) : s.outputPick = none := by
  rw [Option.eq_none_iff_forall_ne_some]
  intro ⟨p, g⟩ hpick
  have := ((s.eligibleIn_iff g p).mp (s.outputPick_eligible hpick)).1
  simp [h p] at this

theorem State.heldWork_iff (s : State) (hs : s.running) : s.heldWork = true ↔ ∃ p, s.eligible p = true := by
  simp [State.heldWork, hs.blocksRun, allPorts_mem]

/-- The output port after a transmission (R128, R134). -/
def Output.sent (o : Output) (x : Transmission) : Output := { o with sending := none, counters := o.counters.countSent x }

/-- The ingress buffer after its head has been sent (R111, R128). -/
def Ingress.sent (i : Ingress) : Ingress := { i with queue := i.queue.tail, egressCount := i.egressCount + 1 }

/-- After a flush a completed transmission only counts; with HOLD asserted no other starts (R129, R133). -/
theorem Ev.transmissionDone_flushed (e : Ev) {x : Transmission} (hsending : e.output.sending = some x)
    (hhold : e.output.holdPin = true) (hflushed : x.flushed = true) :
    e.transmissionDone = e.updOutput fun o => o.sent x := by
  rw [Ev.transmissionDone, hsending]
  dsimp only
  rw [if_pos hflushed]
  exact Ev.outputServe_nothing _ (.inr (.inl hhold))

/-- The reserve slot frees without a credit (R120, R128). -/
theorem Ev.transmissionDone_reserve (e : Ev) {x : Transmission} (hsending : e.output.sending = some x)
    (hhold : e.output.holdPin = true) (hflushed : x.flushed = false) (hreserve : x.reserve = true)
    (hrelay : ∀ r ∈ e.relay, r.port = x.port → r.stage.unanswered = true) :
    e.transmissionDone = (e.updOutput fun o => o.sent x).updIngress x.port Ingress.sent := by
  have hfree : (e.updOutput fun o => o.sent x).freeSlot x = (e.updOutput fun o => o.sent x).updIngress x.port Ingress.sent := by
    simp only [Ev.freeSlot, hreserve, if_true]
    exact Ev.relayTest_nothing _ _ hrelay
  rw [Ev.transmissionDone, hsending]
  dsimp only
  rw [if_neg (by simp [hflushed])]
  exact (congrArg Ev.outputServe hfree).trans (Ev.outputServe_nothing _ (.inr (.inl hhold)))

/-- A credited slot frees with its credit (R20, R128). -/
theorem Ev.transmissionDone_credited (e : Ev) {x : Transmission} (hsending : e.output.sending = some x)
    (hhold : e.output.holdPin = true) (hflushed : x.flushed = false) (hreserve : x.reserve = false)
    (hrelay : ∀ r ∈ e.relay, r.port = x.port → r.stage.unanswered = true) :
    ∃ l, (l = [] ∨ l = [Task.channel x.port])
      ∧ e.transmissionDone = { ((e.updOutput fun o => o.sent x).updIngress x.port Ingress.sent).updTether x.port
          Tether.freed with todo := e.todo ++ l } := by
  obtain ⟨l, hl, hcredit⟩ := Ev.creditFreed_eq ((e.updOutput fun o => o.sent x).updIngress x.port Ingress.sent) x.port
  refine ⟨l, hl, ?_⟩
  have hfree : (e.updOutput fun o => o.sent x).freeSlot x
      = { ((e.updOutput fun o => o.sent x).updIngress x.port Ingress.sent).updTether x.port Tether.freed with
          todo := e.todo ++ l } := by
    simp only [Ev.freeSlot, hreserve, Bool.false_eq_true, if_false]
    refine (congrArg (Ev.relayTest · x.port) hcredit).trans (Ev.relayTest_nothing _ _ ?_)
    exact hrelay
  rw [Ev.transmissionDone, hsending]
  dsimp only
  rw [if_neg (by simp [hflushed])]
  exact (congrArg Ev.outputServe hfree).trans (Ev.outputServe_nothing _ (.inr (.inl hhold)))

/-- Settles O52: the two levels of HOLD, and the slot a completed transmission frees. -/
theorem transmissionsFreeTheirSlots : Obligations.TransmissionsFreeTheirSlots := by
  refine ⟨fun s => ⟨fun hhold => ?_, fun hhold => ?_, fun hhold hs => ?_, fun hhold hs hnone => ?_⟩,
    fun s x output hs hsending hhold houtput => ?_⟩
  · exact congrArg Host.Outcome.next (if_pos hhold)
  · exact congrArg Host.Outcome.next (if_neg (by simp [hhold]))
  · have hclear : ¬ s.output.holdPin = true := by simp [hhold]
    refine congrArg Host.Outcome.next ((if_neg hclear).trans ?_)
    simp only [s.heldWork_iff hs]
  · exact congrArg Host.Outcome.next ((if_pos hhold).trans (State.blockEvent_quiet _ _
      (e := State.begin { s with output := { s.output with holdPin := false } }) hs (Ev.outputServe_nothing _
        (hnone.imp id fun h => .inr (State.outputPick_none _ h)))))
  · subst houtput
    refine ⟨fun hflushed => ?_, fun hflushed hrelay => ⟨fun hreserve => ?_, fun hreserve hbusy => ?_⟩⟩
    · exact congrArg Host.Outcome.next (s.blockEvent_quiet _ hs
        (Ev.transmissionDone_flushed _ hsending hhold hflushed))
    · exact congrArg Host.Outcome.next (s.blockEvent_quiet _ hs
        (Ev.transmissionDone_reserve _ hsending hhold hflushed hreserve hrelay))
    · obtain ⟨l, hl, hact⟩ := Ev.transmissionDone_credited s.begin hsending hhold hflushed hreserve hrelay
      refine congrArg Host.Outcome.next (s.blockEvent_silent _ hs hact (Ev.settle_idle _ ?_ ?_) rfl rfl ?_)
      · intro t ht
        obtain rfl | rfl := hl
        · cases ht
        · obtain rfl := List.mem_singleton.mp ht
          exact Ev.idle_channel _ _ (Tether.startChannel_busy _ (by simpa [Tether.freed] using hbusy))
      · obtain rfl | rfl := hl <;> exact of_decide_eq_true rfl
      · exact congrArg (fun v => ({ s with output := s.output.sent x, ports := v } : State)) (modifyAt_twice s.ports
          x.port (fun y => { y with ingress := y.ingress.sent }) fun y => { y with tether := y.tether.freed })

end Sys2Proof.Machine
end

section
/-! The meter's grants and the LIVE shot (R144, R145, R147, R149, R164). -/

namespace Sys2Proof.Machine

set_option Elab.async false

/-! ### Picks (R144) -/

/-- The only occupied LIVE place is the one picked. -/
theorem Meter.livePick_only (m : Meter) {p : PortId}
    (h : m.livePlaces = (Vector.replicate 8 false).set p.val true p.isLt) : m.livePick = some p := by
  have hplace : ∀ q, m.livePlaces.get q = decide (q = p) := by
    intro q
    by_cases hq : q = p
    · subst hq
      simp [h, Vector.get_eq_getElem]
    · have hval : p.val ≠ q.val := fun k => hq (Fin.ext k.symm)
      simp [h, Vector.get_eq_getElem, hval, hq]
  obtain ⟨q, hq⟩ := find?_ports_isSome (ptr := m.livePtr.val) (f := fun q => m.livePlaces.get q) (p := p)
    ((hplace p).trans (decide_eq_true rfl))
  have hfound : m.livePlaces.get q = true := List.find?_some hq
  rw [hplace] at hfound
  rw [Meter.livePick, hq, of_decide_eq_true hfound]

theorem Meter.livePick_none (m : Meter) (h : m.livePlaces = Vector.replicate 8 false) : m.livePick = none := by
  rw [Meter.livePick, List.find?_eq_none]
  simp [h, Vector.get_eq_getElem]

/-- Taking the only occupied LIVE place empties them all. -/
theorem Meter.takeLive_only (m : Meter) {p : PortId}
    (h : m.livePlaces = (Vector.replicate 8 false).set p.val true p.isLt) :
    m.takeLive p = { m with livePtr := p, livePlaces := Vector.replicate 8 false } := by
  have hempty : m.livePlaces.set p.val false p.isLt = Vector.replicate 8 false := by
    rw [h]
    ext i hi
    simp
  rw [Meter.takeLive, hempty]

theorem Ev.meterServe_pick (e : Ev) (hholder : e.meter.holder = none) (hcal : e.meter.pendingCal = false) :
    e.meterServe = Ev.meterPick 9 e := by
  simp [Ev.meterServe, hholder, hcal]

/-- A LIVE shot granted to a port after a lock loss (R144, R147). -/
theorem Ev.meterPick_live (e : Ev) (k : Nat) {p : PortId}
    (hlive : e.meter.livePlaces = (Vector.replicate 8 false).set p.val true p.isLt)
    (hlost : (e.port p).tether.lockLost = true) :
    Ev.meterPick (k + 1) e = e.updMeter fun m =>
      { m with livePtr := p, livePlaces := Vector.replicate 8 false, holder := some (.live p, e.time + 1000) } := by
  have htake : (e.updMeter fun m => m.takeLive p)
      = e.updMeter fun m => { m with livePtr := p, livePlaces := Vector.replicate 8 false } :=
    congrArg (fun m => ({ e with meter := m } : Ev)) (e.meter.takeLive_only hlive)
  simp only [Ev.meterPick, Meter.livePick_only _ hlive, htake, Ev.updMeter_port, hlost, if_true]
  rfl

/-- A LIVE shot skipped, with nothing else to pick (R145). -/
theorem Ev.meterPick_skip (e : Ev) (k : Nat) {p : PortId}
    (hlive : e.meter.livePlaces = (Vector.replicate 8 false).set p.val true p.isLt)
    (hlost : (e.port p).tether.lockLost = false) (hoffered : e.meter.offered = none) :
    Ev.meterPick (k + 2) e = (e.updMeter fun m => { m with livePtr := p, livePlaces := Vector.replicate 8 false }).countMeter
      fun c => { c with liveSkipped := bump c.liveSkipped } := by
  have htake : (e.updMeter fun m => m.takeLive p)
      = e.updMeter fun m => { m with livePtr := p, livePlaces := Vector.replicate 8 false } :=
    congrArg (fun m => ({ e with meter := m } : Ev)) (e.meter.takeLive_only hlive)
  have hthen (f : Ev) (h : f.meter.livePlaces = Vector.replicate 8 false) (h' : f.meter.offered = none) :
      Ev.meterPick (k + 1) f = f := by
    simp only [Ev.meterPick, Meter.livePick_none _ h, h']
  rw [Ev.meterPick, Meter.livePick_only _ hlive]
  simp only [htake, Ev.updMeter_port, hlost, Bool.false_eq_true, if_false]
  exact hthen _ rfl hoffered

theorem Ev.meterPick_full (e : Ev) (k : Nat) {p : PortId} (hlive : e.meter.livePlaces = Vector.replicate 8 false)
    (hoffered : e.meter.offered = some p) : Ev.meterPick (k + 1) e = e.grantFull p := by
  simp only [Ev.meterPick, Meter.livePick_none _ hlive, hoffered]

theorem Timebase.leads_iff (t : Timebase) :
    t.leads = true ↔ t.everCompleted = false ∨ t.ageTimer = none ∨ t.valid = false := by
  simp [Timebase.leads, or_assoc]

/-! ### The LIVE shot (R147, R164) -/

/-- The flex record with a LIVE result kept, in the words of R164. -/
theorem Cable.keepLive_eq (c : Cable) (echo : Option NearestEcho) :
    c.keepLive echo = { c with flex := { c.flex with
      taken := bump c.flex.taken
      echoing := if echo = none then c.flex.echoing else bump c.flex.echoing
      nearest :=
        match echo with
        | none => c.flex.nearest
        | some x =>
            if (∀ b, c.echoBase = some b → x.t1 + 8 < b.tEnd) ∧ (∀ y, c.flex.nearest = some y → x.t1 < y.t1) then some x
            else c.flex.nearest } } := by
  cases echo with
  | none => rfl
  | some x =>
    have hqualifies : c.qualifies x.t1 = true ↔ ∀ b, c.echoBase = some b → x.t1 + 8 < b.tEnd := by
      unfold Cable.qualifies
      cases c.echoBase <;> simp
    have hnearer : c.flex.nearer x = if ∀ y, c.flex.nearest = some y → x.t1 < y.t1 then some x else c.flex.nearest := by
      unfold FlexRecord.nearer
      cases hn : c.flex.nearest <;> simp
    simp only [Cable.keepLive, hnearer, reduceCtorEq, if_false, ite_and, hqualifies]

/-- A LIVE shot that completes (R147). -/
theorem Ev.liveDone_eq (e : Ev) (shot : Samples) {p : PortId} {d : Nat} {echo : Option NearestEcho}
    (hholder : e.meter.holder = some (.live p, d)) (hecho : e.liveEcho p shot = echo) :
    e.liveDone shot = ((((e.reach d).updMeter fun m => { m with holder := none }).countMeter fun c =>
        { c with liveTaken := bump c.liveTaken, liveEcho := if echo.isSome then bump c.liveEcho else c.liveEcho }).updCable p
      fun c => if (e.port p).feed.power = .full then c.keepLive echo else c).push .meter := by
  have hreach : (e.reach d).liveEcho p shot = echo := hecho
  rw [Ev.liveDone, hholder]
  simp only [hreach, Ev.countMeter_port, Ev.updMeter_port, Ev.reach_port]
  split
  · rfl
  · exact (congrArg (fun v => (({ ((e.reach d).updMeter fun m => { m with holder := none }).countMeter fun c =>
      { c with liveTaken := bump c.liveTaken, liveEcho := if echo.isSome then bump c.liveEcho else c.liveEcho } with
        ports := v } : Ev).push .meter)) (modifyAt_same e.ports p rfl)).symm

/-- Settles O53: the pick, case by case, and the LIVE result kept. -/
theorem meterGrantsAndLiveShots : Obligations.MeterGrantsAndLiveShots := by
  refine ⟨fun s p hs hholder hcal => ⟨fun hlive => ⟨fun hlink ⟨y, hsession⟩ => ?_, fun hlink hoffered => ?_⟩,
    fun hlive hoffered => ⟨fun hnot => ?_, fun hoff hquiet => ⟨fun hlead => ?_, fun h1 h2 h3 => ?_⟩⟩⟩,
    fun s p d shot echo hs hholder hcal hlive hoffered hecho => ?_⟩
  · have hlost : (s.port p).tether.lockLost = true := by simp [Tether.lockLost, hlink, hsession]
    exact congrArg Host.Outcome.next (s.blockEvent_quiet _ hs ((Ev.meterServe_pick _ hholder hcal).trans
      (Ev.meterPick_live _ 8 hlive hlost)))
  · have hlost : (s.port p).tether.lockLost = false := by simp [Tether.lockLost, hlink]
    exact congrArg Host.Outcome.next (s.blockEvent_quiet _ hs ((Ev.meterServe_pick _ hholder hcal).trans
      (Ev.meterPick_skip _ 7 hlive hlost hoffered)))
  · have hrefuse : ¬ ((s.port p).feed.power.feedOn = false ∧ (s.port p).tether.link = .quiet) := by
      rintro ⟨h, h'⟩
      obtain hnot | hnot := hnot
      · simp [h] at hnot
      · exact hnot h'
    exact congrArg Host.Outcome.next (s.blockEvent_quiet s (e := s.begin) hs ((Ev.meterServe_pick _ hholder hcal).trans
      ((Ev.meterPick_full _ 8 hlive hoffered).trans (if_neg hrefuse))))
  · exact congrArg Host.Outcome.next (s.blockEvent_quiet _ hs ((Ev.meterServe_pick _ hholder hcal).trans
      ((Ev.meterPick_full _ 8 hlive hoffered).trans ((if_pos ⟨hoff, hquiet⟩).trans
        (if_pos ((Timebase.leads_iff _).mpr hlead))))))
  · have hlead : ¬ s.meter.timebase.leads = true := by simp [Timebase.leads_iff, h1, h2, h3]
    exact congrArg Host.Outcome.next (s.blockEvent_quiet _ hs ((Ev.meterServe_pick _ hholder hcal).trans
      ((Ev.meterPick_full _ 8 hlive hoffered).trans ((if_pos ⟨hoff, hquiet⟩).trans (if_neg hlead)))))
  · have hact := Ev.liveDone_eq s.begin shot hholder hecho.symm
    have hcount : (if echo.isSome = true then bump s.meter.counters.liveEcho else s.meter.counters.liveEcho)
        = if echo = none then s.meter.counters.liveEcho else bump s.meter.counters.liveEcho := by
      cases echo <;> rfl
    refine congrArg Host.Outcome.next (s.blockEvent_silent _ hs hact (Ev.settle_last _ .meter rfl
      (Ev.meterServe_unasked _ hcal hlive hoffered) rfl) rfl rfl ?_)
    rw [s.onCable_congr p (g := fun c => if (s.port p).feed.power = .full then c.keepLive echo else c), ← hcount]
    · rfl
    · refine Eq.trans ?_ (congrArg (fun c => if (s.port p).feed.power = .full then c else (s.port p).cable)
        (Cable.keepLive_eq (s.port p).cable echo).symm)
      exact ite_not (p := (s.port p).feed.power = .full) _ _

end Sys2Proof.Machine
end

section
/-! Findings (R176), faults that are only reported (R168), the flex window (R162, R165) and the discharge timer (R171). -/

namespace Sys2Proof.Machine

set_option Elab.async false

@[simp] theorem State.noticed_port (s : State) (l : List Notice) (p : PortId) : (s.noticed l).port p = s.port p := rfl
@[simp] theorem State.noticed_breaks (s : State) (l : List Notice) : (s.noticed l).breaks = s.breaks := rfl
@[simp] theorem State.noticed_meter (s : State) (l : List Notice) : (s.noticed l).meter = s.meter := rfl
@[simp] theorem State.noticed_time (s : State) (l : List Notice) : (s.noticed l).time = s.time := rfl
@[simp] theorem State.noticed_pool (s : State) (l : List Notice) : (s.noticed l).pool = s.pool := rfl
@[simp] theorem State.noticed_relay (s : State) (l : List Notice) : (s.noticed l).relay = s.relay := rfl

/-! ### Findings (R176) -/

/-- A coalesced finding is the new one with another repeat count, and stands in the history. -/
theorem coalesce_spec {f : Finding} {l l' : List Finding} {m : Finding} (h : coalesce f l = some (l', m)) :
    (∃ n, m = { f with repeats := n }) ∧ m ∈ l' := by
  induction l generalizing l' with
  | nil => cases h
  | cons g rest ih =>
    rw [coalesce] at h
    split at h
    · split at h
      · obtain ⟨rfl, rfl⟩ : _ = l' ∧ _ = m := by simpa using h
        exact ⟨⟨_, rfl⟩, List.mem_cons_self⟩
      · cases h
    · cases hrest : coalesce f rest with
      | none => simp [hrest] at h
      | some x =>
        obtain ⟨l₁, m₁⟩ := x
        obtain ⟨rfl, rfl⟩ : g :: l₁ = l' ∧ m₁ = m := by simpa [hrest] using h
        obtain ⟨hm, hmem⟩ := ih hrest
        exact ⟨hm, List.mem_cons_of_mem _ hmem⟩

/-- An appended finding is the newest entry. -/
theorem mem_appendFinding (l : List Finding) (f : Finding) : f ∈ appendFinding l f := by
  rw [appendFinding, List.drop_append_of_le_length (by simp [Config.findingEntries])]
  simp

/-- What the writing of a finding does: the port's latest and its counter, the history, and a notice (R176). -/
theorem Ev.writeFinding_eq (e : Ev) (f : Finding) :
    ∃ (m : Finding) (b : Breaks) (isNew : Bool), (∃ n, m = { f with repeats := n }) ∧ m ∈ b.findings
      ∧ b.queue = e.breaks.queue ∧ b.dischargeTimer = e.breaks.dischargeTimer
      ∧ e.writeFinding f = ((e.updBreaks fun _ => b).updCable f.port fun c =>
          { c with latest := some m, counters := { c.counters with findings := bump c.counters.findings } }).offer
            (.finding m isNew) := by
  have htwice (b : Breaks) (m : Finding) (isNew : Bool) :
      (((e.countCable f.port fun c => { c with findings := bump c.findings }).updBreaks fun _ => b).updCable f.port fun c =>
        { c with latest := some m }).offer (.finding m isNew)
      = ((e.updBreaks fun _ => b).updCable f.port fun c =>
          { c with latest := some m, counters := { c.counters with findings := bump c.counters.findings } }).offer
            (.finding m isNew) :=
    congrArg (fun v => (({ e with breaks := b, ports := v } : Ev).offer (.finding m isNew))) (modifyAt_twice e.ports f.port
      (fun x => { x with cable := { x.cable with
        counters := { x.cable.counters with findings := bump x.cable.counters.findings } } })
      fun x => { x with cable := { x.cable with latest := some m } })
  cases hc : coalesce f e.breaks.findings.reverse with
  | some x =>
    obtain ⟨l, m⟩ := x
    obtain ⟨hm, hmem⟩ := coalesce_spec hc
    refine ⟨m, { e.breaks with findings := l.reverse, coalesced := bump e.breaks.coalesced }, false, hm,
      List.mem_reverse.mpr hmem, rfl, rfl, Eq.trans ?_ (htwice _ m false)⟩
    rw [Ev.writeFinding]
    simp only [Ev.countCable_breaks, hc]
    rfl
  | none =>
    refine ⟨f, { e.breaks with
      findings := appendFinding e.breaks.findings f
      overwrites := if Config.findingEntries ≤ e.breaks.findings.length then bump e.breaks.overwrites
        else e.breaks.overwrites }, true, ⟨f.repeats, rfl⟩, mem_appendFinding _ _, rfl, rfl, Eq.trans ?_ (htwice _ f true)⟩
    rw [Ev.writeFinding]
    simp only [Ev.countCable_breaks, hc]
    rfl

/-! ### Faults (R168) -/

/-- A fault whose reaction is REPORT is counted and told of, and changes nothing else (R168). -/
theorem Ev.raiseFault_report (e : Ev) (p : PortId) (kind : FaultKind) (hkind : kind ≠ .feedInfeasible)
    (hshort : kind ≠ .probeShort) (hreport : (e.port p).cable.reactions.get kind.index = .report) :
    e.raiseFault p kind
      = (e.countCable p fun c => { c with faults := modifyAt c.faults kind.index bump }).offer
          (.fault p kind .report (e.port p).feed.power (e.port p).feed.retry e.msClock) := by
  have hr : (e.port p).cable.reactionTo kind = .report := (if_neg hkind).trans hreport
  simp only [Ev.raiseFault, Ev.takeFault, hr, hshort, false_and, if_false]
  rfl

/-! ### The flex window (R162, R165) -/

theorem State.flexFinding_port (s : State) (p : PortId) (f : FlexRecord) : (s.flexFinding p f).port = p := by
  unfold State.flexFinding
  cases f.nearest <;> rfl

/-- The INTERMITTENT finding of a window, with the distance of its nearest echo (R165). -/
theorem State.flexFinding_fields (s : State) (p : PortId) (f : FlexRecord) :
    (s.flexFinding p f).kind = .intermittent ∧ (s.flexFinding p f).source = .flex
      ∧ (s.flexFinding p f).distance = f.nearest.map NearestEcho.distance
      ∧ (s.flexFinding p f).polarity = f.nearest.map NearestEcho.polarity := by
  unfold State.flexFinding
  cases f.nearest <;> exact ⟨rfl, rfl, rfl, rfl⟩

/-- The break records after a flex window that reached its threshold or did not (R165). -/
def Cable.windowEnded (c : Cable) (far : Bool) (now : Nat) : Cable :=
  { c with
    flex := {}, flexTimer := some (now + 1000000)
    counters := { c.counters with
      judged := bump c.counters.judged
      overThreshold := if far then bump c.counters.overThreshold else c.counters.overThreshold } }

theorem Ev.flexEnd_eq (e : Ev) (p : PortId) {d : Nat} {far : Bool} (htimer : (e.port p).cable.flexTimer = some d)
    (hfar : decide ((e.port p).feed.settings.flexThreshold
      ≤ 4 * (e.port p).cable.flex.lockLosses + (e.port p).cable.flex.crcBad) = far) :
    e.flexEnd p =
      if far then
        (((e.reach d).updCable p fun c => c.windowEnded far (max e.time d)).writeFinding
          ((((e.reach d).updCable p fun c => c.windowEnded far (max e.time d)).flexFinding p
            (e.port p).cable.flex))).raiseFault p .intermittent
      else (e.reach d).updCable p fun c => c.windowEnded far (max e.time d) := by
  have htwice : (((e.reach d).updCable p fun c => { c with flex := {}, flexTimer := some (max e.time d + 1000000) }).countCable
        p fun c => { c with judged := bump c.judged
                            overThreshold := if far then bump c.overThreshold else c.overThreshold })
      = (e.reach d).updCable p fun c => c.windowEnded far (max e.time d) :=
    congrArg (fun v => ({ e.reach d with ports := v } : Ev)) (modifyAt_twice e.ports p
      (fun x => { x with cable := { x.cable with flex := {}, flexTimer := some (max e.time d + 1000000) } })
      fun x => { x with cable := { x.cable with counters := { x.cable.counters with
        judged := bump x.cable.counters.judged
        overThreshold := if far then bump x.cable.counters.overThreshold else x.cable.counters.overThreshold } } })
  rw [← htwice]
  subst hfar
  exact Ev.onExpiry_some _ _ htimer

/-- The head of the diagnosis queue has waited out its discharge (R171). -/
theorem Ev.dischargeEnd_eq (e : Ev) {d : Nat} {x : DiagEntry} {rest : List DiagEntry}
    (htimer : e.breaks.dischargeTimer = some d) (hqueue : e.breaks.queue = x :: rest) :
    e.dischargeEnd = ((e.reach d).updBreaks fun b => { b with dischargeTimer := none }).offerFull x.port :=
  (Ev.onExpiry_some _ _ htimer).trans (by simp [hqueue])

/-- Settles O55: below the threshold only the window, above it the finding and a fault that is only reported. -/
theorem flexWindowsAndDischarges : Obligations.FlexWindowsAndDischarges := by
  refine ⟨fun s p d hs htimer => ⟨fun hbelow => ?_, fun habove hreport => ?_⟩, fun s d x rest hs htimer hqueue hholder => ?_⟩
  · exact congrArg Host.Outcome.next (s.blockEvent_quiet _ hs
      (Ev.flexEnd_eq _ p htimer (decide_eq_false (Nat.not_le.mpr hbelow))))
  · have hact := Ev.flexEnd_eq s.begin p htimer (decide_eq_true habove)
    rw [if_pos rfl] at hact
    obtain ⟨m, b, isNew, ⟨n, hm⟩, hmem, -, -, hw⟩ := Ev.writeFinding_eq
      ((s.begin.reach d).updCable p fun c => c.windowEnded true (max s.begin.time d))
      (((s.begin.reach d).updCable p fun c => c.windowEnded true (max s.begin.time d)).flexFinding p
        (s.begin.port p).cable.flex)
    rw [hw, State.flexFinding_port, Ev.raiseFault_report _ p .intermittent (by decide) (by decide)
      (by simpa [Cable.windowEnded] using hreport)] at hact
    have hfields := State.flexFinding_fields
      ((s.begin.reach d).updCable p fun c => c.windowEnded true (max s.begin.time d)).toState p (s.begin.port p).cable.flex
    obtain ⟨hkind, hsource, hdistance, hpolarity⟩ := hfields
    refine ⟨_, m, congrArg Host.Outcome.next (s.blockEvent_noticed _ hs hact (Ev.settle_done _ rfl)), ?_⟩
    refine ⟨by simp [Cable.windowEnded], by simp [Cable.windowEnded], by simp [Cable.windowEnded], by simp, hmem,
      hm ▸ hkind, hm ▸ hsource, hm ▸ hdistance, hm ▸ hpolarity, by simp, fun q hq => ?_⟩
    simp [Ev.countCable, Ev.updCable_port_other _ _ _ _ hq]
  · exact congrArg Host.Outcome.next (s.blockEvent_silent _ hs (Ev.dischargeEnd_eq _ htimer hqueue)
      (Ev.settle_last _ .meter rfl (Ev.meterServe_busy _ hholder) rfl))

end Sys2Proof.Machine
end

section
/-! The queue head and the exposure record (R80 to R89). -/

namespace Sys2Proof.Machine

set_option Elab.async false

/-! ### Examinations (R84 to R87) -/

theorem Ev.examineHeads_empty (e : Ev) (p : PortId) (k : Nat) (hqueue : (e.port p).capture.queue = [])
    (hwant : (e.port p).capture.want = none) : Ev.examineHeads p k e = e := by
  cases k <;> simp [Ev.examineHeads, hqueue, Ev.endExamination, hwant]

/-- A stale head is dropped, and the next one is examined (R85). -/
theorem Ev.examineHeads_stale (e : Ev) (p : PortId) (k : Nat) {x : PendingTrigger} {rest : List PendingTrigger}
    (hqueue : (e.port p).capture.queue = x :: rest) (hstale : x.isStale e.time = true) :
    Ev.examineHeads p (k + 1) e
      = Ev.examineHeads p k ((e.dropHead p).loseTrigger p x.tag x.source x.step x.preset .stale) := by
  simp only [Ev.examineHeads, hqueue, hstale, if_true]

/-- A head that passes every test is dispatched, and the next one is examined (R86, R87). -/
theorem Ev.examineHeads_pass (e : Ev) (p : PortId) (k : Nat) {x : PendingTrigger} {rest : List PendingTrigger}
    (hqueue : (e.port p).capture.queue = x :: rest) (hfresh : x.isStale e.time = false)
    (hready : (e.port p).unavailable = false) (hverdict : (e.port p).lens.judge (x.needs (e.port p).lens) = .pass)
    (hclear : (e.port p).interlocked = false) :
    Ev.examineHeads p (k + 1) e = Ev.examineHeads p k (e.dispatch p x) := by
  simp only [Ev.examineHeads, hqueue, hfresh, hready, hverdict, hclear, Bool.false_eq_true, if_false]

/-- A head that passes the tests of R85 and R86 waits for the interlock (R87). -/
theorem Ev.examineHeads_interlocked (e : Ev) (p : PortId) (k : Nat) {x : PendingTrigger} {rest : List PendingTrigger}
    (hqueue : (e.port p).capture.queue = x :: rest) (hfresh : x.isStale e.time = false)
    (hready : (e.port p).unavailable = false) (hverdict : (e.port p).lens.judge (x.needs (e.port p).lens) = .pass)
    (hlocked : (e.port p).interlocked = true) :
    Ev.examineHeads p (k + 1) e = e.endExamination p := by
  simp only [Ev.examineHeads, hqueue, hfresh, hready, hverdict, hlocked, Bool.false_eq_true, if_false, if_true]

/-- The only head is stale: it is dropped, and the examination ends (R85). -/
theorem Ev.examine_stale (e : Ev) (p : PortId) {x : PendingTrigger} (hqueue : (e.port p).capture.queue = [x])
    (hstale : x.isStale e.time = true) (hwant : (e.port p).capture.want = none) :
    e.examine p = (e.updCapture p fun c =>
        { c with queue := [], counters := { c.counters with stale := bump c.counters.stale } }).offer
      (.triggerLoss p x.tag x.source x.step x.preset .stale e.usClock) := by
  have hdrop : (e.dropHead p).loseTrigger p x.tag x.source x.step x.preset .stale
      = (e.updCapture p fun c =>
          { c with queue := [], counters := { c.counters with stale := bump c.counters.stale } }).offer
        (.triggerLoss p x.tag x.source x.step x.preset .stale e.usClock) := by
    refine congrArg (fun v => (({ e with ports := v } : Ev).offer
      (.triggerLoss p x.tag x.source x.step x.preset .stale e.usClock))) ((modifyAt_twice e.ports p
        (fun y => { y with capture := { y.capture with queue := y.capture.queue.tail } })
        fun y => { y with capture := { y.capture with counters := y.capture.counters.countLoss .stale } }).trans
          (modifyAt_congr e.ports p ?_))
    have hqueue' : (e.ports.get p).capture.queue = [x] := hqueue
    simp only [hqueue', List.tail_cons]
    rfl
  rw [Ev.examine, hqueue]
  refine (e.examineHeads_stale p 1 hqueue hstale).trans ((congrArg (Ev.examineHeads p 1) hdrop).trans ?_)
  exact Ev.examineHeads_empty _ p 1 (by simp) (by simpa using hwant)

/-- The exposure record of a dispatched trigger at a camera without a motorized lens (R88). -/
def PendingTrigger.exposureAt (t : PendingTrigger) (now : Nat) : Exposure :=
  { tag := t.tag, source := t.source, step := t.step, preset := t.preset, invalid := t.invalid, unreferenced := false
    exposure := t.exposure, dispatch := now, deadline := now + t.exposure + 50000 }

/-- A port whose only pending trigger has been dispatched (R87, R88). -/
def Port.dispatched (x : Port) (t : PendingTrigger) (now : Nat) : Port :=
  { x with
    tether := { x.tether with queue := x.tether.queue ++ [.trigger t.tag t.exposure] }
    capture := { x.capture with
      queue := [], exposure := some (t.exposureAt now)
      counters := { x.capture.counters with dispatched := bump x.capture.counters.dispatched } } }

theorem Ev.dispatch_absent (e : Ev) (p : PortId) {t : PendingTrigger} (hlens : (e.port p).lens.state = .absent)
    (hqueue : (e.port p).capture.queue = [t]) :
    e.dispatch p t = (e.updPort p fun x => x.dispatched t e.time).push (.channel p) := by
  have hqueue' : (e.ports.get p).capture.queue = [t] := hqueue
  have hcolumn : (e.dispatch p t).ports = (e.updPort p fun x => x.dispatched t e.time).ports := by
    simp only [Ev.dispatch, Ev.dropHead, Ev.countCapture, Ev.updCapture, Ev.handTrigger, Ev.updTether, Ev.updPort, Ev.push,
      modifyAt_twice, hlens]
    refine modifyAt_congr _ _ ?_
    simp only [hqueue', List.tail_cons]
    rfl
  exact congrArg (fun v => (({ e with ports := v } : Ev).push (.channel p))) hcolumn

/-- The only head passes every test and is dispatched (R84, R86, R87). -/
theorem Ev.examine_dispatch (e : Ev) (p : PortId) {t : PendingTrigger} (hqueue : (e.port p).capture.queue = [t])
    (hfresh : t.isStale e.time = false) (hwant : (e.port p).capture.want = none)
    (hexposure : (e.port p).capture.exposure = none) (hhold : (e.port p).feed.hold = false)
    (hlink : (e.port p).tether.link = .up) (hlens : (e.port p).lens.state = .absent)
    (hwrite : (e.port p).tether.camWriteStands = false) :
    e.examine p = (e.updPort p fun x => x.dispatched t e.time).push (.channel p) := by
  have hverdict : (e.port p).lens.judge (t.needs (e.port p).lens) = .pass := by simp [Lens.judge, hlens]
  have hready : (e.port p).unavailable = false := by simp [Port.unavailable, hhold, hlink]
  have hclear : (e.port p).interlocked = false := by simp [Port.interlocked, hexposure, hwrite]
  rw [Ev.examine, hqueue]
  refine (e.examineHeads_pass p 1 hqueue hfresh hready hverdict hclear).trans
    ((congrArg (Ev.examineHeads p 1) (e.dispatch_absent p hlens hqueue)).trans ?_)
  exact Ev.examineHeads_empty _ p 1 (by simp [Ev.port_updPort, Port.dispatched])
    (by simpa [Ev.port_updPort, Port.dispatched] using hwant)

theorem PendingTrigger.isStale_of_none_before {t : PendingTrigger} {now : Nat} (h : ∀ d, t.stale = some d → now < d) :
    t.isStale now = false := by
  unfold PendingTrigger.isStale
  cases hs : t.stale with
  | none => rfl
  | some d => simpa using h d hs

/-- The deadline of an exposure closes its record MISSED (R89). -/
theorem Ev.exposureEnd_eq (e : Ev) (p : PortId) {x : Exposure} (hexposure : (e.port p).capture.exposure = some x) :
    e.exposureEnd p = ((((e.reach x.deadline).updCapture p fun c =>
        { c with exposure := none, counters := { c.counters with missed := bump c.counters.missed } }).offer
      (.triggerLoss p x.tag x.source x.step x.preset .missed (e.reach x.deadline).usClock)).push (.handIn p)).push
        (.examine p) := by
  rw [Ev.exposureEnd, hexposure]
  exact congrArg (fun v => ((({ e.reach x.deadline with ports := v } : Ev).offer
      (.triggerLoss p x.tag x.source x.step x.preset .missed (e.reach x.deadline).usClock)).push (.handIn p)).push
        (.examine p)) (modifyAt_twice e.ports p
    (fun y => { y with capture := { y.capture with counters := y.capture.counters.countLoss .missed } })
    fun y => { y with capture := { y.capture with exposure := none } })

/-- Settles O33: the examinations of an only head, and the close of an exposure record. -/
theorem pendingTriggersAndExposuresEnd : Obligations.PendingTriggersAndExposuresEnd := by
  refine ⟨fun s p x d hs hqueue hstale hwant => ?_,
    fun s p x hs hqueue hfresh hwant hexposure hhold hlink hlens hwrite hbusy => ?_,
    fun s p x hs hexposure hqueue hwant hlens => ?_⟩
  · have hdeadline : (s.begin.port p).capture.staleTimer = some d := by simp [Capture.staleTimer, hqueue, hstale]
    have hreached : x.isStale (max s.time d) = true := by simp [PendingTrigger.isStale, hstale]
    exact congrArg Host.Outcome.next (s.blockEvent_noticed _ hs
      ((Ev.onExpiry_some _ _ hdeadline).trans (Ev.examine_stale _ p hqueue hreached hwant)) (Ev.settle_done _ rfl))
  · exact congrArg Host.Outcome.next (s.blockEvent_silent _ hs
      (Ev.examine_dispatch _ p hqueue (PendingTrigger.isStale_of_none_before hfresh) hwant hexposure hhold hlink hlens hwrite)
      (Ev.settle_last _ (.channel p) rfl (Ev.startChannel_same _ p (Tether.startChannel_busy _
        (by simpa [Ev.port_updPort, Port.dispatched] using hbusy))) rfl))
  · refine congrArg Host.Outcome.next (s.blockEvent_noticed _ hs (Ev.exposureEnd_eq _ p hexposure)
      (Ev.settle_idle _ (fun t ht => ?_) (of_decide_eq_true rfl)))
    have ht : t = .handIn p ∨ t = .examine p := by simpa using ht
    obtain rfl | rfl := ht
    · exact Ev.idle_handIn _ p (Port.mayHandIn_of_state _ (by simpa using hlens))
    · exact Ev.idle_examine _ p (by simpa using hqueue) (by simpa using hwant)

end Sys2Proof.Machine
end

section
/-! Acceptance of a trigger and the steps of capture programs (R78 to R83). -/

namespace Sys2Proof.Machine

set_option Elab.async false

/-! ### Steps (R82) -/

/-- The resolution of a step leaves the pending triggers, the exposure, the want and the counters (R82). -/
theorem Capture.resolve_kept (c : Capture) (exposure : Nat) :
    (c.resolve exposure).2.queue = c.queue ∧ (c.resolve exposure).2.exposure = c.exposure
      ∧ (c.resolve exposure).2.want = c.want ∧ (c.resolve exposure).2.counters = c.counters := by
  unfold Capture.resolve
  split
  · exact ⟨rfl, rfl, rfl, rfl⟩
  · dsimp only
    split <;> exact ⟨rfl, rfl, rfl, rfl⟩

theorem Capture.resolve_default (c : Capture) (exposure : Nat) (h : c.program = []) :
    c.resolve exposure = ((.default, none, exposure), c) := by
  simp [Capture.resolve, h]

theorem Capture.resolve_step (c : Capture) (exposure : Nat) {x : ProgramStep} (h : c.program[c.cursor]? = some x) :
    c.resolve exposure = ((.index c.cursor, x.preset, x.exposure),
      if c.cursor + 1 < c.program.length then { c with cursor := c.cursor + 1 }
      else { c with cursor := 0, program := c.staged.getD c.program, staged := none }) := by
  simp only [Capture.resolve, h]

/-! ### One port behind a pin (R74, R78) -/

/-- A pin without a holdoff that gives a trigger to one port (R74, R78). -/
theorem Ev.pinEdge_single (e : Ev) (pin : Fin 4) (p : PortId) {source : Source} {e' : Ev}
    (hrun : e.link.opState = .run) (hedge : (e.router.pins.get pin).edge = .both)
    (htimer : (e.router.pins.get pin).timer = none) (hholdoff : (e.router.pins.get pin).holdoff = 0)
    (hports : maskPorts (e.router.map.get pin.castSucc) = [p]) (hsource : source.index = pin.castSucc)
    (haccept : (e.updRouter fun r => r.given source).acceptTrigger e.router.tagCounter source p = e')
    (hpins : e'.router.pins = e.router.pins) : e.pinEdge pin true = e' := by
  have hindex : ∀ a b : Source, a.index = b.index → a = b := by
    intro a b
    cases a <;> cases b <;> decide
  have hof : sourceOfPin pin = source := hindex _ _ ((sourceOfPin_index_eq pin).trans hsource.symm)
  have hgive : e.giveTrigger source = e' := by
    rw [Ev.giveTrigger, hsource, hports, ← haccept, ← hsource]
    rfl
  have hkeep : (e'.router.updPin pin fun x => x.startHoldoff e.time) = e'.router := by
    have hpin : (e'.router.pins.get pin).startHoldoff e.time = e'.router.pins.get pin := by
      rw [hpins, PinSource.startHoldoff, if_pos hholdoff, ← htimer]
    exact congrArg (fun v => ({ e'.router with pins := v } : Router)) (modifyAt_same _ _ hpin)
  have hcounts : e.link.opState = .run ∧ (e.router.pins.get pin).edge.names true = true := by
    simp [hrun, hedge, EdgeSelection.names]
  rw [Ev.pinEdge, if_pos hcounts, Ev.countedEdge, htimer, hof, hgive]
  exact congrArg (fun r => ({ e' with router := r } : Ev)) hkeep

/-! ### Acceptance (R80) -/

theorem Ev.acceptTrigger_unavailable (e : Ev) (tag : Half) (source : Source) (p : PortId)
    (h : (e.port p).feed.power ≠ .full ∨ (e.port p).tether.link ≠ .up ∨ (e.port p).feed.hold = true) :
    e.acceptTrigger tag source p = e.loseTrigger p tag source .absent none .unavailable := if_pos h

theorem Ev.acceptTrigger_overrun (e : Ev) (tag : Half) (source : Source) (p : PortId)
    (hpower : (e.port p).feed.power = .full) (hlink : (e.port p).tether.link = .up) (hhold : (e.port p).feed.hold = false)
    (hfull : 4 ≤ (e.port p).capture.queue.length) :
    e.acceptTrigger tag source p = e.loseTrigger p tag source .absent none .overrun := by
  have hready : ¬ ((e.port p).feed.power ≠ .full ∨ (e.port p).tether.link ≠ .up ∨ (e.port p).feed.hold = true) := by
    simp [hpower, hlink, hhold]
  exact (if_neg hready).trans (if_pos hfull)

/-- A trigger accepted at a port without a pending one forms its entry, which is examined (R80). -/
theorem Ev.acceptTrigger_accepted (e : Ev) (tag : Half) (source : Source) (p : PortId) {r : StepRef × Option PresetId × Nat}
    {c : Capture} (hpower : (e.port p).feed.power = .full) (hlink : (e.port p).tether.link = .up)
    (hhold : (e.port p).feed.hold = false) (hqueue : (e.port p).capture.queue = [])
    (hresolve : (e.port p).capture.resolve (e.port p).feed.settings.defaultExposure = (r, c)) :
    e.acceptTrigger tag source p
      = (e.updCapture p fun _ => { c with
          queue := [(e.port p).formEntry e.time tag source]
          counters := { c.counters with accepted := bump c.counters.accepted } }).examine p := by
  have hready : ¬ ((e.port p).feed.power ≠ .full ∨ (e.port p).tether.link ≠ .up ∨ (e.port p).feed.hold = true) := by
    simp [hpower, hlink, hhold]
  have hroom : ¬ Config.pendingTriggers ≤ (e.port p).capture.queue.length := by
    rw [hqueue]
    decide
  have hc : c.queue = [] := by
    have := ((e.port p).capture.resolve_kept (e.port p).feed.settings.defaultExposure).1
    rwa [hresolve, hqueue] at this
  have hstep : (e.updCapture p fun c => (c.resolve (e.port p).feed.settings.defaultExposure).2).port p
      = { e.port p with capture := c } := by
    rw [Ev.updCapture_port, hresolve]
  have hold : ∀ e' : Ev, (e'.port p).capture = c → e'.dropSameTag p tag
      = e'.updCapture p fun c => { c with queue := c.queue.filter fun t => decide (t.tag ≠ tag) } := by
    intro e' he'
    rw [Ev.dropSameTag, he', hc]
    rfl
  refine (if_neg hready).trans ((if_neg hroom).trans ?_)
  dsimp only
  rw [hold _ (congrArg Port.capture hstep)]
  simp only [Ev.countCapture, Ev.updCapture, Ev.updPort, modifyAt_twice]
  refine congrArg (fun v => (({ e with ports := v } : Ev).examine p)) (modifyAt_congr _ _ ?_)
  have hresolve' : (e.ports.get p).capture.resolve (e.port p).feed.settings.defaultExposure = (r, c) := hresolve
  simp only [hresolve', hc, List.filter_nil, List.nil_append]

/-- The entry that an accepted trigger forms is not stale at once (R80, R85). -/
theorem Port.formEntry_fresh (x : Port) (now : Nat) (tag : Half) (source : Source) :
    (x.formEntry now tag source).isStale now = false := by
  refine PendingTrigger.isStale_of_none_before fun d hd => ?_
  have hdeadline : (if x.feed.settings.holdLimit = 0 then none else some (now + x.feed.settings.holdLimit * 1000)) = some d := hd
  split at hdeadline
  · cases hdeadline
  · have := Option.some.inj hdeadline
    omega

/-- The only head waits for the open exposure (R87). -/
theorem Ev.examine_interlocked (e : Ev) (p : PortId) {t : PendingTrigger} (hqueue : (e.port p).capture.queue = [t])
    (hfresh : t.isStale e.time = false) (hwant : (e.port p).capture.want = none)
    (hexposure : (e.port p).capture.exposure ≠ none) (hhold : (e.port p).feed.hold = false)
    (hlink : (e.port p).tether.link = .up) (hlens : (e.port p).lens.state = .absent) : e.examine p = e := by
  have hverdict : (e.port p).lens.judge (t.needs (e.port p).lens) = .pass := by simp [Lens.judge, hlens]
  have hready : (e.port p).unavailable = false := by simp [Port.unavailable, hhold, hlink]
  have hlocked : (e.port p).interlocked = true := by
    simp [Port.interlocked, Option.isSome_iff_ne_none.mpr hexposure]
  rw [Ev.examine, hqueue]
  refine (e.examineHeads_interlocked p 1 hqueue hfresh hready hverdict hlocked).trans ?_
  simp [Ev.endExamination, hwant]

/-- Settles O32: the steps of a program, the two refusals, and the entry formed, dispatched or kept waiting. -/
theorem triggersAreAcceptedAndDispatched : Obligations.TriggersAreAcceptedAndDispatched := by
  refine ⟨fun c exposure => ⟨c.resolve_default exposure, fun x hx => ?_⟩,
    fun s pin p hs hrun hedge htimer hholdoff hports given source hgiven hsource => ?_⟩
  · have hstep := c.resolve_step exposure hx
    refine ⟨fun hlt => ?_, fun hend => ⟨fun hstaged => ?_, fun l hstaged => ?_⟩⟩
    · rw [hstep, if_pos hlt]
    · rw [hstep, if_neg (by omega), hstaged]
      rfl
    · rw [hstep, if_neg (by omega), hstaged]
      rfl
  have hgiven' : given = { s with router := s.router.given source } := by
    rw [hgiven, ← hsource]
    rfl
  subst hgiven'
  have hexec {e' : Ev} (haccept : (s.begin.updRouter fun r => r.given source).acceptTrigger s.router.tagCounter source p = e')
      (hpins : e'.router.pins = s.router.pins) : s.begin.pinEdge pin true = e' :=
    Ev.pinEdge_single s.begin pin p hrun hedge htimer hholdoff hports hsource haccept hpins
  refine ⟨fun hnot => ?_, fun hpower hlink hhold => ⟨fun hfull => ?_,
    fun step preset exposure c invalid kept hresolve hlens hwant hqueue hinvalid hkept => ?_⟩⟩
  · exact congrArg Host.Outcome.next (s.blockEvent_noticed _ hs
      (hexec (Ev.acceptTrigger_unavailable _ _ _ _ hnot) rfl) (Ev.settle_done _ rfl))
  · exact congrArg Host.Outcome.next (s.blockEvent_noticed _ hs
      (hexec (Ev.acceptTrigger_overrun _ _ _ _ hpower hlink hhold hfull) rfl) (Ev.settle_done _ rfl))
  · obtain ⟨hcqueue, hcexposure, hcwant, -⟩ :=
      (s.port p).capture.resolve_kept (s.port p).feed.settings.defaultExposure
    simp only [hresolve] at hcqueue hcexposure hcwant
    have hnames : (s.port p).lens.namesInvalid preset = invalid := hinvalid.symm
    have hcq : c.queue = [] := hcqueue.trans hqueue
    obtain ⟨t, ht⟩ : ∃ t : PendingTrigger, t =
        { tag := s.router.tagCounter, source := source, step := step, preset := kept, invalid := invalid,
          exposure := exposure, arrival := s.time,
          stale := if (s.port p).feed.settings.holdLimit = 0 then none
            else some (s.time + (s.port p).feed.settings.holdLimit * 1000) } := ⟨_, rfl⟩
    have hentry : (s.port p).formEntry s.time s.router.tagCounter source = t := by
      simp only [Port.formEntry, hresolve, hnames, hkept, ht]
      rfl
    have hfresh := (s.port p).formEntry_fresh s.time s.router.tagCounter source
    have haccept := Ev.acceptTrigger_accepted (s.begin.updRouter fun r => r.given source) s.router.tagCounter source p
      hpower hlink hhold hqueue hresolve
    rw [show ((s.begin.updRouter fun r => r.given source).port p).formEntry (s.begin.updRouter fun r => r.given source).time
      s.router.tagCounter source = t from hentry] at haccept
    rw [hentry] at hfresh
    refine ⟨fun hexposure hwrite hbusy => ?_, fun hexposure => ?_⟩
    · refine congrArg Host.Outcome.next (s.blockEvent_silent _ hs (hexec (haccept.trans (Ev.examine_dispatch _ p
        (by simp) hfresh (by simpa using hcwant.trans hwant) (by simpa using hcexposure.trans hexposure)
        (by simpa using hhold) (by simpa using hlink) (by simpa using hlens) (by simpa using hwrite))) rfl)
        (Ev.settle_last _ (.channel p) rfl (Ev.startChannel_same _ p (Tether.startChannel_busy _
          (by simpa [Ev.port_updPort, Port.dispatched] using hbusy))) rfl) rfl rfl ?_)
      refine congrArg (fun v => ({ s with router := s.router.given source, ports := v } : State))
        ((modifyAt_twice s.ports p
          (fun x => { x with capture :=
            { c with queue := [t], counters := { c.counters with accepted := bump c.counters.accepted } } })
          (fun x => x.dispatched t s.time)).trans (modifyAt_congr s.ports p ?_))
      simp only [Port.dispatched, PendingTrigger.exposureAt, ht, hcq]
    · have hexamine : ∀ e : Ev, e = ((s.begin.updRouter fun r => r.given source).updCapture p fun _ => { c with
            queue := [t], counters := { c.counters with accepted := bump c.counters.accepted } }) → e.examine p = e := by
        intro e he
        have hport : e.port p = { s.port p with capture := { c with
            queue := [t], counters := { c.counters with accepted := bump c.counters.accepted } } } := by
          rw [he, Ev.updCapture_port]
          rfl
        refine e.examine_interlocked p (t := t) (by rw [hport]) (by rw [he]; exact hfresh)
          (by rw [hport]; exact hcwant.trans hwant) ?_ ?_ ?_ ?_
        · rw [hport]; exact fun h => hexposure (hcexposure.symm.trans h)
        · rw [hport]; exact hhold
        · rw [hport]; exact hlink
        · rw [hport]; exact hlens
      refine congrArg Host.Outcome.next (s.blockEvent_quiet _ hs (hexec (haccept.trans (hexamine _ rfl)) rfl) rfl rfl rfl ?_)
      refine congrArg (fun v => ({ s with router := s.router.given source, ports := v } : State)) (modifyAt_congr s.ports p ?_)
      simp only [ht]
      rfl

end Sys2Proof.Machine
end

section
/-! The lens sequencer: packets handed in, moves asked for, rest (R93 to R106). -/

namespace Sys2Proof.Machine

set_option Elab.async false

/-! ### Packets handed in (R22, R98) -/

/-- A tether port with a tagged packet at the end of its queue (R22). -/
def Tether.handed (t : Tether) (packet : Byte → DownPacket) : Tether :=
  { t with queue := t.queue ++ [packet t.nextTag], downTag := t.nextTag + 1 }

/-- A port whose waiting LENS_HOME has been handed in (R98). -/
def Port.homeHanded (x : Port) (m : Move) : Port :=
  { x with
    tether := x.tether.handed .lensHome
    lens := { x.lens with
      state := .homing, move := some { m with downTag := some x.tether.nextTag }
      counters := { x.lens.counters with homes := bump x.lens.counters.homes } } }

/-- A port whose waiting LENS_MOVE for a preset has been handed in (R98). -/
def Port.moveHanded (x : Port) (m : Move) (q : PresetId) : Port :=
  { x with
    tether := x.tether.handed fun n => .lensMove n (x.lens.kind.positionsOf (x.lens.presets.get q))
    lens := { x.lens with
      state := .moving
      move := some
        { m with
          captured := some (x.lens.kind.positionsOf (x.lens.presets.get q), (x.lens.presets.get q).settle)
          downTag := some x.tether.nextTag }
      counters := { x.lens.counters with moves := bump x.lens.counters.moves } } }

theorem Ev.handHome_eq (e : Ev) (p : PortId) {m : Move} (hmove : (e.port p).lens.move = some m) :
    e.handHome p = (e.updPort p fun x => x.homeHanded m).push (.channel p) := by
  have hmove' : (e.ports.get p).lens.move = some m := hmove
  have hports : (e.handHome p).ports = (e.updPort p fun x => x.homeHanded m).ports := by
    simp only [Ev.handHome, Ev.handTagged, Ev.updTether, Ev.updLens, Ev.countLens, Ev.push, Ev.updPort, modifyAt_twice]
    refine modifyAt_congr _ _ ?_
    simp only [hmove', Option.map_some]
    rfl
  exact congrArg (fun v => (({ e with ports := v } : Ev).push (.channel p))) hports

theorem Ev.handMove_eq (e : Ev) (p : PortId) (q : PresetId) {m : Move} (hmove : (e.port p).lens.move = some m) :
    e.handMove p q = (e.updPort p fun x => x.moveHanded m q).push (.channel p) := by
  have hmove' : (e.ports.get p).lens.move = some m := hmove
  have hports : (e.handMove p q).ports = (e.updPort p fun x => x.moveHanded m q).ports := by
    simp only [Ev.handMove, Ev.handTagged, Ev.updTether, Ev.updLens, Ev.countLens, Ev.push, Ev.updPort, modifyAt_twice]
    refine modifyAt_congr _ _ ?_
    simp only [hmove', Option.map_some]
    rfl
  exact congrArg (fun v => (({ e with ports := v } : Ev).push (.channel p))) hports

theorem Port.mayHandIn_iff (x : Port) {m : Move} (hstate : x.lens.state = .moveWait) (hmove : x.lens.move = some m) :
    x.mayHandIn = true ↔ m.admitted = true ∧ x.capture.exposure = none ∧ x.feed.hold = false := by
  simp [Port.mayHandIn, hstate, hmove, and_assoc]

theorem Ev.handIn_home (e : Ev) (p : PortId) {m : Move} (hmay : (e.port p).mayHandIn = true)
    (hmove : (e.port p).lens.move = some m) (hkind : m.kind = .home) :
    e.handIn p = (e.updPort p fun x => x.homeHanded m).push (.channel p) := by
  simp only [Ev.handIn, hmay, if_true, hmove, hkind]
  exact e.handHome_eq p hmove

theorem Ev.handIn_move (e : Ev) (p : PortId) {m : Move} {q : PresetId} (hmay : (e.port p).mayHandIn = true)
    (hmove : (e.port p).lens.move = some m) (hkind : m.kind = .move) (htarget : m.target = some q) :
    e.handIn p = (e.updPort p fun x => x.moveHanded m q).push (.channel p) := by
  simp only [Ev.handIn, hmay, if_true, hmove, hkind, htarget]
  exact e.handMove_eq p q hmove

/-! ### Rest (R96, R100) -/

/-- A lens without a want comes to rest IDLE, its one LENS_CHANGE of the event offered (R96, R108). -/
theorem Ev.rest_idle (e : Ev) (p : PortId) (prev : LensState) (hwant : (e.port p).lens.want = none)
    (hoffers : e.offers.any (Offer.isLensChange p) = false) :
    e.rest p prev = ((e.updLens p fun l => { l with state := .idle, move := none }).offer
      (.lensChange p prev .idle .rest (moveBrief (e.port p).lens.move) (e.port p).lens.held (e.port p).lens.lastCode)).push
        (.examine p) := by
  have hoffers' : (e.updLens p fun l => { l with state := .idle, move := none }).offers.any (Offer.isLensChange p) = false :=
    hoffers
  simp only [Ev.rest, hwant, Ev.lensNotice, hoffers', Bool.false_eq_true, if_false, Ev.updLens_port]

/-- Settles O35: a homing packet handed in or left, and the end of the settle time. -/
theorem lensPacketsAndSettling : Obligations.LensPacketsAndSettling := by
  refine ⟨fun s p m tag hs hstate hmove hkind htag hbusy => ?_, fun s p d hs htimer hwant hqueue hcwant => ?_⟩
  · have hmay := (s.port p).mayHandIn_iff hstate hmove
    refine ⟨fun hadmitted hexposure hhold => ?_, fun hnot => ?_⟩
    · refine congrArg Host.Outcome.next (s.blockEvent_silent _ hs
        (Ev.handIn_home s.begin p (hmay.mpr ⟨hadmitted, hexposure, hhold⟩) hmove hkind)
        (Ev.settle_last _ (.channel p) rfl (Ev.startChannel_same _ p (Tether.startChannel_busy _
          (by simpa [Ev.port_updPort, Port.homeHanded, Tether.handed] using hbusy))) rfl) rfl rfl ?_)
      rw [htag]
      exact s.onPort_congr p rfl
    · have hmay' : (s.port p).mayHandIn = false := by
        rw [Bool.eq_false_iff, Ne, hmay]
        rintro ⟨hadmitted, hexposure, hhold⟩
        simp [hadmitted, hexposure, hhold] at hnot
      exact congrArg Host.Outcome.next (s.blockEvent_quiet _ hs (Ev.handIn_nothing s.begin p hmay'))
  · refine congrArg Host.Outcome.next (s.blockEvent_noticed _ hs
      ((Ev.onExpiry_some _ _ htimer).trans (Ev.rest_idle _ p _ (by simpa using hwant) rfl))
      (Ev.settle_last _ (.examine p) rfl (Ev.examine_nothing _ p (by simpa using hqueue) (by simpa using hcwant)) rfl)
      ?_ ?_)
    · simp only [Ev.updLens_port, Ev.reach_port, State.begin_port]
      rfl
    · exact congrArg (fun v => ({ s with time := max s.time d, ports := v } : State))
        (modifyAt_twice s.ports p (fun x => { x with lens := { x.lens with settleTimer := none } })
          (fun x => { x with lens := { x.lens with state := .idle, move := none } }))

end Sys2Proof.Machine
end

section
/-! Camera accesses taken (R136, R137) and host moves of a lens (R105, R106). -/

namespace Sys2Proof.Machine

set_option Elab.async false

/-! ### Camera accesses (R136, R137) -/

theorem accessKindOf_code {b : Byte} {k : AccessKind} (h : k.code = b.toNat) : accessKindOf b = some k := by
  cases k
  · have hb : b = 0 := BitVec.eq_of_toNat_eq h.symm
    rw [hb]
    rfl
  · have hb : b = 1 := BitVec.eq_of_toNat_eq h.symm
    rw [hb]
    rfl

theorem accessTarget_of {port : Byte} {f : CamAccessFields} {p : PortId} {k : AccessKind} (hp : portOf port = some p)
    (hk : k.code = f.kind.toNat) (hparam : f.param.toNat ≤ 4095) : accessTarget port f = some (p, k) := by
  simp only [accessTarget, hp, accessKindOf_code hk, if_pos hparam]

theorem Port.accessRefused_iff (x : Port) :
    x.accessRefused = true ↔ x.feed.power ≠ .full ∨ x.tether.link ≠ .up ∨ x.feed.hold = true := by
  simp [Port.accessRefused, or_assoc]

theorem State.accessRefusal_state (s : State) (p : PortId)
    (h : s.link.opState ≠ .run ∨ (s.port p).accessRefused = true) : s.accessRefusal p = some .refusedState := by
  by_cases hrun : s.link.opState = .run
  · have hport : (s.port p).accessRefused = true := h.resolve_left (not_not_intro hrun)
    exact (if_neg (not_not_intro hrun)).trans (if_pos hport)
  · exact if_pos hrun

theorem State.accessRefusal_open (s : State) (p : PortId) (hrun : s.link.opState = .run)
    (h : (s.port p).accessRefused = false) :
    s.accessRefusal p = if 3 ≤ s.unanswered p then some .refusedBusy else none :=
  (if_neg (not_not_intro hrun)).trans (if_neg (by simp [h]))

/-- A port that has taken an access: its packet waits in the downstream queue (R137). -/
def Port.accessTaken (x : Port) (packet : Byte → DownPacket) : Port :=
  { x with tether := x.tether.handed packet, relay := { x.relay with taken := bump x.relay.taken } }

/-- The relay entry of an access that is taken, under its down tag (R137). -/
def takenEntry (h : ReqHeader) (f : CamAccessFields) (p : PortId) (k : AccessKind) (tag : Byte) : RelayEntry :=
  { port := p, hostTag := h.tag, portField := h.port, kind := k, param := f.param, value := accessValue k f.value
    downTag := tag, stage := .queued }

theorem Ev.takeAccess_eq (e : Ev) (h : ReqHeader) (f : CamAccessFields) (p : PortId) (k : AccessKind) :
    e.takeAccess h f p k = ((e.setRelay (e.relay ++ [takenEntry h f p k (e.port p).tether.nextTag])).updPort p fun x =>
      x.accessTaken (accessPacket k f.param f.value)).push (.channel p) :=
  congrArg (fun v => ((({ e with ports := v } : Ev).setRelay
      (e.relay ++ [takenEntry h f p k (e.port p).tether.nextTag])).push (.channel p)))
    (modifyAt_twice e.ports p (fun x => { x with relay := { x.relay with taken := bump x.relay.taken } })
      fun x => { x with tether := x.tether.handed (accessPacket k f.param f.value) })

/-- An event whose work ends in e, without notices. -/
theorem State.event_silent (s t : State) {act : Ev → Ev} {e₀ e : Ev} (hact : act s.begin = e₀) (hsettle : e₀.settle = e)
    (hoffers : e.offers = []) (hpool : e.poolOffers = []) (ht : e.toState = t) : s.event act = t := by
  rw [State.event, hact, hsettle, Ev.finish_quiet _ hoffers hpool, ht]

/-- Settles O36: the refusals, and the access taken into the relay and the downstream queue. -/
theorem cameraAccessesAreTaken : Obligations.CameraAccessesAreTaken := by
  intro h f s p k hs hp hk hparam
  have htarget := accessTarget_of hp hk hparam
  have htake : s.camAccess h f = s.event fun e => e.countTaken.camAccess h f := s.takeRequest_listens _ _ hs
  refine ⟨fun st hst => ?_, fun hrun hpower hlink hhold hroom hbusy tag htag => ?_⟩
  · have hrefusal : s.accessRefusal p = some st := by
      obtain ⟨hclosed, rfl⟩ | ⟨hrun, hpower, hlink, hhold, hfull, rfl⟩ := hst
      · refine s.accessRefusal_state p (hclosed.imp (fun hconfig => by simp [hconfig]) fun hport => ?_)
        exact (Port.accessRefused_iff _).mpr hport
      · refine (s.accessRefusal_open p hrun ?_).trans (if_pos hfull)
        simp [Port.accessRefused, hpower, hlink, hhold]
    have hrefusal' : s.begin.countTaken.accessRefusal p = some st := hrefusal
    refine congrArg Host.Outcome.next (htake.trans ?_)
    rw [State.event, Ev.camAccess, htarget]
    simp only [hrefusal']
    rfl
  · have hrefusal : s.accessRefusal p = none := by
      refine (s.accessRefusal_open p hrun ?_).trans (if_neg (Nat.not_le.mpr hroom))
      simp [Port.accessRefused, hpower, hlink, hhold]
    have hrefusal' : s.begin.countTaken.accessRefusal p = none := hrefusal
    have htaken : s.begin.countTaken.camAccess h f = s.begin.countTaken.takeAccess h f p k := by
      rw [Ev.camAccess, htarget]
      simp only [hrefusal']
    refine congrArg Host.Outcome.next (htake.trans ((s.event_silent _ (htaken.trans (Ev.takeAccess_eq _ h f p k))
      (Ev.settle_last _ (.channel p) rfl (Ev.startChannel_same _ p (Tether.startChannel_busy _ ?_)) rfl) rfl rfl rfl).trans ?_))
    · simpa [Ev.port_updPort, Port.accessTaken, Tether.handed] using hbusy
    · subst htag
      cases k <;> rfl

end Sys2Proof.Machine
end

section
/-! Host moves of a lens (R105, R106) whose surcharge is 0. -/

namespace Sys2Proof.Machine

set_option Elab.async false

/-! ### A move with no surcharge (R59, R98) -/

/-- A port whose lens waits for the hand-in of a move whose surcharge of 0 is admitted (R59, R61, R98). -/
def Port.moveAsked (x : Port) (kind : MoveKind) (origin : MoveOrigin) (target : Option PresetId) : Port :=
  { x with
    feed := { x.feed with limit := limitOf x.pool.estLens }
    lens := { x.lens with
      state := .moveWait, move := some { kind := kind, origin := origin, target := target, admitted := true } } }

theorem Ev.enterMoveWait_free (e : Ev) (p : PortId) (kind : MoveKind) (origin : MoveOrigin) (target : Option PresetId)
    {figure estimate : Nat}
    (hfeasible : e.feedFor p (classPower (e.port p).feed.powerClass + (e.port p).feed.settings.lensPower)
      = .feasible figure estimate) (hamount : (e.port p).pool.surchargeAmount = 0) :
    e.enterMoveWait p kind origin target
      = ((((e.updPort p fun x => x.moveAsked kind origin target).countPool fun c =>
          { c with surchargeAdmissions := bump c.surchargeAdmissions }).push (.examine p)).push (.handIn p)) := by
  obtain ⟨e', he'⟩ : ∃ e' : Ev, e' = (e.updLens p fun l =>
    { l with state := .moveWait, move := some { kind := kind, origin := origin, target := target } }).push (.examine p) :=
    ⟨_, rfl⟩
  have hport : e'.port p = { e.port p with lens := { (e.port p).lens with
      state := .moveWait, move := some { kind := kind, origin := origin, target := target } } } := by
    rw [he', Ev.push_port, Ev.updLens_port]
  have hfeasible' : e'.feedFor p (classPower (e'.port p).feed.powerClass + (e'.port p).feed.settings.lensPower)
      = .feasible figure estimate := by
    rw [← hfeasible]
    simp only [State.feedFor, hport]
    rw [he']
    rfl
  have hamount' : (e'.port p).pool.surchargeAmount = 0 := by rw [hport]; exact hamount
  have hasked : e.enterMoveWait p kind origin target = e'.admitSurcharge p 0 := by
    rw [Ev.enterMoveWait, ← he']
    simp only [Ev.surchargeRequest, hfeasible', hamount', if_true]
  rw [hasked]
  have hports : (e'.admitSurcharge p 0).ports = modifyAt e.ports p fun x => x.moveAsked kind origin target := by
    simp only [Ev.admitSurcharge, Ev.countPool, Ev.updPool, Ev.updFigures, Ev.updFeed, Ev.updLens, Ev.push, Ev.updPort,
      he', modifyAt_twice]
    refine modifyAt_congr _ _ ?_
    simp only [State.port, modifyAt_get]
    rfl
  have hrest : e'.admitSurcharge p 0 = { (((e.countPool fun c =>
      { c with surchargeAdmissions := bump c.surchargeAdmissions }).push (.examine p)).push (.handIn p)) with
        ports := (e'.admitSurcharge p 0).ports } := by
    rw [he']
    rfl
  rw [hrest, hports]
  rfl

/-- The work a host move leaves: an examination that finds nothing, and the hand-in of its packet (R84, R98). -/
theorem Ev.settle_handIn (e : Ev) (p : PortId) (htodo : e.todo = [.examine p, .handIn p])
    (hqueue : (e.port p).capture.queue = []) (hwant : (e.port p).capture.want = none) {e' : Ev}
    (hhand : ({ e with todo := [] } : Ev).handIn p = e'.push (.channel p)) (hleft : e'.todo = [])
    (hbusy : (e'.port p).tether.channel ≠ none) : e.settle = e' := by
  have hexamine : ({ e with todo := [.handIn p] } : Ev).perform (.examine p) = { e with todo := [.handIn p] } :=
    Ev.examine_nothing _ p hqueue hwant
  have hchannel : e'.startChannel p = e' := Ev.startChannel_same e' p (Tether.startChannel_busy _ hbusy)
  have hpush : ({ e'.push (.channel p) with todo := [] } : Ev) = e' :=
    congrArg (fun l => ({ e' with todo := l } : Ev)) hleft.symm
  have htodo' : (e'.push (.channel p)).todo = [.channel p] := congrArg (· ++ [Task.channel p]) hleft
  calc e.settle = Ev.settleBy 511 (({ e with todo := [.handIn p] } : Ev).perform (.examine p)) :=
        Ev.settleBy_cons 511 e _ _ htodo
    _ = Ev.settleBy 511 { e with todo := [.handIn p] } := congrArg _ hexamine
    _ = Ev.settleBy 510 (({ e with todo := [] } : Ev).handIn p) :=
      Ev.settleBy_cons 510 { e with todo := [.handIn p] } (.handIn p) [] rfl
    _ = Ev.settleBy 510 (e'.push (.channel p)) := congrArg _ hhand
    _ = Ev.settleBy 509 (({ e'.push (.channel p) with todo := [] } : Ev).startChannel p) :=
        Ev.settleBy_cons 509 _ _ _ htodo'
    _ = e' := by rw [hpush, hchannel, Ev.settleBy_done _ _ hleft]

/-! ### The tests of R105 -/

theorem Port.lensRefused_iff (x : Port) : x.lensRefused = true ↔ x.lens.state = .absent ∨ x.feed.hold = true := by
  simp [Port.lensRefused]

theorem Port.lensBusy_iff (x : Port) : x.lensBusy = true ↔ x.lens.state = .moveWait ∨ x.lens.state = .homing
    ∨ x.lens.state = .moving ∨ x.lens.state = .settling ∨ x.capture.queue ≠ [] := by
  unfold Port.lensBusy
  cases hstate : x.lens.state <;> simp [LensState.busy]

theorem Port.lensBusy_empty (x : Port) (hqueue : x.capture.queue = []) (h : x.lens.state.busy = false) :
    x.lensBusy = false := by
  simp [Port.lensBusy, h, hqueue]

theorem Ev.lensGoto_eq (e : Ev) (p : PortId) {preset : Byte} {q : PresetId} (hq : presetOf preset = some q) :
    Ev.lensGoto preset p e =
      if (e.port p).lensRefused then answerOnly .refusedState e
      else if (e.port p).lensBusy then answerOnly .refusedBusy e
      else if (e.port p).lens.state ≠ .idle then answerOnly .refusedState e
      else if ((e.port p).lens.presets.get q).valid = false then answerOnly .badArgument e
      else if (e.port p).lens.holds q then answerDone (e.updLens p fun l => { l with lastTarget := some q })
      else e.takeGoto p q := by
  simp only [Ev.lensGoto, hq]

/-- A port that waits for the hand-in of a host move whose surcharge of 0 is admitted (R105, R106). -/
def Port.hostMoveAsked (x : Port) (kind : MoveKind) (target : Option PresetId) (f : LensCounters → LensCounters) : Port :=
  ({ x with lens := { x.lens with counters := f x.lens.counters } } : Port).moveAsked kind .host target

/-- A host move with a surcharge of 0 is answered DONE with its hand-in left to do (R105, R106). -/
theorem Ev.hostMove_eq (e : Ev) (p : PortId) (kind : MoveKind) (target : Option PresetId) (f : LensCounters → LensCounters)
    {figure estimate : Nat}
    (hfeasible : e.feedFor p (classPower (e.port p).feed.powerClass + (e.port p).feed.settings.lensPower)
      = .feasible figure estimate) (hamount : (e.port p).pool.surchargeAmount = 0) :
    ((e.countLens p f).enterMoveWait p kind .host target).answerMove p
      = ((((e.updPort p fun x => x.hostMoveAsked kind target f).countPool fun c =>
          { c with surchargeAdmissions := bump c.surchargeAdmissions }).push (.examine p)).push (.handIn p),
        { status := .done }) := by
  have hcount : (e.countLens p f).feedFor p
      (classPower ((e.countLens p f).port p).feed.powerClass + ((e.countLens p f).port p).feed.settings.lensPower)
        = .feasible figure estimate := by
    rw [← hfeasible]
    simp only [State.feedFor, Ev.countLens_port]
    rfl
  have hasked := Ev.enterMoveWait_free (e.countLens p f) p kind .host target hcount
    (by rw [Ev.countLens_port]; exact hamount)
  have htwice : (e.countLens p f).updPort p (fun x => x.moveAsked kind .host target)
      = e.updPort p fun x => x.hostMoveAsked kind target f := e.updPort_twice p _ _
  rw [hasked, htwice, Ev.answerMove, if_neg]
  simp [Ev.port_updPort, Port.hostMoveAsked, Port.moveAsked]

/-- A host move with a surcharge of 0 and a closed exposure record is answered with its packet handed in (R98, R105,
R106). -/
theorem State.hostMove_handed (s : State) (h : ReqHeader) (p : PortId) {code : Byte} {body : PortId → Ev → Ev × Answer}
    {kind : MoveKind} {target : Option PresetId} {f : LensCounters → LensCounters} {handed : Move → Port → Port}
    {figure estimate : Nat} (hs : s.listens) (hp : portOf h.port = some p)
    (hbody : body p s.begin.countTaken = ((s.begin.countTaken.countLens p f).enterMoveWait p kind .host target).answerMove p)
    (hfeasible : s.feedFor p (classPower (s.port p).feed.powerClass + (s.port p).feed.settings.lensPower)
      = .feasible figure estimate) (hamount : (s.port p).pool.surchargeAmount = 0)
    (hqueue : (s.port p).capture.queue = []) (hwant : (s.port p).capture.want = none)
    (hexposure : (s.port p).capture.exposure = none) (hhold : (s.port p).feed.hold = false)
    (hhand : ∀ e : Ev, (e.port p).mayHandIn = true →
      (e.port p).lens.move = some { kind := kind, origin := .host, target := target, admitted := true } →
      e.handIn p = (e.updPort p
        (handed { kind := kind, origin := .host, target := target, admitted := true })).push (.channel p))
    (hbusy : (handed { kind := kind, origin := .host, target := target, admitted := true }
      ((s.port p).hostMoveAsked kind target f)).tether.channel ≠ none) :
    s.portRequest code h body = ({ s.onPort p (fun x =>
        handed { kind := kind, origin := .host, target := target, admitted := true } (x.hostMoveAsked kind target f)) with
      pool := { s.pool with counters := { s.pool.counters with
        surchargeAdmissions := bump s.pool.counters.surchargeAdmissions } } } : State).replied code h .done [] := by
  obtain ⟨m, hm⟩ : ∃ m : Move, m = { kind := kind, origin := .host, target := target, admitted := true } := ⟨_, rfl⟩
  rw [← hm] at hhand hbusy ⊢
  obtain ⟨e, he⟩ : ∃ e : Ev, e = Ev.respond code h (((((s.begin.countTaken.updPort p fun x =>
      x.hostMoveAsked kind target f).countPool fun c => { c with surchargeAdmissions := bump c.surchargeAdmissions }).push
        (.examine p)).push (.handIn p)), { status := .done }) := ⟨_, rfl⟩
  have hport : e.port p = (s.port p).hostMoveAsked kind target f := by
    rw [he]
    exact modifyAt_get _ _ _
  have hmay : (e.port p).mayHandIn = true := by
    rw [hport]
    simp [Port.hostMoveAsked, Port.moveAsked, Port.mayHandIn, hexposure, hhold]
  have hmove : (e.port p).lens.move = some m := by rw [hport, hm]; rfl
  have hsettle : e.settle = ({ e with todo := [] } : Ev).updPort p (handed m) :=
    Ev.settle_handIn e p (by rw [he]; rfl) (by rw [hport]; exact hqueue) (by rw [hport]; exact hwant)
      (hhand { e with todo := [] } hmay hmove) rfl
      (by rw [Ev.port_updPort, if_pos rfl]; exact (congrArg (fun x => (handed m x).tether.channel) hport).trans_ne hbusy)
  refine s.portRequest_silent _ hs hp (hbody.trans (Ev.hostMove_eq _ p kind target f hfeasible hamount))
    ((congrArg Ev.settle he.symm).trans hsettle) (by rw [he]; rfl) (by rw [he]; rfl) ?_
  rw [he]
  exact congrArg (fun v => (({ s with
      ports := v
      pool := { s.pool with counters := { s.pool.counters with
        surchargeAdmissions := bump s.pool.counters.surchargeAdmissions } } } : State).replied code h .done []))
    (modifyAt_twice s.ports p (fun x => x.hostMoveAsked kind target f) (handed m))

/-- Settles O34: the tests in order, and the two moves whose packet is handed in at once. -/
theorem lensRequestsMoveTheLens : Obligations.LensRequestsMoveTheLens := by
  intro h preset q s p hs hp hpreset
  have hgoto := Ev.lensGoto_eq s.begin.countTaken p (presetOf_eq_some q hpreset)
  have hgoto_refused (st : Status) (hb : Ev.lensGoto preset p s.begin.countTaken = answerOnly st s.begin.countTaken) :
      exec (.lensGoto h preset) s = .next (s.replied 0x51 h st []) :=
    congrArg Host.Outcome.next (s.portRequest_quiet s hs hp hb rfl rfl rfl rfl)
  have hhome_refused (st : Status) (hb : Ev.lensHome p s.begin.countTaken = answerOnly st s.begin.countTaken) :
      exec (.lensHome h) s = .next (s.replied 0x52 h st []) :=
    congrArg Host.Outcome.next (s.portRequest_quiet s hs hp hb rfl rfl rfl rfl)
  refine ⟨fun hrefused => ?_, fun hpresent hhold => ⟨fun hbusy => ?_, fun hqueue => ⟨?_, ?_, ?_, ?_⟩⟩⟩
  · have hrefused := (s.port p).lensRefused_iff.mpr hrefused
    exact ⟨hgoto_refused _ (hgoto.trans (if_pos hrefused)), hhome_refused _ (if_pos hrefused)⟩
  all_goals have hopen : ¬ (s.port p).lensRefused = true := by simp [Port.lensRefused, hpresent, hhold]
  · have hbusy := (s.port p).lensBusy_iff.mpr hbusy
    exact ⟨hgoto_refused _ (hgoto.trans ((if_neg hopen).trans (if_pos hbusy))),
      hhome_refused _ ((if_neg hopen).trans (if_pos hbusy))⟩
  all_goals have hfree (hstate : (s.port p).lens.state.busy = false) : ¬ (s.port p).lensBusy = true :=
    Bool.not_eq_true _ ▸ (s.port p).lensBusy_empty hqueue hstate
  · intro hstate
    have hnotIdle : (s.port p).lens.state ≠ .idle := by rcases hstate with h | h <;> simp [h]
    have hnotBusy : (s.port p).lens.state.busy = false := by rcases hstate with h | h <;> rw [h] <;> rfl
    exact hgoto_refused _ (hgoto.trans ((if_neg hopen).trans ((if_neg (hfree hnotBusy)).trans (if_pos hnotIdle))))
  · intro hidle hinvalid
    have hnotBusy : (s.port p).lens.state.busy = false := by rw [hidle]; rfl
    exact hgoto_refused _ (hgoto.trans ((if_neg hopen).trans ((if_neg (hfree hnotBusy)).trans
      ((if_neg (not_not_intro hidle)).trans (if_pos hinvalid)))))
  · intro hidle hvalid hholds
    have hnotBusy : (s.port p).lens.state.busy = false := by rw [hidle]; rfl
    exact congrArg Host.Outcome.next (s.portRequest_quiet _ hs hp (hgoto.trans ((if_neg hopen).trans
      ((if_neg (hfree hnotBusy)).trans ((if_neg (not_not_intro hidle)).trans
        ((if_neg (by simp [hvalid])).trans (if_pos hholds)))))) rfl rfl rfl rfl)
  · intro figure estimate tag hfeasible htag hamount hwant hexposure hbusy
    refine ⟨fun hidle hvalid hholds => ?_, fun hrest => ?_⟩
    · have hnotBusy : (s.port p).lens.state.busy = false := by rw [hidle]; rfl
      have hbody : Ev.lensGoto preset p s.begin.countTaken = s.begin.countTaken.takeGoto p q :=
        hgoto.trans ((if_neg hopen).trans ((if_neg (hfree hnotBusy)).trans ((if_neg (not_not_intro hidle)).trans
          ((if_neg (by simp [hvalid])).trans (if_neg (by simp [hholds]))))))
      refine congrArg Host.Outcome.next ((s.hostMove_handed h p hs hp hbody hfeasible hamount hqueue hwant hexposure hhold
        (handed := fun m x => x.moveHanded m q) (fun e hmay hmove => e.handIn_move p hmay hmove rfl rfl) hbusy).trans ?_)
      rw [htag]
      rfl
    · have hnotBusy : (s.port p).lens.state.busy = false := by rcases hrest with h | h | h <;> rw [h] <;> rfl
      have hbody : Ev.lensHome p s.begin.countTaken = ((s.begin.countTaken.countLens p fun c =>
          { c with hostHome := bump c.hostHome }).enterMoveWait p .home .host none).answerMove p :=
        (if_neg hopen).trans (if_neg (hfree hnotBusy))
      refine congrArg Host.Outcome.next ((s.hostMove_handed h p hs hp hbody hfeasible hamount hqueue hwant hexposure hhold
        (handed := fun m x => x.homeHanded m) (fun e hmay hmove => e.handIn_home p hmay hmove rfl) hbusy).trans ?_)
      rw [htag]
      rfl

end Sys2Proof.Machine
end

section
/-! Lens moves that end in STALLED (R103, R168), deadlines of answers (R25, R140) and the HELD answers of the relay
(R138, R139). -/

namespace Sys2Proof.Machine

set_option Elab.async false

/-! ### Faults answered with HOLD or REPORT (R42, R168) -/

/-- The offer of the POWER_CHANGE of a fault that sets the HOLD flag (R30, R42). -/
def Port.holdOffers (x : Port) (p : PortId) (r : Reaction) : List Offer :=
  if r = .hold ∧ x.feed.hold = false then [.power p .fault] else []

/-- A port at which a fault answered with HOLD or REPORT has been taken (R42, R168, R178). -/
def Port.faultHeld (x : Port) (kind : FaultKind) (r : Reaction) : Port :=
  { x with
    feed := { x.feed with hold := x.feed.hold || decide (r = .hold) }
    cable := { x.cable with counters := { x.cable.counters with
      faults := modifyAt x.cable.counters.faults kind.index bump } } }

theorem Ev.updFeed_same (e : Ev) (p : PortId) {f : Feed → Feed} (h : f (e.port p).feed = (e.port p).feed) :
    e.updFeed p f = e :=
  congrArg (fun v => ({ e with ports := v } : Ev))
    (modifyAt_same e.ports p (congrArg (fun y => ({ e.port p with feed := y } : Port)) h))

/-- HOLD and REPORT of a port whose feed is on set the flag or nothing (R40, R42). -/
theorem Ev.react_hold_or_report (e : Ev) (p : PortId) (kind : FaultKind) {r : Reaction} (hr : r = .hold ∨ r = .report)
    (hon : (e.port p).feed.power.feedOn = true) (hoffers : e.offers.filter (fun o => !o.isPower p) = e.offers) :
    e.react p kind r = { e.updFeed p fun f => { f with hold := f.hold || decide (r = .hold) } with
      offers := e.offers ++ (e.port p).holdOffers p r } := by
  obtain rfl | rfl := hr
  · cases hhold : (e.port p).feed.hold
    · have hset : e.react p kind .hold = e.setHold p true .fault := if_pos ⟨hon, hhold⟩
      have hpower : (e.port p).holdOffers p .hold = [.power p .fault] := if_pos ⟨rfl, hhold⟩
      rw [hset, hpower, Ev.setHold, Ev.markPower, ← hoffers]
      refine congrArg (fun v => ({ e with ports := v, offers := _ } : Ev)) (modifyAt_congr _ _ ?_)
      simp
    · have hset : e.react p kind .hold = e := if_neg (by simp [hhold])
      have hpower : (e.port p).holdOffers p .hold = [] := if_neg (by simp [hhold])
      have hkeep : e.updFeed p (fun f => { f with hold := f.hold || decide (Reaction.hold = .hold) }) = e :=
        e.updFeed_same p (by simp [← hhold])
      rw [hset, hpower, hkeep, List.append_nil]
  · have hpower : (e.port p).holdOffers p .report = [] := if_neg (by simp)
    have hkeep : e.updFeed p (fun f => { f with hold := f.hold || decide (Reaction.report = .hold) }) = e :=
      e.updFeed_same p (by simp)
    rw [hpower, hkeep, List.append_nil]
    rfl

/-- A fault answered with HOLD or REPORT at a port whose feed is on (R42, R168). -/
theorem Ev.raiseFault_held (e : Ev) (p : PortId) (kind : FaultKind) {r : Reaction} (hkind : kind ≠ .feedInfeasible)
    (hshort : kind ≠ .probeShort) (hreaction : (e.port p).cable.reactions.get kind.index = r)
    (hr : r = .hold ∨ r = .report) (hon : (e.port p).feed.power.feedOn = true)
    (hoffers : e.offers.filter (fun o => !o.isPower p) = e.offers) :
    e.raiseFault p kind = { e.updPort p fun x => x.faultHeld kind r with
      offers := e.offers ++ [.notice (.fault p kind r (e.port p).feed.power (e.port p).feed.retry e.msClock)]
        ++ (e.port p).holdOffers p r } := by
  obtain ⟨e', he'⟩ : ∃ e' : Ev, e' = (e.countCable p fun c => { c with faults := modifyAt c.faults kind.index bump }).offer
      (.fault p kind r (e.port p).feed.power (e.port p).feed.retry e.msClock) := ⟨_, rfl⟩
  have hr' : (e.port p).cable.reactionTo kind = r := (if_neg hkind).trans hreaction
  have hfeed : (e'.port p).feed = (e.port p).feed := by rw [he', Ev.offer_port, Ev.countCable_port]
  have hraise : e.raiseFault p kind = e'.react p kind r := by
    rw [he', Ev.raiseFault, Ev.takeFault, hr', if_neg (by simp [hshort])]
    rfl
  have hoffers' : e'.offers.filter (fun o => !o.isPower p) = e'.offers := by
    rw [he']
    exact (List.filter_append _ _).trans (congrArg (· ++ _) hoffers)
  have hhold : (e'.port p).holdOffers p r = (e.port p).holdOffers p r := by
    rw [Port.holdOffers, hfeed, Port.holdOffers]
  rw [hraise, e'.react_hold_or_report p kind hr (by rw [hfeed]; exact hon) hoffers', hhold, he']
  exact congrArg (fun v => ({ e with
      ports := v
      offers := e.offers ++ [.notice (.fault p kind r (e.port p).feed.power (e.port p).feed.retry e.msClock)]
        ++ (e.port p).holdOffers p r } : Ev)) (modifyAt_twice e.ports p
    (fun x => { x with cable := { x.cable with counters := { x.cable.counters with
      faults := modifyAt x.cable.counters.faults kind.index bump } } })
    fun x => { x with feed := { x.feed with hold := x.feed.hold || decide (r = .hold) } })

/-! ### Moves that end in STALLED (R103) -/

/-- The event that a stall of a lens or the timeout of its answer is told with (R103, R108). -/
def FaultKind.stallEvent (kind : FaultKind) : LensEvent := if kind = .lensTimeout then .timeout else .stall

/-- A port whose move has ended in STALLED, its fault not yet taken (R103). -/
def Port.stalledLens (x : Port) (kind : FaultKind) (reached : Option Positions) (code : Option Byte) : Port :=
  { x.unsurcharged with
    lens := { x.lens with
      state := .stalled, move := none, held := reached.or x.lens.held, lastCode := code, settleTimer := none
      counters := { x.lens.counters with
        stalls := if kind = .lensStall then bump x.lens.counters.stalls else x.lens.counters.stalls
        timeouts := if kind = .lensTimeout then bump x.lens.counters.timeouts else x.lens.counters.timeouts } } }

/-- The end of a move in STALLED up to its fault, where no trigger waits (R103). -/
theorem Ev.lensStall_examined (e : Ev) (p : PortId) {kind : FaultKind} (reached : Option Positions)
    (code : Option Byte) (hkind : kind = .lensStall ∨ kind = .lensTimeout)
    (hoffers : e.offers = []) (hqueue : (e.port p).capture.queue = []) (hwant : (e.port p).capture.want = none) :
    e.lensStall p kind kind.stallEvent reached code
      = (((e.updPort p fun x => x.stalledLens kind reached code).push .serve).offer
          (.lensChange p (e.port p).lens.state .stalled kind.stallEvent (moveBrief (e.port p).lens.move)
            (reached.or (e.port p).lens.held) code)).raiseFault p kind := by
  obtain ⟨e', he'⟩ : ∃ e' : Ev, e' = (e.updPort p fun x => x.stalledLens kind reached code).push .serve := ⟨_, rfl⟩
  have hports (f : LensCounters → LensCounters)
      (hf : f (e.port p).lens.counters = ((e.port p).stalledLens kind reached code).lens.counters) :
      (((e.releaseSurcharge p).updLens p fun l =>
        { l with state := .stalled, move := none, held := reached.or l.held, lastCode := code
                 settleTimer := none }).countLens p f) = e' := by
    rw [he']
    simp only [Ev.releaseSurcharge, Ev.updFigures, Ev.updFeed, Ev.updLens, Ev.countLens, Ev.push, Ev.updPort, modifyAt_twice]
    refine congrArg (fun v => ({ ({ e with ports := v } : Ev).push .serve with ports := v } : Ev)) (modifyAt_congr _ _ ?_)
    refine (congrArg (fun c => ({ (e.port p).stalledLens kind reached code with
      lens := { ((e.port p).stalledLens kind reached code).lens with counters := c } } : Port)) hf)
  have hstall : e.lensStall p kind kind.stallEvent reached code = (((e'.lensNotice p (e.port p).lens.state .stalled
      kind.stallEvent (e.port p).lens.move).examine p)).raiseFault p kind := by
    unfold Ev.lensStall
    obtain rfl | rfl := hkind
    · rw [← hports (fun c => { c with stalls := bump c.stalls }) rfl]
      rfl
    · rw [← hports (fun c => { c with timeouts := bump c.timeouts }) rfl]
      rfl
  have hport : e'.port p = (e.port p).stalledLens kind reached code := by
    rw [he']
    exact modifyAt_get _ _ _
  have hnotice : e'.lensNotice p (e.port p).lens.state .stalled kind.stallEvent (e.port p).lens.move
      = e'.offer (.lensChange p (e.port p).lens.state .stalled kind.stallEvent (moveBrief (e.port p).lens.move)
        (reached.or (e.port p).lens.held) code) := by
    have hnone : e'.offers.any (Offer.isLensChange p) = false := by
      rw [he']
      exact (congrArg (List.any · (Offer.isLensChange p)) hoffers).trans rfl
    rw [Ev.lensNotice, hnone, hport]
    rfl
  rw [hstall, hnotice, Ev.examine_nothing _ p (by rw [Ev.offer_port, hport]; exact hqueue)
    (by rw [Ev.offer_port, hport]; exact hwant), he']

/-- A move ends in STALLED, its fault answered with HOLD or REPORT (R42, R103, R168). -/
theorem Ev.lensStall_eq (e : Ev) (p : PortId) {kind : FaultKind} {r : Reaction} (reached : Option Positions)
    (code : Option Byte) (hkind : kind = .lensStall ∨ kind = .lensTimeout)
    (hoffers : e.offers = []) (hqueue : (e.port p).capture.queue = []) (hwant : (e.port p).capture.want = none)
    (hon : (e.port p).feed.power.feedOn = true) (hreaction : (e.port p).cable.reactions.get kind.index = r)
    (hr : r = .hold ∨ r = .report) :
    e.lensStall p kind kind.stallEvent reached code
      = { (e.updPort p fun x => x.stalled kind reached code (decide (r = .hold))).push .serve with
          offers := [.notice (.lensChange p (e.port p).lens.state .stalled kind.stallEvent (moveBrief (e.port p).lens.move)
              (reached.or (e.port p).lens.held) code),
            .notice (.fault p kind r (e.port p).feed.power (e.port p).feed.retry e.msClock)]
            ++ (e.port p).holdOffers p r } := by
  obtain ⟨e', he'⟩ : ∃ e' : Ev, e' = ((e.updPort p fun x => x.stalledLens kind reached code).push .serve).offer
      (.lensChange p (e.port p).lens.state .stalled kind.stallEvent (moveBrief (e.port p).lens.move)
        (reached.or (e.port p).lens.held) code) := ⟨_, rfl⟩
  have hport : e'.port p = (e.port p).stalledLens kind reached code := by
    rw [he']
    exact modifyAt_get _ _ _
  have hoffers' : e'.offers = [.notice (.lensChange p (e.port p).lens.state .stalled kind.stallEvent
      (moveBrief (e.port p).lens.move) (reached.or (e.port p).lens.held) code)] := by
    rw [he']
    exact congrArg (· ++ _) hoffers
  have hlens : kind ≠ .feedInfeasible ∧ kind ≠ .probeShort := by rcases hkind with h | h <;> simp [h]
  rw [e.lensStall_examined p reached code hkind hoffers hqueue hwant, ← he',
    e'.raiseFault_held p kind hlens.1 hlens.2 (by rw [hport]; exact hreaction) hr (by rw [hport]; exact hon)
      (by rw [hoffers']; rfl), hoffers', hport, he']
  exact congrArg (fun v => ({ ({ e with ports := v } : Ev).push .serve with
      offers := [.notice (.lensChange p (e.port p).lens.state .stalled kind.stallEvent (moveBrief (e.port p).lens.move)
          (reached.or (e.port p).lens.held) code),
        .notice (.fault p kind r (e.port p).feed.power (e.port p).feed.retry e.msClock)]
        ++ (e.port p).holdOffers p r } : Ev))
    (modifyAt_twice e.ports p (fun x => x.stalledLens kind reached code) fun x => x.faultHeld kind r)

/-- The notices of a stall: the HOLD flag is told where the reaction sets it (R30, R103, R108, R168). -/
theorem holdOffers_resolve (before after : Vector Port 8) (p : PortId) {x : Port} {r : Reaction}
    (hbefore : (before.get p).feed = x.feed) (hpower : (after.get p).feed.power = x.feed.power)
    (hretry : (after.get p).feed.retry = x.feed.retry) (hhold : r = .hold → (after.get p).feed.hold = true) :
    (x.holdOffers p r).filterMap (Offer.resolve before after)
      = if r = .hold ∧ x.feed.hold = false then [.powerChange p x.feed.power x.feed.power true x.feed.retry .fault] else [] := by
  unfold Port.holdOffers
  split_ifs with h
  · refine (powerOffer_resolve _ _ p .fault).trans ?_
    rw [powerNotice_some (.inr (by rw [hbefore, hhold h.1, h.2]; simp)), hbefore, hpower, hretry, hhold h.1]
  · rfl

/-- An event that ends with a move in STALLED, its fault answered with HOLD or REPORT, with nothing the channel or the
pool could do (R103, R108, R168). -/
theorem State.lensStall_ends (s : State) (p : PortId) {act : Ev → Ev} {e : Ev} {kind : FaultKind} {r : Reaction}
    {reached : Option Positions} {code : Option Byte} (hs : s.running)
    (hact : act s.begin = e.lensStall p kind kind.stallEvent reached code) (hkind : kind = .lensStall ∨ kind = .lensTimeout)
    (hbefore : e.before = s.ports) (hoffers : e.offers = []) (hpool : e.poolOffers = []) (htodo : e.todo = [.channel p])
    (hfeed : (e.port p).feed = (s.port p).feed) (hon : (e.port p).feed.power.feedOn = true)
    (hqueue : (e.port p).capture.queue = []) (hwant : (e.port p).capture.want = none)
    (hbusy : (e.port p).tether.channel ≠ none) (hserve : e.pool.queue = [])
    (hreaction : (e.port p).cable.reactions.get kind.index = r) (hr : r = .hold ∨ r = .report) :
    s.blockEvent act = e.toState.lensStalled p kind kind.stallEvent reached code r := by
  have hport : (e.updPort p fun x => x.stalled kind reached code (decide (r = .hold))).port p
      = (e.port p).stalled kind reached code (decide (r = .hold)) := modifyAt_get _ _ _
  refine s.blockEvent_noticed _ hs
    (hact.trans (e.lensStall_eq p reached code hkind hoffers hqueue hwant hon hreaction hr))
    (Ev.settle_idle _ (fun t ht => ?_) ?_) ?_ rfl
  · have ht : t = .channel p ∨ t = .serve := by simpa [Ev.push, htodo] using ht
    obtain rfl | rfl := ht
    · exact Ev.idle_channel _ p (Tether.startChannel_busy _ ((congrArg (fun x => x.tether.channel) hport).trans_ne hbusy))
    · exact Ev.idle_serve _ (by simp [hserve])
  · simp [Ev.push, htodo]
  · have hafter : (modifyAt e.ports p fun x => x.stalled kind reached code (decide (r = .hold))).get p
        = (e.port p).stalled kind reached code (decide (r = .hold)) := hport
    have hpower := holdOffers_resolve e.before
      (modifyAt e.ports p fun x => x.stalled kind reached code (decide (r = .hold))) p (x := e.port p) (r := r)
      (by rw [hbefore]; exact hfeed.symm) (by rw [hafter]; rfl) (by rw [hafter]; rfl)
      (fun h => by rw [hafter]; simp [Port.stalled, h])
    exact congrArg₂ (· ++ ·) (congrArg
      ([.lensChange p (e.port p).lens.state .stalled kind.stallEvent (moveBrief (e.port p).lens.move)
          (reached.or (e.port p).lens.held) code,
        .fault p kind r (e.port p).feed.power (e.port p).feed.retry e.msClock] ++ ·) hpower) (congrArg (List.map _) hpool)
      |>.trans (List.append_nil _)

/-! ### Deadlines of answers (R25, R140) -/

/-- A port whose entry in the outstanding-answer table has run out (R25). -/
def Tether.answerLost (t : Tether) (tag : Byte) : Tether :=
  { t with
    outstanding := t.outstanding.filter fun y => decide (y.tag ≠ tag)
    counters := { t.counters with timeouts := bump t.counters.timeouts } }

/-- The deadline of an answer other than a CAM_WRITE's (R25, R103, R140). -/
theorem Ev.answerExpired_eq (e : Ev) (p : PortId) (tag : Byte) {o : Outstanding}
    (hfind : (e.port p).tether.outstanding.find? (fun x => decide (x.tag = tag)) = some o) (hkind : o.kind ≠ .camWrite) :
    e.answerExpired p tag =
      if o.kind.isLens then (((e.reach o.deadline).updTether p fun t => t.answerLost tag).push (.channel p)).lensTimeout p
      else (((e.reach o.deadline).updTether p fun t => t.answerLost tag).push (.channel p)).relayTimeout p tag := by
  have htag : o.tag = tag := by simpa using List.find?_some hfind
  have hleave : ((e.reach o.deadline).leaveTable p o).countTether p (fun c => { c with timeouts := bump c.timeouts })
      = ((e.reach o.deadline).updTether p fun t => t.answerLost tag).push (.channel p) := by
    rw [Ev.leaveTable, if_neg hkind, htag]
    exact congrArg (fun v => ({ e.reach o.deadline with ports := v } : Ev).push (.channel p)) (modifyAt_twice e.ports p
      (fun x => { x with tether := { x.tether with outstanding := x.tether.outstanding.filter fun y => decide (y.tag ≠ tag) } })
      fun x => { x with tether := { x.tether with counters := { x.tether.counters with
        timeouts := bump x.tether.counters.timeouts } } })
  have hfound : (e.port p).tether.outstandingAt tag = some o := hfind
  rw [Ev.answerExpired, hfound, ← hleave]

theorem Ev.relayTimeout_eq (e : Ev) (p : PortId) (tag : Byte) {r : RelayEntry}
    (hfind : e.relay.find? (fun x => x.sentAs p tag) = some r) :
    e.relayTimeout p tag = ((e.setRelay (e.relay.filter fun x => !x.sentAs p tag)).writeReply
      (r.reply .timeout 0 0 false)).updRelay
      p fun c => { c with timeout := bump c.timeout } := by
  rw [Ev.relayTimeout, hfind]
  rfl

/-! ### Replies at the watermark (R138, R139) -/

theorem Ev.updRelay_same (e : Ev) (p : PortId) {f : RelayCounters → RelayCounters}
    (h : f (e.port p).relay = (e.port p).relay) : e.updRelay p f = e :=
  congrArg (fun v => ({ e with ports := v } : Ev))
    (modifyAt_same e.ports p (congrArg (fun y => ({ e.port p with relay := y } : Port)) h))

/-- The reply counters after a list of replies (R142). -/
def RelayCounters.countReplies (c : RelayCounters) (l : List Reply) : RelayCounters :=
  l.foldl (fun c r => c.countReply r.status) c

/-- The replies of the HELD entries of a port whose watermark is reached, in arrival order (R138, R139). -/
def State.releasedReplies (s : State) (p : PortId) : List Reply :=
  (s.relay.filter fun r => r.released p (s.port p).ingress.egressCount).filterMap RelayEntry.heldReply

/-- Replies of the relay are written in their order, each counted (R139, R142). -/
theorem Ev.relayReplies_eq (l : List Reply) (e : Ev) (p : PortId) :
    l.foldl (fun x r => x.relayReply p r) e
      = { e.updRelay p (fun c => c.countReplies l) with
          link := { e.link with written := e.link.written ++ l } } := by
  induction l generalizing e with
  | nil =>
    have hlink : ({ e.link with written := e.link.written ++ [] } : Link) = e.link := by rw [List.append_nil]
    rw [hlink]
    exact (e.updRelay_same p (f := fun c => c) rfl).symm
  | cons r rest ih =>
    refine (ih (e.relayReply p r)).trans ?_
    have hwritten : e.link.written ++ [r] ++ rest = e.link.written ++ r :: rest := by simp
    rw [← hwritten]
    exact congrArg (fun v => ({ e with ports := v, link := { e.link with written := e.link.written ++ [r] ++ rest } } : Ev))
      (modifyAt_twice e.ports p (fun x => { x with relay := x.relay.countReply r.status })
        fun x => { x with relay := x.relay.countReplies rest })

/-- Settles O37: the timeout of an access, that of a lens packet, and the replies to the HELD answers. -/
theorem relayAnswersAtItsMoment : Obligations.RelayAnswersAtItsMoment := by
  refine ⟨fun s p tag o r hs hfind hkind hrelay hbusy => ?_,
    fun s p tag o m r hs hfind hlens hbusy hstate hmove hserve hqueue hwant hon hreaction hr => ?_,
    fun s p hs => ?_, fun r p egress code value w cut hstage => ?_⟩
  · have hexpired := s.begin.answerExpired_eq p tag hfind (by simp [hkind])
    rw [if_neg (by simp [hkind, AnswerKind.isLens]), Ev.relayTimeout_eq (((s.begin.reach o.deadline).updTether p fun t =>
      t.answerLost tag).push (.channel p)) p tag hrelay] at hexpired
    refine congrArg Host.Outcome.next (s.blockEvent_silent _ hs hexpired
      (Ev.settle_last _ (.channel p) rfl (Ev.startChannel_same _ p (Tether.startChannel_busy _ ?_)) rfl) rfl rfl ?_)
    · simpa [Tether.answerLost] using hbusy
    · exact congrArg (fun v => (({ s with
          ports := v, time := max s.time o.deadline
          relay := s.relay.filter fun x => !x.sentAs p tag } : State).wrote (r.reply .timeout 0 0 false)))
        (modifyAt_twice s.ports p (fun x => { x with tether := x.tether.answerLost tag })
          fun x => { x with relay := { x.relay with timeout := bump x.relay.timeout } })
  · have hexpired := s.begin.answerExpired_eq p tag hfind (by rintro h; simp [h, AnswerKind.isLens] at hlens)
    rw [if_pos hlens, Ev.lensTimeout, if_pos (by simpa using hstate)] at hexpired
    refine congrArg Host.Outcome.next ((s.lensStall_ends p hs hexpired (.inr rfl) rfl rfl rfl rfl ?_ ?_ ?_ ?_ ?_ hserve
      ?_ hr).trans
      rfl)
    · simp
    · simpa using hon
    · simpa using hqueue
    · simpa using hwant
    · simpa [Tether.answerLost] using hbusy
    · simpa using hreaction
  · refine ⟨(s.port p).relay.countReplies (s.releasedReplies p), ?_⟩
    refine congrArg Host.Outcome.next (s.blockEvent_quiet _ hs (Ev.relayReplies_eq _ _ p) rfl rfl rfl ?_)
    exact congrArg (fun v => ({ s with
        ports := v
        relay := s.relay.filter fun r => !r.released p (s.port p).ingress.egressCount
        link := { s.link with written := s.link.written ++ s.releasedReplies p } } : State))
      (modifyAt_congr s.ports p (f := fun x => { x with relay := x.relay.countReplies (s.releasedReplies p) })
        (g := fun x => { x with relay := (s.port p).relay.countReplies (s.releasedReplies p) }) rfl)
  · refine ⟨by simp [RelayEntry.released, hstage, reached], ?_⟩
    cases cut <;> simp only [RelayEntry.heldReply, hstage] <;> rfl

end Sys2Proof.Machine
end

section
/-! The lock check (R8 to R13, R163): each expiry as one change of its port. -/

namespace Sys2Proof.Machine

set_option Elab.async false

/-! ### Changes of link state (R7, R184) -/

/-- A LIVE shot of the port is not in progress (R147). -/
def State.shotFree (s : State) (p : PortId) : Prop := ∀ x, s.meter.holder ≠ some (.live p, x)

theorem Ev.cutLive_none (e : Ev) (p : PortId) (h : e.shotFree p) : e.cutLive p = e := by
  unfold Ev.cutLive
  split
  · next q x hholder =>
    have hq : q ≠ p := fun hq => h x (hq ▸ hholder)
    exact if_neg hq
  · rfl

/-- A change of the tether port and then of its link state, where no LIVE shot of the port is cut short (R7, R145,
R184). -/
theorem Ev.setLink_changed (e : Ev) (p : PortId) {new : LinkState} (hold : (e.port p).tether.link ≠ new)
    (hlive : (e.port p).tether.link = .locking → e.shotFree p) :
    e.setLink p new = (e.updTether p fun t => { t with link := new }).offer
      (.linkChange p (e.port p).tether.link new e.usClock) := by
  rw [Ev.setLink, if_neg hold]
  split
  · next h => exact Ev.cutLive_none _ p (hlive h)
  · rfl

theorem Ev.updTether_setLink (e : Ev) (p : PortId) {new old : LinkState} {f : Tether → Tether}
    (hlink : (f (e.port p).tether).link = old) (hold : old ≠ new) (hlive : old = .locking → e.shotFree p) :
    (e.updTether p f).setLink p new
      = (e.updTether p fun t => { f t with link := new }).offer (.linkChange p old new e.usClock) := by
  have hlink' : ((e.updTether p f).port p).tether.link = old := by rw [Ev.updTether_port]; exact hlink
  rw [Ev.setLink_changed _ p (by rwa [hlink']) (by rw [hlink']; exact hlive), hlink', Ev.updTether_twice]
  rfl

/-! ### Windows (R9 to R11) -/

theorem Ev.checkWaking_seen (e : Ev) (p : PortId) (hlink : (e.port p).tether.link = .waking) :
    e.checkWaking p true = ((e.updTether p fun t => { t with goodWindows := 0, wakeDue := false, link := .locking }).offer
      (.linkChange p .waking .locking e.usClock)).push (.channel p) :=
  congrArg (·.push (.channel p)) (e.updTether_setLink p (f := fun t => { t with goodWindows := 0, wakeDue := false })
    hlink (by decide) fun h => LinkState.noConfusion h)

theorem Ev.checkWaking_unseen (e : Ev) (p : PortId) :
    e.checkWaking p false = (e.updTether p fun t => { t with wakeDue := true }).push (.channel p) := rfl

theorem Ev.checkLocking_bad (e : Ev) (p : PortId) :
    e.checkLocking p false = e.updTether p fun t => { t with goodWindows := 0 } := rfl

theorem Ev.checkLocking_good (e : Ev) (p : PortId) (h : (e.port p).tether.goodWindows < 2) :
    e.checkLocking p true = e.updTether p fun t => { t with goodWindows := t.goodWindows + 1 } :=
  (if_pos rfl).trans (if_neg (by omega))

theorem Ev.checkLocking_third (e : Ev) (p : PortId) (h : 2 ≤ (e.port p).tether.goodWindows) :
    e.checkLocking p true = e.enterUp p :=
  (if_pos rfl).trans (if_pos (by omega))

/-- The third good window in a row leads to UP (R10, R18). -/
theorem Ev.enterUp_eq (e : Ev) (p : PortId) (hlink : (e.port p).tether.link = .locking) (hlive : e.shotFree p) :
    e.enterUp p = (((e.updTether p fun t => { t.raised e.time with link := .up }).offer
      (.linkChange p .locking .up e.usClock)).push (.channel p)).push (.examine p) :=
  congrArg (fun y => (Ev.push y (.channel p)).push (.examine p))
    (e.updTether_setLink p (f := fun t => t.raised e.time) hlink (by decide) fun _ => hlive)

theorem Ev.paceLive_none (e : Ev) (p : PortId) (hlink : (e.port p).tether.link = .locking)
    (hallowance : (e.port p).cable.allowance = 0) : e.paceLive p = e :=
  (if_pos hlink).trans (if_neg (by omega))

/-- A LIVE shot is asked for while the allowance lasts (R144, R163). -/
theorem Ev.paceLive_asks (e : Ev) (p : PortId) (hlink : (e.port p).tether.link = .locking)
    (hallowance : 0 < (e.port p).cable.allowance) :
    e.paceLive p = ((e.updCable p fun c => { c with
        allowance := c.allowance - 1
        counters := { c.counters with liveRequested := bump c.counters.liveRequested } }).updMeter fun m =>
      m.requestLive p).push .meter := by
  refine ((if_pos hlink).trans (if_pos hallowance)).trans ?_
  exact congrArg (fun v => ((({ e with ports := v } : Ev).updMeter fun m => m.requestLive p).push .meter))
    (modifyAt_twice e.ports p (fun x => { x with cable := { x.cable with allowance := x.cable.allowance - 1 } })
      fun x => { x with cable := { x.cable with counters := { x.cable.counters with
        liveRequested := bump x.cable.counters.liveRequested } } })

theorem Ev.paceLive_left (e : Ev) (p : PortId) (hlink : (e.port p).tether.link ≠ .locking) :
    e.paceLive p = e.updCable p fun c => { c with allowance := 0 } := if_neg hlink

/-- A port that has lost the lock of its link (R11, R15, R161, R162). -/
def Port.lockLost (x : Port) (now : Nat) : Port :=
  { x with
    tether := { x.tether with
      link := .locking, goodWindows := 0, relockTimer := some (now + 200000), cameraHeld := 0, creditDue := false
      counters := { x.tether.counters with lockLosses := bump x.tether.counters.lockLosses } }
    cable := if x.feed.power = .full then
        { x.cable with
          allowance := 8
          flex := { x.cable.flex with lockLosses := min (x.cable.flex.lockLosses + 1) 65535 } }
      else x.cable }

theorem Ev.updCable_same (e : Ev) (p : PortId) {f : Cable → Cable} (h : f (e.port p).cable = (e.port p).cable) :
    e.updCable p f = e :=
  congrArg (fun v => ({ e with ports := v } : Ev))
    (modifyAt_same e.ports p (congrArg (fun y => ({ e.port p with cable := y } : Port)) h))

theorem Ev.lockLoss_eq (e : Ev) (p : PortId) (hlink : (e.port p).tether.link = .up)
    (htriggers : (e.port p).tether.queue.any DownPacket.isTrigger = false) (hrecord : (e.port p).ingress.record = .empty) :
    e.lockLoss p = ((e.updPort p fun x => x.lockLost e.time).offer (.linkChange p .up .locking e.usClock)).push (.channel p) := by
  have hkeep : (e.ports.get p).tether.queue.filter (fun k => !k.isTrigger) = (e.ports.get p).tether.queue := by
    rw [List.filter_eq_self]
    intro k hk
    simpa using List.any_eq_false.mp htriggers k hk
  obtain ⟨evidence, hevidence⟩ : ∃ evidence : Cable → Cable, evidence = fun c =>
      if (e.port p).feed.power = .full then
        { c with allowance := 8, flex := { c.flex with lockLosses := min (c.flex.lockLosses + 1) 65535 } }
      else c := ⟨_, rfl⟩
  have hcounted : (e.countTether p fun c => { c with lockLosses := bump c.lockLosses }).lockEvidence p
      = (e.countTether p fun c => { c with lockLosses := bump c.lockLosses }).updCable p evidence := by
    rw [hevidence, Ev.lockEvidence]
    simp only [Ev.countTether_port]
    split
    · rfl
    · exact (Ev.updCable_same _ p rfl).symm
  have hleave (e' : Ev) (hrecord' : (e'.port p).ingress.record = .empty) : e'.leaveUp p = e'.updTether p fun t =>
      { t with cameraHeld := 0, creditDue := false, queue := t.queue.filter fun k => !k.isTrigger } := by
    have hleft : ((e'.updTether p fun t => { t with
        cameraHeld := 0, creditDue := false, queue := t.queue.filter fun k => !k.isTrigger }).port p).ingress.record =
        .empty := by
      rw [Ev.updTether_port]
      exact hrecord'
    rw [Ev.leaveUp, Ev.ingressLinkLost, hleft]
  rw [Ev.lockLoss, htriggers, hcounted, hleave _ (by simpa using hrecord), Ev.updTether_twice,
    Ev.updTether_setLink _ p (old := .up) (by simpa using hlink) (by decide) (fun h => LinkState.noConfusion h)]
  refine congrArg (fun v => ((({ e with ports := v } : Ev).offer (.linkChange p .up .locking e.usClock)).push (.channel p))) ?_
  simp only [Ev.countTether, Ev.updTether, Ev.updCable, Ev.updPort, modifyAt_twice, hevidence]
  refine modifyAt_congr _ _ ?_
  simp only [Port.lockLost, hkeep]
  rfl

/-- The event of a lock-check expiry once its new window has begun (R8). -/
def State.window (s : State) (p : PortId) (d : Nat) : Ev :=
  (s.begin.reach d).updTether p fun t => t.newWindow (max s.time d)

theorem State.window_port (s : State) (p : PortId) (d : Nat) :
    (s.window p d).port p = { s.port p with tether := (s.port p).tether.newWindow (max s.time d) } :=
  Ev.updTether_port _ p _

theorem State.lockCheck_window (s : State) (p : PortId) {d : Nat} (htimer : (s.port p).tether.lockCheck = some d) :
    s.begin.lockCheck p = (s.window p d).judgeWindow p (s.port p).tether.marks :=
  Ev.onExpiry_some _ _ htimer

/-- The channel of a port whose window has ended stays busy. -/
theorem Ev.settle_window (e : Ev) (p : PortId) (htodo : e.todo = [.channel p]) (hbusy : (e.port p).tether.channel ≠ none) :
    e.settle = { e with todo := [] } :=
  Ev.settle_last e (.channel p) htodo (Ev.startChannel_same _ p (Tether.startChannel_busy _ hbusy)) rfl

/-- Settles O38: link state by link state, with the marks of the window that ended. -/
theorem lockChecksDriveTheLink : Obligations.LockChecksDriveTheLink := by
  intro s now p d hs htimer hbusy hnow
  subst hnow
  have hport := s.window_port p d
  have hact := s.lockCheck_window p htimer
  refine ⟨fun hlink => ?_, fun hlink => ?_, fun hlink => ?_⟩
  all_goals have hlink' : ((s.window p d).port p).tether.link = _ := (congrArg (fun x => x.tether.link) hport).trans hlink
  · have hjudge (seen : Bool) (hseen : decide (0 < (s.port p).tether.marks) = seen) :
        s.begin.lockCheck p = (s.window p d).checkWaking p seen := by
      rw [hact, Ev.judgeWindow, hlink', ← hseen]
    refine ⟨fun hmarks => ?_, fun hmarks => ?_⟩
    · exact congrArg Host.Outcome.next (s.blockEvent_silent _ hs ((hjudge false (by simp [hmarks])).trans
        (Ev.checkWaking_unseen _ p)) (Ev.settle_window _ p rfl (by simpa [hport, Tether.newWindow] using hbusy)))
    · exact congrArg Host.Outcome.next (s.blockEvent_noticed _ hs
        ((hjudge true (by simpa using hmarks)).trans (Ev.checkWaking_seen _ p hlink'))
        (Ev.settle_window _ p rfl (by simpa [hport, Tether.newWindow] using hbusy)))
  · have hjudge (good : Bool) (hgood : decide (6 ≤ (s.port p).tether.marks) = good) :
        s.begin.lockCheck p = ((s.window p d).checkLocking p good).paceLive p := by
      rw [hact, Ev.judgeWindow, hlink', ← hgood]
      rfl
    refine ⟨fun hmarks hallowance => ?_, fun hmarks hcount hallowance => ?_, fun hmarks hallowance hmeter => ?_,
      fun hmarks hcount hqueue hwant hlive => ?_⟩
    · exact congrArg Host.Outcome.next (s.blockEvent_quiet _ hs ((hjudge false (by simpa using hmarks)).trans
        (Ev.paceLive_none _ p (by simpa [Ev.checkLocking_bad] using hlink')
          (by simpa [Ev.checkLocking_bad, hport] using hallowance))))
    · have hgood := (s.window p d).checkLocking_good p (by simpa [hport, Tether.newWindow] using hcount)
      refine congrArg Host.Outcome.next (s.blockEvent_quiet _ hs ((hjudge true (by simpa using hmarks)).trans
        ((congrArg (Ev.paceLive · p) hgood).trans
          (Ev.paceLive_none _ p (by simpa using hlink') (by simpa [hport] using hallowance)))))
    · refine congrArg Host.Outcome.next (s.blockEvent_silent _ hs ((hjudge false (by simpa using hmarks)).trans
        (Ev.paceLive_asks _ p (by simpa [Ev.checkLocking_bad] using hlink')
          (by simpa [Ev.checkLocking_bad, hport] using hallowance)))
        (Ev.settle_last _ .meter rfl (Ev.meterServe_busy _ hmeter) rfl) rfl rfl ?_)
      exact congrArg (fun v => ({ s with time := max s.time d, ports := v, meter := s.meter.requestLive p } : State))
        (modifyAt_twice (s.window p d).ports p
          (fun x => { x with tether := { x.tether with goodWindows := 0 } })
          fun x => { x with cable := { x.cable with
            allowance := x.cable.allowance - 1
            counters := { x.cable.counters with liveRequested := bump x.cable.counters.liveRequested } } })
    · have hup : (s.window p d).checkLocking p true = _ :=
        ((s.window p d).checkLocking_third p (by simpa [hport, Tether.newWindow] using hcount)).trans
          ((s.window p d).enterUp_eq p hlink' hlive)
      refine congrArg Host.Outcome.next (s.blockEvent_noticed _ hs ((hjudge true (by simpa using hmarks)).trans
        ((congrArg (Ev.paceLive · p) hup).trans (Ev.paceLive_left _ p (by simp))))
          (Ev.settle_idle _ (fun t ht => ?_) (of_decide_eq_true rfl)) rfl ?_)
      · have ht : t = .channel p ∨ t = .examine p := by simpa using (show t ∈ [Task.channel p, .examine p] from ht)
        obtain rfl | rfl := ht
        · exact Ev.idle_channel _ p (Tether.startChannel_busy _
            (by simpa [hport, Tether.newWindow, Tether.raised] using hbusy))
        · exact Ev.idle_examine _ p (by simpa [hport] using hqueue) (by simpa [hport] using hwant)
      · refine congrArg (fun v => ({ s with time := max s.time d, ports := v } : State))
          ((modifyAt_twice (s.window p d).ports p
            (fun x => { x with tether := { x.tether.raised (max s.time d) with link := .up } })
            (fun x => { x with cable := { x.cable with allowance := 0 } })).trans (modifyAt_congr _ p ?_))
        simp only [Tether.raised, Nat.sub_pos_iff_lt]
        rfl
  · have hjudge : s.begin.lockCheck p
        = if 6 ≤ (s.port p).tether.marks then s.window p d else (s.window p d).lockLoss p := by
      rw [hact, Ev.judgeWindow, hlink']
      rfl
    refine ⟨fun hmarks => ?_, fun hmarks htriggers hrecord => ?_⟩
    · exact congrArg Host.Outcome.next (s.blockEvent_quiet _ hs (hjudge.trans (if_pos hmarks)))
    · refine congrArg Host.Outcome.next (s.blockEvent_noticed _ hs ((hjudge.trans (if_neg (by omega))).trans
        ((s.window p d).lockLoss_eq p hlink' (by simpa [hport, Tether.newWindow] using htriggers)
          (by simpa [hport] using hrecord)))
        (Ev.settle_window _ p rfl (by simpa [Ev.port_updPort, hport, Tether.newWindow, Port.lockLost] using hbusy)))

end Sys2Proof.Machine
end

section
/-! The result of a probe (R32 to R34) and a SHORT answered with CUT (R40, R168, R176). -/

namespace Sys2Proof.Machine

set_option Elab.async false

/-! ### Probes (R32, R33) -/

/-- The ranges of a signature resistance, from the lowest up (R32). -/
theorem signatureRanges_eq (r : Nat) :
    (if r < 1000 then ProbeResult.short
      else if 13500 ≤ r ∧ r ≤ 16500 then .valid
      else if 500000 < r then .openEnded
      else .invalid)
    = if r < 1000 then .short
      else if r < 13500 then .invalid
      else if r < 16501 then .valid
      else if r < 500001 then .invalid
      else .openEnded := by
  split_ifs
  any_goals rfl
  all_goals omega

theorem judgeProbe_eq (at4V at8V : Nat) :
    judgeProbe at4V at8V =
      if at8V = at4V then .openEnded
      else if at8V < at4V then .invalid
      else if roundHalfUp 4000000 (at8V - at4V) < 1000 then .short
      else if roundHalfUp 4000000 (at8V - at4V) < 13500 then .invalid
      else if roundHalfUp 4000000 (at8V - at4V) < 16501 then .valid
      else if roundHalfUp 4000000 (at8V - at4V) < 500001 then .invalid
      else .openEnded :=
  if_congr Iff.rfl rfl (if_congr Iff.rfl rfl (signatureRanges_eq _))

/-- The event of a completed probe once its end is recorded (R28, R32). -/
def State.probed (s : State) (p : PortId) (d at4V at8V : Nat) : Ev :=
  (s.begin.reach d).updFeed p fun f =>
    { f with probeTimer := none, lastProbeEnd := some (max s.time d)
             counters := f.counters.countProbe (judgeProbe at4V at8V) }

theorem State.probeDone_probed (s : State) (p : PortId) (at4V at8V : Nat) {d : Nat}
    (htimer : (s.port p).feed.probeTimer = some d) :
    s.begin.probeDone p at4V at8V = (s.probed p d at4V at8V).probeEffect p (judgeProbe at4V at8V) :=
  Ev.onExpiry_some _ _ htimer

theorem State.probed_port (s : State) (p : PortId) (d at4V at8V : Nat) :
    (s.probed p d at4V at8V).port p = { s.port p with feed := { (s.port p).feed with
      probeTimer := none, lastProbeEnd := some (max s.time d)
      counters := (s.port p).feed.counters.countProbe (judgeProbe at4V at8V) } } :=
  Ev.updFeed_port _ p _

/-- The sum reads the allocations only (R53). -/
theorem State.allocationSum_of_allocation (s t : State) (h : ∀ p, (s.port p).pool.allocation = (t.port p).pool.allocation) :
    s.allocationSum = t.allocationSum := by
  rw [State.allocationSum_eq, State.allocationSum_eq]
  exact Finset.sum_congr rfl fun p _ => h p

theorem Ev.updFeed_twice (e : Ev) (p : PortId) (f g : Feed → Feed) :
    (e.updFeed p f).updFeed p g = e.updFeed p fun x => g (f x) := by
  simp only [Ev.updFeed, Ev.updPort, modifyAt_twice]

theorem Ev.updFeed_congr (e : Ev) (p : PortId) {f g : Feed → Feed} (h : f (e.port p).feed = g (e.port p).feed) :
    e.updFeed p f = e.updFeed p g :=
  congrArg (fun v => ({ e with ports := v } : Ev))
    (modifyAt_congr e.ports p (congrArg (fun y => ({ e.port p with feed := y } : Port)) h))

/-- OPEN: VACANT with the re-probe timer (R33). -/
theorem Ev.probeEffect_open (e : Ev) (p : PortId) :
    e.probeEffect p .openEnded = (e.updFeed p fun f =>
      { f with power := .vacant, invalidCount := 0, reprobeTimer := some (e.time + 1000000) }).markPower p .probe := by
  refine congrArg (Ev.markPower · p .probe) ((e.updFeed_twice p _ _).trans (e.updFeed_congr p ?_))
  simp [Feed.enter]
  rfl

/-- The first and second INVALID in a row: a new probe (R33). -/
theorem Ev.probeEffect_invalid (e : Ev) (p : PortId) (h : (e.port p).feed.invalidCount < 2) :
    e.probeEffect p .invalid = e.updFeed p fun f =>
      { f with invalidCount := f.invalidCount + 1, probeTimer := some (e.time + 20000) } :=
  (if_pos (Nat.succ_lt_succ h)).trans (e.updFeed_twice p _ _)

/-- The notices of an event that tells of one change of power state (R30). -/
theorem Ev.notices_power (e : Ev) (p : PortId) (cause : PowerCause) {x y : Port} (hoffers : e.offers = [.power p cause])
    (hpool : e.poolOffers = []) (hbefore : e.before.get p = x) (hafter : e.port p = y) (hchange : x.feed.power ≠ y.feed.power) :
    e.notices = [.powerChange p x.feed.power y.feed.power y.feed.hold y.feed.retry cause] := by
  have hafter' : e.ports.get p = y := hafter
  rw [Ev.notices, hoffers, hpool, powerOffer_resolve, hbefore, hafter', powerNotice_some (.inl hchange)]
  rfl

/-- An event that does no more than change the power state of a port, and tells of it (R30). -/
theorem State.blockEvent_power (s : State) (p : PortId) (cause : PowerCause) {act : Ev → Ev} {e : Ev} {f : Feed → Feed}
    (hs : s.running) (hact : act s.begin = (e.updFeed p f).markPower p cause) (hbefore : e.before = s.ports)
    (htodo : e.todo = []) (hoffers : e.offers = []) (hpool : e.poolOffers = [])
    (hchange : (s.port p).feed.power ≠ (f (e.port p).feed).power) :
    s.blockEvent act = (e.toState.onFeed p f).noticed [.powerChange p (s.port p).feed.power (f (e.port p).feed).power
      (f (e.port p).feed).hold (f (e.port p).feed).retry cause] := by
  have hmarked : ((e.updFeed p f).markPower p cause).offers = [.power p cause] := by
    rw [Ev.markPower]
    exact congrArg (fun l => (l.filter fun o => !o.isPower p) ++ [Offer.power p cause]) hoffers
  refine s.blockEvent_noticed _ hs hact (Ev.settle_done _ htodo) (Ev.notices_power _ p cause hmarked hpool
    (x := s.port p) (y := { e.port p with feed := f (e.port p).feed }) ?_ ?_ hchange) rfl
  · exact congrArg (·.get p) hbefore
  · rw [Ev.markPower_port, Ev.updFeed_port]

/-- A port that waits for its boot allowance (R33, R34, R54). -/
def Port.bootWaits (x : Port) (r : Nat × RSource) (estimate : Nat) : Port :=
  { x with
    feed := { x.feed with power := .bootWait, invalidCount := 0 }
    pool := { x.pool with rUsed := some r, bootEstimate := estimate } }

/-- VALID with a feasible boot allowance: the port waits for its admission (R34, R54, R57). -/
theorem Ev.probeEffect_valid (e : Ev) (p : PortId) {r : Nat × RSource} {figure estimate : Nat}
    (hr : r = chooseRUsed (e.port p) (e.kinds.get (e.port p).feed.settings.cableKind))
    (hfeasible : feedCalculation 3000 e.pool.settings.vPool (e.port p).feed.settings.vMin r.1 e.pool.effectiveBudget
      = .feasible figure estimate) :
    e.probeEffect p .valid = (((e.updPort p fun x => x.bootWaits r estimate).markPower p .probe).updPool fun q =>
      q.join p .boot figure (e.port p).feed.settings.priority).push .serve := by
  obtain ⟨e₁, he₁⟩ : ∃ e₁ : Ev, e₁ = (e.updFeed p fun f => { f with power := .bootWait, invalidCount := 0 }).markPower p .probe :=
    ⟨_, rfl⟩
  have hport : e₁.port p = { e.port p with feed := { (e.port p).feed with power := .bootWait, invalidCount := 0 } } := by
    rw [he₁, Ev.markPower_port, Ev.updFeed_port]
  have hentered : (e.updFeed p fun f => { f with invalidCount := 0 }).setPower p .bootWait .probe = e₁ := by
    rw [he₁]
    refine congrArg (Ev.markPower · p .probe) ((e.updFeed_twice p _ _).trans (e.updFeed_congr p ?_))
    simp [Feed.enter]
  have hchoose : chooseRUsed (e₁.port p) (e₁.kindOf p) = r := by
    rw [hr, State.kindOf, hport, he₁]
    rfl
  obtain ⟨e₂, he₂⟩ : ∃ e₂ : Ev, e₂ = e₁.updFigures p fun q => { q with rUsed := some r } := ⟨_, rfl⟩
  have hport₂ : e₂.port p = { e.port p with
      feed := { (e.port p).feed with power := .bootWait, invalidCount := 0 }
      pool := { (e.port p).pool with rUsed := some r } } := by
    rw [he₂, Ev.updFigures_port, hport]
  have hpool : e₂.pool = e.pool := by rw [he₂, he₁]; rfl
  have hcalculated : e₂.feedFor p Config.bootAllowance = .feasible figure estimate := by
    rw [State.feedFor, hport₂, hpool]
    exact hfeasible
  have hboot : e.probeEffect p .valid
      = (e₂.updFigures p fun q => { q with bootEstimate := estimate }).joinQueue p .boot figure := by
    have hrequest : e.probeEffect p .valid
        = ((e.updFeed p fun f => { f with invalidCount := 0 }).bootRequest p) := rfl
    rw [hrequest, Ev.bootRequest, hentered, hchoose, ← he₂]
    simp only [hcalculated]
  have hcolumn : (e₂.updFigures p fun q => { q with bootEstimate := estimate })
      = (e.updPort p fun x => x.bootWaits r estimate).markPower p .probe := by
    rw [he₂, he₁]
    simp only [Ev.updFigures, Ev.updFeed, Ev.markPower, Ev.updPort, modifyAt_twice]
    rfl
  have hpriority : (((e.updPort p fun x => x.bootWaits r estimate).markPower p .probe).port p).feed.settings.priority
      = (e.port p).feed.settings.priority := by
    rw [Ev.markPower_port, Ev.port_updPort, if_pos rfl]
    rfl
  rw [hboot, hcolumn, Ev.joinQueue, hpriority]

/-- A SHORT answered with CUT at a probing port writes its finding and locks the port out (R40, R168, R176). -/
theorem Ev.probeShort_cut (e : Ev) (p : PortId) (hpower : (e.port p).feed.power = .probing)
    (hcut : (e.port p).cable.reactions.get FaultKind.probeShort.index = .cut) :
    ∃ (m : Finding) (b : Breaks) (e' : Ev), m.port = p ∧ m.kind = .short ∧ m.source = .probe ∧ m.distance = none
      ∧ m ∈ b.findings ∧ e.raiseFault p .probeShort = e' ∧ e'.todo = e.todo ∧ e'.breaks = b
      ∧ (e'.port p).feed.power = .lockedOut ∧ (e'.port p).cable.latest = some m ∧ ∀ q, q ≠ p → e'.port q = e.port q := by
  obtain ⟨e₁, he₁⟩ : ∃ e₁ : Ev, e₁ = e.countCable p fun c =>
    { c with faults := modifyAt c.faults FaultKind.probeShort.index bump } := ⟨_, rfl⟩
  obtain ⟨f, hf⟩ : ∃ f : Finding, f = e₁.newFinding p .short none (some .negative) .probe {} none := ⟨_, rfl⟩
  have hfport : f.port = p := by rw [hf]; rfl
  obtain ⟨m, b, isNew, ⟨n, hm⟩, hmem, -, -, hwrite⟩ := Ev.writeFinding_eq e₁ f
  obtain ⟨e₂, he₂⟩ : ∃ e₂ : Ev, e₂ = (e₁.writeFinding f).offer (.fault p .probeShort .cut (e.port p).feed.power
    (e.port p).feed.retry (e₁.writeFinding f).msClock) := ⟨_, rfl⟩
  have hr : (e.port p).cable.reactionTo .probeShort = .cut := (if_neg (by decide)).trans hcut
  have hraise : e.raiseFault p .probeShort = e₂.leaveFor p .lockedOut := by
    rw [Ev.raiseFault, Ev.takeFault, hr, if_pos (by decide), ← he₁, ← hf, ← he₂]
    rfl
  have hport : e₂.port p = { e.port p with cable := { (e.port p).cable with
      latest := some m
      counters := { (e.port p).cable.counters with
        faults := modifyAt (e.port p).cable.counters.faults FaultKind.probeShort.index bump
        findings := bump (e.port p).cable.counters.findings } } } := by
    rw [he₂, Ev.offer_port, hwrite, hfport, Ev.offer_port, Ev.updCable_port, Ev.updBreaks_port, he₁, Ev.countCable_port]
  have hother (q : PortId) (hq : q ≠ p) : e₂.port q = e.port q := by
    rw [he₂, Ev.offer_port, hwrite, hfport, Ev.offer_port, Ev.updCable_port_other _ _ _ _ hq, Ev.updBreaks_port, he₁,
      Ev.countCable, Ev.updCable_port_other _ _ _ _ hq]
  have hleave : e₂.leaveFor p .lockedOut
      = (e₂.updFeed p fun f => { f with probeTimer := none, lastProbeEnd := some e₂.time }).setPower p .lockedOut .fault := by
    have hpower₂ : (e₂.port p).feed.power = .probing := by rw [hport]; exact hpower
    simp only [Ev.leaveFor, Ev.endOffPhase, hpower₂]
  refine ⟨m, b, _, by rw [hm]; exact hfport, by rw [hm, hf]; rfl, by rw [hm, hf]; rfl, by rw [hm, hf]; rfl, hmem,
    hraise.trans hleave, ?_, ?_, ?_, ?_, fun q hq => ?_⟩
  · rw [he₂, hwrite, he₁]
    rfl
  · rw [he₂, hwrite]
    rfl
  · rw [Ev.setPower, Ev.markPower_port, Ev.updFeed_port]
    rfl
  · rw [Ev.setPower, Ev.markPower_port, Ev.updFeed_port, Ev.updFeed_port, hport]
  · rw [Ev.setPower, Ev.markPower_port, Ev.updFeed_port_other _ _ _ _ hq, Ev.updFeed_port_other _ _ _ _ hq, hother q hq]

/-- Settles O44: result by result. -/
theorem probesMoveThePort : Obligations.ProbesMoveThePort := by
  refine ⟨judgeProbe_eq, fun s now p d at4V at8V hs htimer hpower hnow => ?_⟩
  subst hnow
  have hport := s.probed_port p d at4V at8V
  have hact := s.probeDone_probed p at4V at8V htimer
  refine ⟨fun hopen => ?_, fun hinvalid hcount => ?_, fun r figure estimate hvalid hqueue hr hfeasible hroom => ?_,
    fun hshort hcut => ?_⟩
  · rw [hopen, Ev.probeEffect_open] at hact
    refine congrArg Host.Outcome.next ((s.blockEvent_power p .probe hs hact rfl rfl rfl rfl (by simp [hpower])).trans ?_)
    rw [hport, hpower]
    rfl
  · rw [hinvalid] at hact
    exact congrArg Host.Outcome.next (s.blockEvent_quiet _ hs
      (hact.trans (Ev.probeEffect_invalid _ p (by rw [hport]; exact hcount))))
  · have hvalid' := (s.probed p d at4V at8V).probeEffect_valid p (r := r) (figure := figure) (estimate := estimate)
      (by rw [hport]; exact hr) (by rw [hport]; exact hfeasible)
    rw [hvalid, hvalid'] at hact
    have hjoin : s.pool.join p .boot figure (s.port p).feed.settings.priority = { s.pool with
        queue := [{ port := p, type := .boot, amount := figure, priority := (s.port p).feed.settings.priority
                    stamp := s.pool.stamp }]
        stamp := bump s.pool.stamp } := by
      rw [Pool.join, hqueue]
      rfl
    have hpriority : ((s.probed p d at4V at8V).port p).feed.settings.priority = (s.port p).feed.settings.priority := by
      rw [hport]
    rw [hpriority] at hact
    have hafter : ((s.probed p d at4V at8V).updPort p fun x => x.bootWaits r estimate).port p
        = ((s.probed p d at4V at8V).port p).bootWaits r estimate := modifyAt_get _ _ _
    have hallocation (q : PortId) : (((s.probed p d at4V at8V).updPort p fun x => x.bootWaits r estimate).port q).pool.allocation
        = (s.port q).pool.allocation := by
      by_cases hq : q = p
      · rw [hq, hafter, hport]
        rfl
      · rw [Ev.port_updPort, if_neg hq, State.probed, Ev.updFeed_port_other _ _ _ _ hq, Ev.reach_port, State.begin_port]
    have hsum := State.allocationSum_of_allocation _ _ hallocation
    refine congrArg Host.Outcome.next (s.blockEvent_noticed _ hs hact
      (Ev.settle_last _ .serve rfl (Ev.serve_nothing _ ?_) rfl) ?_ ?_)
    · intro a ha
      have hhead : (s.pool.join p .boot figure (s.port p).feed.settings.priority).queue.head? = some a := ha
      rw [hjoin] at hhead
      obtain rfl := Option.some.inj hhead
      refine decide_eq_false (Nat.not_le.mpr ?_)
      exact hroom.trans_eq (congrArg (· + figure) hsum.symm)
    · refine (Ev.notices_power _ p .probe (x := s.port p) (y := ((s.probed p d at4V at8V).port p).bootWaits r estimate)
        rfl rfl rfl (by exact hafter)
        (hpower.trans_ne (by simp [Port.bootWaits]))).trans ?_
      rw [hport]
      exact congrArg (fun w => [Notice.powerChange p w .bootWait (s.port p).feed.hold (s.port p).feed.retry .probe]) hpower
    · exact congrArg (fun q => ({ ((s.probed p d at4V at8V).updPort p fun x => x.bootWaits r estimate).toState with
        pool := q } : State)) hjoin
  · have hport' : ((s.probed p d at4V at8V).updFeed p fun f => { f with invalidCount := 0 }).port p = _ :=
      (Ev.updFeed_port _ p _).trans (by rw [hport])
    obtain ⟨m, b, e', hmport, hmkind, hmsource, hmdistance, hmem, hraise, htodo, hbreaks, hlocked, hlatest, hothers⟩ :=
      Ev.probeShort_cut ((s.probed p d at4V at8V).updFeed p fun f => { f with invalidCount := 0 }) p
        (by rw [hport']; exact hpower) (by rw [hport']; exact hcut)
    rw [hshort] at hact
    refine ⟨_, m, congrArg Host.Outcome.next (s.blockEvent_noticed _ hs (hact.trans hraise) (Ev.settle_done _ htodo)),
      hlocked, hlatest, hmport, hmkind, hmsource, hmdistance, ?_, fun q hq => (hothers q hq).trans ?_⟩
    · exact (congrArg (fun b : Breaks => m ∈ b.findings) hbreaks).mpr hmem
    · rw [Ev.updFeed_port_other _ _ _ _ hq, State.probed, Ev.updFeed_port_other _ _ _ _ hq, Ev.reach_port, State.begin_port]

end Sys2Proof.Machine
end

section
/-! Admissions from the head of the queue (R60, R61). -/

namespace Sys2Proof.Machine

set_option Elab.async false

/-! ### One entry that fits (R60) -/

theorem Ev.serve_empty (e : Ev) (hqueue : e.pool.queue = []) : e.serve = e := e.serve_nothing (by simp [hqueue])

theorem Ev.serve_blocked (e : Ev) {a : AdmissionEntry} {rest : List AdmissionEntry} (hqueue : e.pool.queue = a :: rest)
    (hroom : e.pool.effectiveBudget < e.allocationSum + a.amount) : e.serve = e := by
  refine e.serve_nothing fun b hb => ?_
  rw [hqueue] at hb
  obtain rfl := Option.some.inj hb
  exact decide_eq_false (Nat.not_le.mpr hroom)

theorem Ev.serve_single (e : Ev) {a : AdmissionEntry} (hqueue : e.pool.queue = [a])
    (hroom : e.allocationSum + a.amount ≤ e.pool.effectiveBudget) :
    e.serve = (e.updPool fun q => { q with queue := [], stamp := 0 }).grantEntry a := by
  have hfits : e.fits a.amount = true := decide_eq_true hroom
  simp only [Ev.serve, hqueue, List.length_singleton, Ev.servePass, hfits, if_true]
  rfl

/-! ### A BOOT admission (R34, R61) -/

/-- The pool with a port at the end of its admitted-port list and the queue empty (R60, R61). -/
def Pool.served (q : Pool) (p : PortId) (f : PoolCounters → PoolCounters) : Pool :=
  { q with
    queue := [], stamp := 0, admitted := (q.admitted.filter fun x => decide (x ≠ p)) ++ [p], counters := f q.counters }

/-- A port whose BOOT entry has been admitted (R7, R12, R34, R35, R61). -/
def Port.bootAdmitted (x : Port) (amount now : Nat) : Port :=
  { x with
    feed := { x.feed with
      power := .boot, invalidCount := 0, bootLimitEstimate := x.pool.bootEstimate, limit := 1500
      inrushTimer := some (now + 50000), sampleTimer := some (now + 1000) }
    pool := { x.pool with base := x.pool.base + amount }
    tether := { x.tether with
      link := .waking, lockCheck := some (now + 1000), wakeTimer := some (now + 500000), marks := 0
      goodWindows := 0, session := some { helloTaken := false, upReached := false } } }

/-- The feed controller and the allocation of a port whose BOOT entry has been admitted (R34, R35, R61). -/
def Port.bootFed (x : Port) (amount now : Nat) : Port :=
  { x with
    feed := ({ x.feed with
      bootLimitEstimate := x.pool.bootEstimate, limit := 1500
      inrushTimer := some (now + 50000), sampleTimer := some (now + 1000) } : Feed).enter .boot
    pool := { x.pool with base := x.pool.base + amount } }

theorem Port.bootAdmitted_eq (x : Port) (amount now : Nat) :
    x.bootAdmitted amount now = { x.bootFed amount now with tether := { x.tether with
      link := .waking, lockCheck := some (now + 1000), wakeTimer := some (now + 500000), marks := 0
      goodWindows := 0, session := some { helloTaken := false, upReached := false } } } := by
  simp [Port.bootAdmitted, Port.bootFed, Feed.enter]

theorem Ev.bootFed_eq (e : Ev) (p : PortId) (amount estimate : Nat) (h : estimate = (e.port p).pool.bootEstimate) :
    ((e.updFigures p fun q => { q with base := q.base + amount }).updFeed p fun f =>
      { f with bootLimitEstimate := estimate, limit := Config.inrushLimit
               inrushTimer := some (e.time + Config.inrushTime)
               sampleTimer := some (e.time + Config.millisecond) }).setPower p .boot .admission
    = (e.updPort p fun x => x.bootFed amount e.time).markPower p .admission := by
  have hports : ((e.updFigures p fun q => { q with base := q.base + amount }).updFeed p fun f =>
      { f with bootLimitEstimate := estimate, limit := Config.inrushLimit
               inrushTimer := some (e.time + Config.inrushTime)
               sampleTimer := some (e.time + Config.millisecond) }).updFeed p (fun f => f.enter .boot)
      = e.updPort p fun x => x.bootFed amount e.time := by
    simp only [Ev.updFeed, Ev.updFigures, Ev.updPort, modifyAt_twice, h]
    exact congrArg (fun v => ({ e with ports := v } : Ev)) (modifyAt_congr e.ports p rfl)
  exact congrArg (Ev.markPower · p .admission) hports

theorem Ev.admitBoot_linkWake (e : Ev) (p : PortId) (amount : Nat) :
    (e.updPool fun q => { q with queue := [], stamp := 0 }).admitBoot p amount
      = Ev.linkWake { (e.updPort p fun x => x.bootFed amount e.time).markPower p .admission with
          pool := e.pool.served p fun c => { c with bootAdmissions := bump c.bootAdmissions } } p := by
  obtain ⟨e', he'⟩ : ∃ e' : Ev, e' = ({ e with
    pool := e.pool.served p fun c => { c with bootAdmissions := bump c.bootAdmissions } } : Ev) := ⟨_, rfl⟩
  have hestimate : (((e'.updFigures p fun q => { q with base := q.base + amount })).port p).pool.bootEstimate
      = (e'.port p).pool.bootEstimate := by rw [Ev.updFigures_port]
  have hfed := e'.bootFed_eq p amount _ hestimate
  rw [he'] at hfed
  exact congrArg (Ev.linkWake · p) hfed

theorem Ev.linkWake_eq (e : Ev) (p : PortId) (hlink : (e.port p).tether.link = .down) :
    e.linkWake p = (e.updTether p fun t => { t with
      link := .waking, lockCheck := some (e.time + 1000), wakeTimer := some (e.time + 500000), marks := 0
      goodWindows := 0, session := some { helloTaken := false, upReached := false } }).offer
        (.linkChange p .down .waking e.usClock) := by
  rw [Ev.linkWake, Ev.updTether_setLink _ p (old := .down) hlink (by decide) (fun h => LinkState.noConfusion h)]
  rfl

theorem Ev.admitBoot_eq (e : Ev) (p : PortId) (amount : Nat) (hlink : (e.port p).tether.link = .down) :
    (e.updPool fun q => { q with queue := [], stamp := 0 }).admitBoot p amount
      = { ((e.updPort p fun x => x.bootAdmitted amount e.time).markPower p .admission).offer
            (.linkChange p .down .waking e.usClock) with
          pool := e.pool.served p fun c => { c with bootAdmissions := bump c.bootAdmissions } } := by
  have hlink' : ((e.updPort p fun x => x.bootFed amount e.time).port p).tether.link = .down := by
    rw [Ev.port_updPort, if_pos rfl]
    exact hlink
  refine (e.admitBoot_linkWake p amount).trans ((Ev.linkWake_eq _ p (by exact hlink')).trans ?_)
  refine congrArg (fun v => ({ ((({ e with ports := v } : Ev).markPower p .admission).offer
    (.linkChange p .down .waking e.usClock)) with
      pool := e.pool.served p fun c => { c with bootAdmissions := bump c.bootAdmissions } } : Ev)) ?_
  refine (modifyAt_twice e.ports p (fun x => x.bootFed amount e.time) (fun x => { x with tether := { x.tether with
      link := .waking, lockCheck := some (e.time + 1000), wakeTimer := some (e.time + 500000), marks := 0
      goodWindows := 0, session := some { helloTaken := false, upReached := false } } })).trans (modifyAt_congr _ _ ?_)
  exact (Port.bootAdmitted_eq (e.ports.get p) amount e.time).symm

/-! ### FULL and SURCHARGE admissions (R37, R61) -/

/-- A port whose FULL entry has been admitted (R37, R61, R83, R158, R162, R166). -/
def Port.fullAdmitted (x : Port) (amount now : Nat) : Port :=
  { x with
    feed := { x.feed with
      power := .full, invalidCount := 0, limit := limitOf x.pool.estClass, inrushTimer := none
      overCount := 0, noLoad := {}, underVolt := {}, fullSessionTimer := some (now + 60000000) }
    pool := { x.pool with base := x.pool.base + amount }
    capture := x.capture.enterFull
    cable := x.cable.enterFull now }

theorem Ev.fullAdmitted_eq (e : Ev) (p : PortId) (amount limit : Nat) (h : limit = limitOf (e.port p).pool.estClass) :
    ((((e.updFigures p fun q => { q with base := q.base + amount }).updFeed p fun f => f.enterFull e.time limit).setPower p
      .full .admission).updCable p fun c => c.enterFull e.time).updCapture p Capture.enterFull
    = (e.updPort p fun x => x.fullAdmitted amount e.time).markPower p .admission := by
  have hports : (((((e.updFigures p fun q => { q with base := q.base + amount }).updFeed p fun f =>
      f.enterFull e.time limit).updFeed p fun f => f.enter .full).updCable p fun c => c.enterFull e.time).updCapture p
        Capture.enterFull) = e.updPort p fun x => x.fullAdmitted amount e.time := by
    simp only [Ev.updFeed, Ev.updFigures, Ev.updCable, Ev.updCapture, Ev.updPort, modifyAt_twice, h]
    refine congrArg (fun v => ({ e with ports := v } : Ev)) (modifyAt_congr e.ports p ?_)
    simp only [Port.fullAdmitted, Feed.enterFull, Feed.enter]
    rfl
  exact congrArg (Ev.markPower · p .admission) hports

theorem Ev.admitFull_eq (e : Ev) (p : PortId) (amount : Nat) (hlens : (e.port p).lens.kind.motorized = false) :
    (e.updPool fun q => { q with queue := [], stamp := 0 }).admitFull p amount
      = { (e.updPort p fun x => x.fullAdmitted amount e.time).markPower p .admission with
          pool := e.pool.served p fun c => { c with fullAdmissions := bump c.fullAdmissions } } := by
  obtain ⟨e', he'⟩ : ∃ e' : Ev, e' = ({ e with
    pool := e.pool.served p fun c => { c with fullAdmissions := bump c.fullAdmissions } } : Ev) := ⟨_, rfl⟩
  have hlimit : limitOf ((e'.updFigures p fun q => { q with base := q.base + amount }).port p).pool.estClass
      = limitOf (e'.port p).pool.estClass := by rw [Ev.updFigures_port]
  have hlens' : (((e'.updPort p fun x => x.fullAdmitted amount e'.time).markPower p .admission).port p).lens.kind.motorized
      = false := by
    rw [Ev.markPower_port, Ev.port_updPort, if_pos rfl, he']
    exact hlens
  have hfull := e'.fullAdmitted_eq p amount _ hlimit
  have hadmit : (e.updPool fun q => { q with queue := [], stamp := 0 }).admitFull p amount
      = ((e'.updPort p fun x => x.fullAdmitted amount e'.time).markPower p .admission).lensEnterFull p := by
    rw [← hfull, he']
    rfl
  rw [hadmit, Ev.lensEnterFull, hlens', he']
  rfl

/-- A port whose SURCHARGE entry has been admitted (R35, R61). -/
def Port.surchargeAdmitted (x : Port) (amount : Nat) : Port :=
  { x with
    feed := { x.feed with limit := limitOf x.pool.estLens }
    pool := { x.pool with surcharge := x.pool.surcharge + amount }
    lens := { x.lens with move := x.lens.move.map fun m => { m with admitted := true } } }

theorem Ev.admitSurcharge_eq (e : Ev) (p : PortId) (amount : Nat) :
    e.admitSurcharge p amount = ((e.updPort p fun x => x.surchargeAdmitted amount).countPool fun c =>
      { c with surchargeAdmissions := bump c.surchargeAdmissions }).push (.handIn p) := by
  have hports (limit : Nat) (h : limit = limitOf (e.port p).pool.estLens) :
      (((e.updFigures p fun q => { q with surcharge := q.surcharge + amount }).updFeed p fun f =>
        { f with limit := limit }).updLens p fun l => { l with move := l.move.map fun m => { m with admitted := true } })
      = e.updPort p fun x => x.surchargeAdmitted amount := by
    simp only [Ev.updFeed, Ev.updFigures, Ev.updLens, Ev.updPort, modifyAt_twice, h]
    exact congrArg (fun v => ({ e with ports := v } : Ev)) (modifyAt_congr e.ports p rfl)
  exact congrArg (fun y : Ev => (y.countPool fun c =>
    { c with surchargeAdmissions := bump c.surchargeAdmissions }).push (.handIn p)) (hports _ rfl)

/-- The notices of an event that tells of one change of power state first (R30). -/
theorem Ev.notices_power_first (e : Ev) (p : PortId) (cause : PowerCause) (l : List Notice) {x y : Port}
    (hoffers : e.offers = .power p cause :: l.map .notice) (hpool : e.poolOffers = []) (hbefore : e.before.get p = x)
    (hafter : e.port p = y) (hchange : x.feed.power ≠ y.feed.power) :
    e.notices = .powerChange p x.feed.power y.feed.power y.feed.hold y.feed.retry cause :: l := by
  have hafter' : e.ports.get p = y := hafter
  have hpower : powerNotice x y p cause = some (.powerChange p x.feed.power y.feed.power y.feed.hold y.feed.retry cause) :=
    if_neg fun h => hchange h.1
  have htold : (l.map Offer.notice).filterMap (Offer.resolve e.before e.ports) = l := by
    rw [List.filterMap_map]
    exact List.filterMap_some
  have hfirst : (Offer.power p cause).resolve e.before e.ports
      = some (.powerChange p x.feed.power y.feed.power y.feed.hold y.feed.retry cause) := by
    rw [Offer.resolve, hbefore, hafter', hpower]
  rw [Ev.notices, hoffers, hpool, List.filterMap_cons_some hfirst, htold]
  exact List.append_nil _

/-- Settles O50: a head that does not fit, and the one entry of each type. -/
theorem admissionsServeTheHead : Obligations.AdmissionsServeTheHead := by
  refine fun s hs => ⟨fun hqueue => ?_, fun a rest hqueue hroom => ?_, fun a pool hqueue hroom hpool =>
    hpool ▸ ⟨fun htype hpower hlink => ?_, fun htype hpower hlens => ?_, fun htype hexposure => ?_⟩⟩
  · exact congrArg Host.Outcome.next (s.blockEvent_quiet s hs (s.begin.serve_empty hqueue))
  · exact congrArg Host.Outcome.next (s.blockEvent_quiet s hs (s.begin.serve_blocked hqueue hroom))
  all_goals have hserve := s.begin.serve_single hqueue hroom
  all_goals simp only [Ev.grantEntry, htype] at hserve
  · rw [Ev.admitBoot_eq _ _ _ (by exact hlink)] at hserve
    refine congrArg Host.Outcome.next (s.blockEvent_noticed _ hs hserve (Ev.settle_done _ rfl)
      ((Ev.notices_power_first _ a.port .admission [.linkChange a.port .down .waking s.usClock] (x := s.port a.port)
        (y := (s.port a.port).bootAdmitted a.amount s.time) rfl rfl rfl (by exact modifyAt_get _ _ _) ?_).trans ?_) rfl)
    · exact hpower.trans_ne (by simp [Port.bootAdmitted])
    · rw [hpower]
      rfl
  · rw [Ev.admitFull_eq _ _ _ (by exact hlens)] at hserve
    refine congrArg Host.Outcome.next (s.blockEvent_noticed _ hs hserve (Ev.settle_done _ rfl)
      ((Ev.notices_power_first _ a.port .admission [] (x := s.port a.port)
        (y := (s.port a.port).fullAdmitted a.amount s.time) rfl rfl rfl (by exact modifyAt_get _ _ _) ?_).trans ?_) rfl)
    · exact hpower.trans_ne (by simp [Port.fullAdmitted])
    · rw [hpower]
      rfl
  · rw [Ev.admitSurcharge_eq] at hserve
    refine congrArg Host.Outcome.next (s.blockEvent_silent _ hs hserve
      (Ev.settle_last _ (.handIn a.port) rfl (Ev.handIn_nothing _ _ ?_) rfl) rfl rfl rfl)
    simp [Port.mayHandIn, Ev.port_updPort, Port.surchargeAdmitted, Option.isNone_iff_eq_none, hexposure]

end Sys2Proof.Machine
end

section
/-! Ports taken down without a feed to cut (R46), and the diagnosis queue joined behind its head (R169, R170). -/

namespace Sys2Proof.Machine

set_option Elab.async false

/-! ### Teardowns with nothing to tear down -/

theorem Ev.updLens_same (e : Ev) (p : PortId) {f : Lens → Lens} (h : f (e.port p).lens = (e.port p).lens) : e.updLens p f = e :=
  congrArg (fun v => ({ e with ports := v } : Ev))
    (modifyAt_same e.ports p (congrArg (fun y => ({ e.port p with lens := y } : Port)) h))

theorem Ev.updCapture_same (e : Ev) (p : PortId) {f : Capture → Capture} (h : f (e.port p).capture = (e.port p).capture) :
    e.updCapture p f = e :=
  congrArg (fun v => ({ e with ports := v } : Ev))
    (modifyAt_same e.ports p (congrArg (fun y => ({ e.port p with capture := y } : Port)) h))

theorem Ev.updTether_same (e : Ev) (p : PortId) {f : Tether → Tether} (h : f (e.port p).tether = (e.port p).tether) :
    e.updTether p f = e :=
  congrArg (fun v => ({ e with ports := v } : Ev))
    (modifyAt_same e.ports p (congrArg (fun y => ({ e.port p with tether := y } : Port)) h))

theorem Ev.updIngress_same (e : Ev) (p : PortId) {f : Ingress → Ingress} (h : f (e.port p).ingress = (e.port p).ingress) :
    e.updIngress p f = e :=
  congrArg (fun v => ({ e with ports := v } : Ev))
    (modifyAt_same e.ports p (congrArg (fun y => ({ e.port p with ingress := y } : Port)) h))

/-- An ABSENT lens without a record is left as it is (R107). -/
theorem Ev.lensAbsent_same (e : Ev) (p : PortId) (h : (e.port p).lens = { (e.port p).lens with
    state := .absent, move := none, want := none, held := none, lastTarget := none, settleTimer := none }) :
    e.lensAbsent p = e := by
  have hstate : (e.port p).lens.state = .absent := congrArg Lens.state h
  have hkeep : (e.updLens p fun l =>
      { l with state := .absent, move := none, want := none, held := none, lastTarget := none, settleTimer := none }) = e :=
    e.updLens_same p h.symm
  rw [Ev.lensAbsent, if_pos hstate, hkeep]

/-- Without a trigger, an exposure or a want there is nothing to discard (R90). -/
theorem Ev.cutCapture_same (e : Ev) (p : PortId) (d : Disposal) (notSent : Bool) (hqueue : (e.port p).capture.queue = [])
    (hexposure : (e.port p).capture.exposure = none) (hwant : (e.port p).capture.want = none) :
    e.cutCapture p d notSent = e := by
  have hkeep : (e.updCapture p fun c => { c with queue := [], want := none, exposure := none }) = e :=
    e.updCapture_same p (by rw [← hqueue, ← hexposure, ← hwant])
  simp only [Ev.cutCapture, hqueue, hexposure, List.foldl_nil, hkeep]

/-- Without an access of the port there is none to end (R141). -/
theorem Ev.relayAbort_same (e : Ev) (p : PortId) (h : ∀ r ∈ e.relay, r.port ≠ p) : e.relayAbort p = e := by
  have hgone : e.relay.filter (fun r => r.waitsAt p) = [] :=
    List.filter_eq_nil_iff.mpr fun r hr => by simp [RelayEntry.waitsAt, h r hr]
  have hkept : e.relay.filter (fun r => !r.waitsAt p) = e.relay :=
    List.filter_eq_self.mpr fun r hr => by simp [RelayEntry.waitsAt, h r hr]
  have hmarked : e.relay.map (fun r => r.markCut p) = e.relay := by
    refine (List.map_congr_left fun r hr => ?_).trans (List.map_id _)
    unfold RelayEntry.markCut
    split
    · exact if_neg (h r hr)
    · rfl
    · rfl
  simp only [Ev.relayAbort, hgone, hkept, hmarked, List.foldl_nil]
  rfl

theorem Ev.dropEntry_none (e : Ev) (p : PortId) (h : ∀ x ∈ e.pool.queue, x.port ≠ p) : e.dropEntry p = e := by
  refine if_neg ?_
  simpa using h

theorem Ev.abortDiagnosis_none (e : Ev) (p : PortId) (h : ∀ x ∈ e.breaks.queue, x.port ≠ p) : e.abortDiagnosis p = e := by
  have hfind : (e.breaks.queue.find? fun x => decide (x.port = p)) = none := by
    rw [List.find?_eq_none]
    simpa using h
  rw [Ev.abortDiagnosis, hfind]

theorem Tether.uncounted_same {t : Tether} (hoccupied : t.occupied = 0) (hunreturned : t.unreturned = 0) :
    { t with occupied := 0, unreturned := 0 } = t := by
  obtain ⟨⟩ := t
  simp_all

theorem Ingress.emptied_same {i : Ingress} (hrecord : i.record = .empty) (hqueue : i.queue = []) (hexpected : i.expected = 1)
    (hflushed : i.counters.flushed ≤ 4294967295) :
    { i with
      queue := [], egressCount := i.egressCount + BitVec.ofNat 32 ([] : List Slot).length, record := .empty, expected := 1
      counters := { i.counters with flushed := bumpBy ([] : List Slot).length i.counters.flushed } } = i := by
  have hcount : bumpBy ([] : List Slot).length i.counters.flushed = i.counters.flushed := Nat.min_eq_left hflushed
  have hegress : i.egressCount + BitVec.ofNat 32 ([] : List Slot).length = i.egressCount := BitVec.add_zero _
  rw [hcount, hegress]
  obtain ⟨⟩ := i
  simp_all

/-- A flush of an empty buffer changes nothing (R124). -/
theorem Ev.flush_same (e : Ev) (p : PortId) (hrecord : (e.port p).ingress.record = .empty)
    (hqueue : (e.port p).ingress.queue = []) (hexpected : (e.port p).ingress.expected = 1)
    (hflushed : (e.port p).ingress.counters.flushed ≤ 4294967295) (hoccupied : (e.port p).tether.occupied = 0)
    (hunreturned : (e.port p).tether.unreturned = 0) (hsending : ∀ x, e.output.sending = some x → x.port ≠ p)
    (hrelay : ∀ r ∈ e.relay, r.port ≠ p) : e.flush p = e := by
  have hbuffer : (e.updIngress p fun i => { i with
      queue := [], egressCount := i.egressCount + BitVec.ofNat 32 (e.port p).ingress.queue.length, record := .empty
      expected := 1
      counters := { i.counters with flushed := bumpBy (e.port p).ingress.queue.length i.counters.flushed } }) = e := by
    refine e.updIngress_same p ?_
    rw [hqueue]
    exact Ingress.emptied_same hrecord hqueue hexpected hflushed
  have hcredits : (e.updTether p fun t => { t with occupied := 0, unreturned := 0 }) = e :=
    e.updTether_same p (Tether.uncounted_same hoccupied hunreturned)
  have hnote : (e.updOutput fun o => o.noteFlush p) = e := by
    refine congrArg (fun x => ({ e with output := { e.output with sending := x } } : Ev)) ?_
    cases hs : e.output.sending with
    | none => rfl
    | some x => exact congrArg some (if_neg (hsending x hs))
  have hflush : e.flush p = e.relayTest p := by
    rw [Ev.flush, hbuffer, hcredits, hnote]
  rw [hflush]
  exact e.relayTest_nothing p fun r hr hp => absurd hp (hrelay r hr)

/-! ### PORT_DISABLE (R46) -/

/-- Leaving PROBING, VACANT or BACKOFF stops what those states run (R28, R43, R46). -/
def Feed.leftPhase (f : Feed) (now : Nat) : Feed :=
  { f with
    probeTimer := if f.power = .probing then none else f.probeTimer
    lastProbeEnd := if f.power = .probing then some now else f.lastProbeEnd
    reprobeTimer := if f.power = .vacant then none else f.reprobeTimer
    backoffTimer := if f.power = .backoff then none else f.backoffTimer }

theorem Feed.leftPhase_same {f : Feed} {now : Nat} (hprobing : f.power ≠ .probing) (hvacant : f.power ≠ .vacant)
    (hbackoff : f.power ≠ .backoff) : f.leftPhase now = f := by
  simp [Feed.leftPhase, hprobing, hvacant, hbackoff]

theorem Ev.endOffPhase_eq (e : Ev) (p : PortId) (hboot : (e.port p).feed.power ≠ .bootWait) :
    e.endOffPhase p = e.updFeed p fun f => f.leftPhase e.time := by
  unfold Ev.endOffPhase
  cases hpower : (e.port p).feed.power with
  | bootWait => exact absurd hpower hboot
  | probing => exact e.updFeed_congr p (by simp [Feed.leftPhase, hpower])
  | vacant => exact e.updFeed_congr p (by simp [Feed.leftPhase, hpower])
  | backoff => exact e.updFeed_congr p (by simp [Feed.leftPhase, hpower])
  | _ => exact (e.updFeed_same p (Feed.leftPhase_same (by simp [hpower]) (by simp [hpower]) (by simp [hpower]))).symm

/-- A port without feed and without work is disabled by its feed controller alone (R46). -/
theorem Ev.disablePort_eq (e : Ev) (p : PortId) (hdiag : ∀ x ∈ e.breaks.queue, x.port ≠ p)
    (hpower : (e.port p).feed.power ≠ .disabled) (hoff : (e.port p).feed.power.feedOn = false)
    (hboot : (e.port p).feed.power ≠ .bootWait) (hlens : e.lensAbsent p = e)
      (hcapture : e.cutCapture p (.drop .disabled) false = e)
    (hrelay : e.relayAbort p = e) (hentry : e.dropEntry p = e) (hrecord : (e.port p).ingress.record = .empty)
    (hflush : ∀ f : Feed → Feed, (e.updFeed p f).flush p = e.updFeed p f) :
    e.disablePort p = (e.updFeed p fun f => ({ f.leftPhase e.time with retry := 0, invalidCount := 0, hold := false } : Feed).enter
      .disabled).markPower p .disable := by
  have hfeed : e.disableFeed p = e := by
    rw [Ev.disableFeed, if_neg (by simp [hoff]), hlens, hcapture, hrelay]
  have hrecord' : ((e.updFeed p fun f => f.leftPhase e.time).port p).ingress.record = .empty := by
    rw [Ev.updFeed_port]
    exact hrecord
  have hingress : (e.updFeed p fun f => f.leftPhase e.time).ingressLinkLost p = e.updFeed p fun f => f.leftPhase e.time := by
    rw [Ev.ingressLinkLost, hrecord']
  have hpower' : (((e.updFeed p fun f => f.leftPhase e.time).updFeed p Feed.disabled).port p).feed.power ≠ .disabled := by
    rw [Ev.updFeed_port, Ev.updFeed_port]
    exact hpower
  rw [Ev.disablePort, hfeed, hentry, e.endOffPhase_eq p hboot, hingress, hflush,
    Ev.abortDiagnosis_none _ p (by exact hdiag), if_neg hpower', Ev.setPower, Ev.updFeed_twice, Ev.updFeed_twice]
  rfl

/-- Settles O26: the two ports that PORT_DISABLE takes down without a feed cut. -/
theorem portDisableEndsThePort : Obligations.PortDisableEndsThePort := by
  intro h s p hs hp hdiag
  obtain ⟨e, he⟩ : ∃ e : Ev, e = s.begin.countTaken.updFeed p fun f => { f with enabled := false } := ⟨_, rfl⟩
  have hport : e.port p = { s.port p with feed := { (s.port p).feed with enabled := false } } := by
    rw [he, Ev.updFeed_port]
    rfl
  have hdiag' : ∀ x ∈ e.breaks.queue, x.port ≠ p := by rw [he]; exact hdiag
  refine ⟨fun hdisabled => ?_, fun hpower hoff hboot hlens hqueue hexposure hwant hrecord hslots hexpected hflushed hoccupied
    hunreturned hentry hrelay hsending => ?_⟩
  · have hbody : Ev.portDisable p s.begin.countTaken = answerDone e := by
      rw [Ev.portDisable, ← he, if_pos (by rw [hport]; exact hdisabled), e.abortDiagnosis_none p hdiag']
    rw [he] at hbody
    exact congrArg Host.Outcome.next (s.portRequest_quiet _ hs hp hbody rfl rfl rfl rfl)
  · have hbody : Ev.portDisable p s.begin.countTaken = answerDone ((e.updFeed p fun f =>
        ({ f.leftPhase e.time with retry := 0, invalidCount := 0, hold := false } : Feed).enter .disabled).markPower p
          .disable) := by
      rw [Ev.portDisable, ← he, if_neg (by rw [hport]; exact hpower), e.disablePort_eq p hdiag' (by rw [hport]; exact hpower)
        (by rw [hport]; exact hoff) (by rw [hport]; exact hboot)]
      · exact e.lensAbsent_same p (by rw [hport]; exact hlens)
      · exact e.cutCapture_same p _ _ (by rw [hport]; exact hqueue) (by rw [hport]; exact hexposure) (by rw [hport]; exact hwant)
      · exact e.relayAbort_same p (by rw [he]; exact hrelay)
      · exact e.dropEntry_none p (by rw [he]; exact hentry)
      · rw [hport]; exact hrecord
      · intro f
        exact Ev.flush_same _ p (by rw [Ev.updFeed_port, hport]; exact hrecord) (by rw [Ev.updFeed_port, hport]; exact hslots)
          (by rw [Ev.updFeed_port, hport]; exact hexpected) (by rw [Ev.updFeed_port, hport]; exact hflushed)
          (by rw [Ev.updFeed_port, hport]; exact hoccupied) (by rw [Ev.updFeed_port, hport]; exact hunreturned)
          (by rw [he]; exact hsending) (by rw [he]; exact hrelay)
    rw [he, Ev.updFeed_twice] at hbody
    have hafter := (Ev.updFeed_port s.begin.countTaken p fun f =>
      (({ ({ f with enabled := false } : Feed).leftPhase s.time with retry := 0, invalidCount := 0, hold := false } : Feed).enter
        .disabled))
    refine congrArg Host.Outcome.next (s.portRequest_noticed _ hs hp hbody (Ev.settle_done _ rfl)
      ((Ev.notices_power _ p .disable (x := s.port p) rfl rfl rfl (by exact hafter) (hpower.trans_eq rfl)).trans rfl) ?_)
    rfl

/-! ### The diagnosis queue (R155, R169, R170) -/

/-- The feed controller of a port without feed whose diagnosis is asked for (R43, R169). -/
def Feed.toDiagnosis (f : Feed) (now : Nat) : Feed :=
  if f.power = .probing then { f.enter .diagnosing with probeTimer := none, lastProbeEnd := some now }
  else if f.power = .vacant then { f.enter .diagnosing with reprobeTimer := none }
  else f

/-- A port without feed whose diagnosis has joined the queue (R16, R93, R169). -/
def Port.diagnosisJoined (x : Port) (now : Nat) : Port :=
  { x with
    feed := x.feed.toDiagnosis now, tether := { x.tether.torn with link := .quiet }, lens := { x.lens with kind := .noLens }
    cable := { x.cable with diag := .queued } }

/-- The offer of the POWER_CHANGE of a port that becomes DIAGNOSING (R30, R169). -/
def Port.diagnosisOffers (x : Port) (p : PortId) (cause : PowerCause) : List Offer :=
  if x.feed.power.probePhase then [.power p cause] else []

/-- A port whose link is DOWN enters QUIET (R16). -/
theorem Ev.enterOff_quiet (e : Ev) (p : PortId) (hlink : (e.port p).tether.link = .down) :
    e.enterOff p .quiet = (e.updPort p fun x => { x with
      tether := { x.tether.torn with link := .quiet }, lens := { x.lens with kind := .noLens } }).offer
        (.linkChange p .down .quiet e.usClock) := by
  obtain ⟨e', he'⟩ : ∃ e' : Ev, e' = (e.updTether p Tether.torn).updLens p fun l => { l with kind := .noLens } := ⟨_, rfl⟩
  have hlink' : (e'.port p).tether.link = .down := by
    rw [he', Ev.updLens_port, Ev.updTether_port]
    exact hlink
  have hoff : e.enterOff p .quiet = e'.setLink p .quiet := by
    rw [Ev.enterOff, if_neg (by simp [hlink]), he']
  rw [hoff, e'.setLink_changed p (by simp [hlink']) (fun h => LinkState.noConfusion (hlink'.symm.trans h)), hlink', he']
  refine congrArg (fun v => ({ e with ports := v } : Ev).offer (.linkChange p .down .quiet e.usClock)) ?_
  exact (congrArg (fun v => modifyAt v p fun x => { x with tether := { x.tether with link := .quiet } })
    (modifyAt_twice e.ports p (fun x => { x with tether := x.tether.torn })
      fun x => { x with lens := { x.lens with kind := .noLens } })).trans (modifyAt_twice e.ports p _ _)

/-- The feed controller moves a port in PROBING or VACANT to DIAGNOSING (R43, R169). -/
theorem Ev.moveToDiagnosis (e : Ev) (p : PortId) (cause : PowerCause) {n : Notice}
    (hboot : (e.port p).feed.power ≠ .bootWait) (hoffers : e.offers = [.notice n]) :
    (if (e.port p).feed.power.probePhase then (e.endOffPhase p).setPower p .diagnosing cause else e)
      = { e.updFeed p fun f => f.toDiagnosis e.time with offers := .notice n :: (e.port p).diagnosisOffers p cause } := by
  have hmoved (f : Feed) (hf : f = (e.port p).feed) (hphase : f.power = .probing ∨ f.power = .vacant) :
      (f.leftPhase e.time).enter .diagnosing = f.toDiagnosis e.time := by
    rcases hphase with h | h <;> simp [Feed.leftPhase, Feed.toDiagnosis, Feed.enter, h]
  by_cases hphase : (e.port p).feed.power.probePhase = true
  · have hpower : (e.port p).feed.power = .probing ∨ (e.port p).feed.power = .vacant := by
      cases h : (e.port p).feed.power <;> simp_all [PowerState.probePhase]
    rw [if_pos hphase, e.endOffPhase_eq p hboot, Ev.setPower, Ev.updFeed_twice, Port.diagnosisOffers, if_pos hphase,
      e.updFeed_congr p (g := fun f => f.toDiagnosis e.time) (hmoved _ rfl hpower), Ev.markPower]
    exact congrArg (fun l => ({ e.updFeed p fun f => f.toDiagnosis e.time with offers := l } : Ev))
      (congrArg (fun l => (l.filter fun o => !o.isPower p) ++ [Offer.power p cause]) hoffers)
  · have hsame : (e.port p).feed.toDiagnosis e.time = (e.port p).feed := by
      have hprobing : (e.port p).feed.power ≠ .probing := fun h => hphase (by rw [h]; rfl)
      have hvacant : (e.port p).feed.power ≠ .vacant := fun h => hphase (by rw [h]; rfl)
      rw [Feed.toDiagnosis, if_neg hprobing, if_neg hvacant]
    rw [if_neg hphase, e.updFeed_same p hsame, Port.diagnosisOffers, if_neg hphase, ← hoffers]

/-- A port without feed joins the diagnosis queue behind its head (R169). -/
theorem Ev.joinDiagnosis_eq (e : Ev) (p : PortId) (u : Purpose) (cause : PowerCause) (hdiag : (e.port p).cable.diag = .clear)
    (hoff : (e.port p).feed.power.feedOn = false) (hboot : (e.port p).feed.power ≠ .bootWait)
    (hlink : (e.port p).tether.link = .down) (hbehind : e.breaks.queue ≠ []) (hoffers : e.offers = []) :
    e.joinDiagnosis p u cause = { e.updPort p fun x => x.diagnosisJoined e.time with
      breaks := { e.breaks with queue := e.breaks.queue ++ [⟨p, u, e.msClock⟩] }
      offers := .notice (.linkChange p .down .quiet e.usClock) :: (e.port p).diagnosisOffers p cause } := by
  obtain ⟨e₁, he₁⟩ : ∃ e₁ : Ev, e₁ = (e.updPort p fun x => { x with
      tether := { x.tether.torn with link := .quiet }, lens := { x.lens with kind := .noLens } }).offer
        (.linkChange p .down .quiet e.usClock) := ⟨_, rfl⟩
  have hfeed : (e₁.port p).feed = (e.port p).feed := by
    rw [he₁, Ev.offer_port, Ev.port_updPort, if_pos rfl]
  have hoffers₁ : e₁.offers = [.notice (.linkChange p .down .quiet e.usClock)] := by
    rw [he₁]
    exact congrArg (· ++ _) hoffers
  have hmoved := e₁.moveToDiagnosis p cause (by rw [hfeed]; exact hboot) hoffers₁
  have hdiagnosisOffers : (e₁.port p).diagnosisOffers p cause = (e.port p).diagnosisOffers p cause := by
    rw [Port.diagnosisOffers, hfeed, Port.diagnosisOffers]
  rw [hfeed, hdiagnosisOffers] at hmoved
  have hfirst : e₁.breaks.queue.isEmpty = false := by
    rw [he₁, List.isEmpty_eq_false_iff]
    exact hbehind
  have hjoin : e.joinDiagnosis p u cause = (({ e₁.updFeed p fun f => f.toDiagnosis e₁.time with
      offers := .notice (.linkChange p .down .quiet e.usClock) :: (e.port p).diagnosisOffers p cause } : Ev).updBreaks fun b =>
        { b with queue := b.queue ++ [⟨p, u, e₁.msClock⟩] }).setDiag p .queued := by
    rw [Ev.joinDiagnosis, if_neg (not_not_intro hdiag)]
    simp only [hoff, Bool.false_eq_true, if_false, e.enterOff_quiet p hlink, ← he₁, hmoved]
    exact if_neg (by simpa using hfirst)
  rw [hjoin, he₁]
  refine congrArg (fun v => ({ e with
      ports := v
      breaks := { e.breaks with queue := e.breaks.queue ++ [⟨p, u, e.msClock⟩] }
      offers := .notice (.linkChange p .down .quiet e.usClock) :: (e.port p).diagnosisOffers p cause } : Ev)) ?_
  exact (congrArg (fun v => modifyAt v p fun x => { x with cable := { x.cable with diag := .queued } })
    (modifyAt_twice e.ports p (fun x => { x with
        tether := { x.tether.torn with link := .quiet }, lens := { x.lens with kind := .noLens } })
      fun x => { x with feed := x.feed.toDiagnosis e.time })).trans (modifyAt_twice e.ports p _ _)

/-- The POWER_CHANGE of a diagnosis joined without a feed cut, if there is one (R30, R169). -/
theorem diagnosisOffers_resolve (before after : Vector Port 8) (p : PortId) (cause : PowerCause) (now : Nat) {x : Port}
    (hbefore : before.get p = x) (hafter : (after.get p).feed = x.feed.toDiagnosis now) :
    (x.diagnosisOffers p cause).filterMap (Offer.resolve before after)
      = (powerNotice x { x with feed := x.feed.toDiagnosis now } p cause).toList := by
  unfold Port.diagnosisOffers
  split
  · refine (powerOffer_resolve before after p cause).trans ?_
    simp only [powerNotice, hbefore, hafter]
  · next hphase =>
    have hprobing : x.feed.power ≠ .probing := fun h => hphase (by rw [h]; rfl)
    have hvacant : x.feed.power ≠ .vacant := fun h => hphase (by rw [h]; rfl)
    have hsame : x.feed.toDiagnosis now = x.feed := by rw [Feed.toDiagnosis, if_neg hprobing, if_neg hvacant]
    rw [hsame, powerNotice_same]
    rfl

/-- A request for a diagnosis that joins the queue behind its head (R155, R169, R170). -/
theorem State.diagnosisRequest_eq (s : State) (h : ReqHeader) (p : PortId) {code : Byte} {u : Purpose}
    {body : PortId → Ev → Ev × Answer} (hs : s.listens) (hp : portOf h.port = some p)
    (hbody : body p s.begin.countTaken = answerDone (s.begin.countTaken.joinDiagnosis p u .diagnose))
    (hclear : (s.port p).cable.diag = .clear) (hoff : (s.port p).feed.power.feedOn = false)
    (hboot : (s.port p).feed.power ≠ .bootWait) (hlink : (s.port p).tether.link = .down) (hbehind : s.breaks.queue ≠ []) :
    s.portRequest code h body = (({ s.onPort p (fun x => x.diagnosisJoined s.time) with
        breaks := { s.breaks with queue := s.breaks.queue ++ [⟨p, u, s.msClock⟩] } } : State).replied code h .done []).noticed
      (.linkChange p .down .quiet s.usClock ::
        (powerNotice (s.port p) { s.port p with feed := (s.port p).feed.toDiagnosis s.time } p .diagnose).toList) := by
  have hjoin := s.begin.countTaken.joinDiagnosis_eq p u .diagnose hclear hoff hboot hlink hbehind rfl
  rw [hjoin] at hbody
  have hafter : ((modifyAt s.ports p fun x => x.diagnosisJoined s.time).get p).feed = (s.port p).feed.toDiagnosis s.time :=
    congrArg Port.feed (modifyAt_get _ _ _)
  refine s.portRequest_noticed _ hs hp hbody (Ev.settle_done _ rfl) ?_ rfl
  refine (List.append_nil _).trans ?_
  exact congrArg (List.cons _) (diagnosisOffers_resolve s.ports _ p .diagnose s.time rfl hafter)

/-- Settles O27: the refusals in order, and the entry that joins behind the head. -/
theorem diagnosesJoinTheQueue : Obligations.DiagnosesJoinTheQueue := by
  intro h options s p hs hp
  have hfree (hmay : s.link.opState = .config ∨ (s.port p).feed.power = .disabled ∨ (s.port p).feed.power = .lockedOut) :
      ¬ (s.link.opState = .run ∧ (s.port p).feed.power.learnable = false) := by
    rintro ⟨hrun, hlearnable⟩
    obtain h | h | h := hmay
    · simp [hrun] at h
    · simp [PowerState.learnable, h] at hlearnable
    · simp [PowerState.learnable, h] at hlearnable
  refine ⟨fun hbusy => ?_, fun hclear hfed hforce => ?_, fun hrun hnotDisabled hnotLocked => ?_, fun hmay hbusy => ?_,
    fun hclear hoff hboot hlink hbehind => ?_⟩
  · exact congrArg Host.Outcome.next (s.portRequest_quiet s hs hp (if_pos hbusy) rfl rfl rfl rfl)
  · exact congrArg Host.Outcome.next (s.portRequest_quiet s hs hp
      ((if_neg (not_not_intro hclear)).trans (if_pos ⟨hfed, hforce⟩)) rfl rfl rfl rfl)
  · exact congrArg Host.Outcome.next (s.portRequest_quiet s hs hp
      (if_pos ⟨hrun, by simp [PowerState.learnable, hnotDisabled, hnotLocked]⟩) rfl rfl rfl rfl)
  · exact congrArg Host.Outcome.next (s.portRequest_quiet s hs hp ((if_neg (hfree hmay)).trans (if_pos hbusy)) rfl rfl rfl rfl)
  · refine ⟨fun u => { s.onPort p (fun x => x.diagnosisJoined s.time) with
        breaks := { s.breaks with queue := s.breaks.queue ++ [⟨p, u, s.msClock⟩] } }, (s.port p).feed.toDiagnosis s.time,
      rfl, fun u => ?_, ?_, fun hmay => ?_⟩
    · refine congrArg (fun t : State => ({ t with
        breaks := { s.breaks with queue := s.breaks.queue ++ [⟨p, u, s.msClock⟩] } } : State)) (s.onPort_congr p ?_)
      rfl
    · have hunfed : ¬ (s.port p).feed.power.feedOn = true := by simp [hoff]
      have hbody : Ev.diagnose options p s.begin.countTaken
          = answerDone (s.begin.countTaken.joinDiagnosis p .host .diagnose) :=
        (if_neg (not_not_intro hclear)).trans ((if_neg fun h => hunfed h.1).trans
          (congrArg (fun u => answerDone (s.begin.countTaken.joinDiagnosis p u .diagnose)) (if_neg hunfed)))
      exact congrArg Host.Outcome.next (s.diagnosisRequest_eq h p hs hp hbody hclear hoff hboot hlink hbehind)
    · exact congrArg Host.Outcome.next (s.diagnosisRequest_eq h p hs hp
        ((if_neg (hfree hmay)).trans (if_neg (not_not_intro hclear))) hclear hoff hboot hlink hbehind)

end Sys2Proof.Machine
end

section
/-! GOOD control packets: how they are read and routed (R5, R192), HELLO (R14, R36) and STATUS (R39, R157, R158, R166). -/

namespace Sys2Proof.Machine

set_option Elab.async false

/-! ### The bytes of a packet (R192) -/

theorem byteAt_upPayload {bytes : List Byte} {i : Nat} (h : i + 12 < bytes.length) :
    byteAt (upPayload bytes) i = byteAt bytes (8 + i) := by
  simp only [byteAt, upPayload, List.getD_eq_getElem?_getD]
  rw [List.getElem?_take_of_lt (by omega), List.getElem?_drop]

theorem halfAt_upPayload {bytes : List Byte} {i : Nat} (h : i + 13 < bytes.length) :
    halfAt (upPayload bytes) i = halfAt bytes (8 + i) := by
  rw [halfAt, byteAt_upPayload (by omega), byteAt_upPayload (by omega)]
  rfl

theorem wordAt_upPayload {bytes : List Byte} {i : Nat} (h : i + 15 < bytes.length) :
    wordAt (upPayload bytes) i = wordAt bytes (8 + i) := by
  rw [wordAt, halfAt_upPayload (by omega), halfAt_upPayload (by omega)]
  rfl

/-- The second byte of a two-byte field (R190). -/
theorem halfAt_setWidth (bytes : List Byte) (i : Nat) : (halfAt bytes i).setWidth 8 = byteAt bytes (i + 1) := by
  rw [halfAt, BitVec.setWidth_append]
  simp

/-! ### Routing (R4, R5) -/

/-- The event of a GOOD packet once it is counted (R5, steps 1 and 2). -/
def State.goodCounted (s : State) (p : PortId) : Ev :=
  s.begin.updTether p fun t => { t with marks := bump t.marks, counters := { t.counters with good := bump t.counters.good } }

theorem State.goodCounted_port (s : State) (p : PortId) :
    (s.goodCounted p).port p = { s.port p with tether := { (s.port p).tether with
      marks := bump (s.port p).tether.marks
      counters := { (s.port p).tether.counters with good := bump (s.port p).tether.counters.good } } } :=
  Ev.updTether_port _ p _

theorem receiving_of {l : LinkState} (h : l = .waking ∨ l = .locking ∨ l = .up) : l.receiving = true := by
  obtain rfl | rfl | rfl := h <;> rfl

/-- A GOOD control packet is handed to its taker (R5). -/
theorem State.packetEnd_control (s : State) (p : PortId) {ending : PacketEnding} {bytes : List Byte}
    (hlink : (s.port p).tether.link = .waking ∨ (s.port p).tether.link = .locking ∨ (s.port p).tether.link = .up)
    (hgood : classify (s.port p).tether.cameraHeld ending bytes = .good) (hlength : 18 ≤ bytes.length)
    (hrole : (upKind (byteAt bytes 0)).role = .control) :
    s.begin.packetEnd p ending bytes = (s.goodCounted p).controlPacket p (readUp bytes) := by
  have hgood' : classify (s.begin.port p).tether.cameraHeld ending bytes = .good := hgood
  have hcounted : (s.begin.countPacket p .good).crcEvidence p .good = s.goodCounted p := rfl
  have hroled : roleOf bytes = .control := by
    rw [roleOf, headerComplete, decide_eq_true (by omega)]
    exact hrole
  refine (if_pos (receiving_of hlink)).trans ?_
  simp only [hgood', hcounted, hroled, if_true]

/-- A packet of 18 bytes is long enough for its kind (R6, R192). -/
theorem controlPayload_le {bytes : List Byte} (hlength : 18 ≤ bytes.length) :
    ¬ (readUp bytes).payload.length < controlPayload (readUp bytes).kind := by
  have hlen : (readUp bytes).payload.length = bytes.length - 12 := upPayload_length bytes
  have hmost : controlPayload (readUp bytes).kind ≤ 6 := by cases (readUp bytes).kind <;> decide
  omega

theorem readUp_kind {bytes : List Byte} {code : Byte} (hcode : byteAt bytes 0 = code) : (readUp bytes).kind = upKind code :=
  congrArg upKind hcode

theorem Ev.controlPacket_hello (e : Ev) (p : PortId) {bytes : List Byte} (hlength : 18 ≤ bytes.length)
    (hcode : byteAt bytes 0 = 0x10) : e.controlPacket p (readUp bytes) = e.hello p (readUp bytes) := by
  have hkind : (readUp bytes).kind = .hello := readUp_kind hcode
  refine (if_neg (controlPayload_le hlength)).trans ?_
  simp only [hkind]

theorem Ev.controlPacket_status (e : Ev) (p : PortId) {bytes : List Byte} (hlength : 18 ≤ bytes.length)
    (hcode : byteAt bytes 0 = 0x11) : e.controlPacket p (readUp bytes) = e.takeStatus p (readUp bytes) := by
  have hkind : (readUp bytes).kind = .status := readUp_kind hcode
  refine (if_neg (controlPayload_le hlength)).trans ?_
  simp only [hkind]

theorem Ev.controlPacket_answer (e : Ev) (p : PortId) {bytes : List Byte} (hlength : 18 ≤ bytes.length)
    (hcode : byteAt bytes 0 = 0x12) : e.controlPacket p (readUp bytes) = e.answer p (readUp bytes) := by
  have hkind : (readUp bytes).kind = .answer := readUp_kind hcode
  refine (if_neg (controlPayload_le hlength)).trans ?_
  simp only [hkind]

/-! ### HELLO (R6, R14, R36) -/

theorem Ev.hello_repeated (e : Ev) (p : PortId) (k : UpPacket)
    (h : (e.port p).tether.session = none ∨ ∃ y, (e.port p).tether.session = some { helloTaken := true, upReached := y }) :
    e.hello p k = e.countTether p fun c => { c with repeatedHello := bump c.repeatedHello } := by
  obtain h | ⟨y, h⟩ := h <;> simp only [Ev.hello, h]

/-- A BOOT port whose HELLO of a fixed lens has been taken, its FULL request feasible (R14, R36, R57). -/
def Port.fullWaits (x : Port) (id : Word) (up : Bool) (cls figure estimate : Nat) : Port :=
  { x with
    tether := { x.tether with
      cameraId := some id, helloTimer := none, session := some { helloTaken := true, upReached := up } }
    lens := { x.lens with kind := .fixed }
    feed := { x.feed with power := .fullWait, invalidCount := 0, powerClass := cls }
    pool := { x.pool with classFigure := figure, estClass := estimate, surchargeAmount := 0, estLens := 0 } }

theorem Ev.hello_taken (e : Ev) (p : PortId) (k : UpPacket) {up : Bool} {figure estimate : Nat}
    (hsession : (e.port p).tether.session = some { helloTaken := false, upReached := up })
    (hpower : (e.port p).feed.power = .boot) (hlens : k.c = 0) (hlow : 1 ≤ k.a.toNat) (hhigh : k.a.toNat ≤ 4)
    (hfeasible : e.feedFor p (1000 + 3000 * k.a.toNat) = .feasible figure estimate) :
    e.hello p k = ((((e.updPort p fun x => x.fullWaits (wordAt k.payload 0) up k.a.toNat figure estimate).markPower p
        .hello).updPool fun q =>
      q.join p .full (figure - (e.port p).pool.base) (e.port p).feed.settings.priority).push .serve).offer
        (.cameraHello p (wordAt k.payload 0) k.a .fixed) := by
  have hclamp : clampClass k.a.toNat = k.a.toNat := by
    unfold clampClass clampTo
    split_ifs <;> omega
  have hkind : helloLensKind k.c = .fixed := by rw [hlens]; rfl
  obtain ⟨e₁, he₁⟩ : ∃ e₁ : Ev, e₁ = (e.updTether p fun t =>
      { t with cameraId := some (wordAt k.payload 0), helloTimer := none
               session := t.session.map fun x => { x with helloTaken := true } }).updLens p fun l =>
    { l with kind := .fixed } := ⟨_, rfl⟩
  have hport₁ : e₁.port p = { e.port p with
      tether := { (e.port p).tether with
        cameraId := some (wordAt k.payload 0), helloTimer := none
        session := some { helloTaken := true, upReached := up } }
      lens := { (e.port p).lens with kind := .fixed } } := by
    rw [he₁, Ev.updLens_port, Ev.updTether_port, hsession]
    rfl
  have htaken : e.hello p k = (e₁.fullRequest p k.a.toNat).offer (.cameraHello p (wordAt k.payload 0) k.a .fixed) := by
    have hboot : (e₁.port p).feed.power = .boot := by rw [hport₁]; exact hpower
    simp only [Ev.hello, hsession, Ev.takeHello, hkind, ← he₁, hboot, if_true]
  obtain ⟨e₂, he₂⟩ : ∃ e₂ : Ev, e₂ = (e₁.updFeed p fun f => { f with powerClass := k.a.toNat }).setPower p .fullWait .hello :=
    ⟨_, rfl⟩
  have hport₂ : e₂.port p = { e₁.port p with
      feed := ({ (e₁.port p).feed with powerClass := k.a.toNat } : Feed).enter .fullWait } := by
    rw [he₂, Ev.setPower, Ev.markPower_port, Ev.updFeed_port, Ev.updFeed_port]
  have hpool : e₂.pool = e.pool := by rw [he₂, he₁]; rfl
  have hcalculated : e₂.feedFor p (classPower k.a.toNat) = .feasible figure estimate := by
    rw [← hfeasible, State.feedFor, State.feedFor, hport₂, hport₁, hpool]
    rfl
  have hfixed : (e₂.port p).lens.kind.motorized = false := by rw [hport₂, hport₁]; rfl
  have hrequest : e₁.fullRequest p k.a.toNat = e₂.queueFull p figure estimate 0 0 := by
    simp only [Ev.fullRequest, hclamp, if_true, ← he₂, hfixed, Bool.false_eq_true, if_false, hcalculated]
  have hbase : (e₂.port p).pool.base = (e.port p).pool.base := by rw [hport₂, hport₁]
  have hcolumn : (e₂.updFigures p fun q =>
      { q with classFigure := figure, estClass := estimate, surchargeAmount := 0, estLens := 0 })
      = (e.updPort p fun x => x.fullWaits (wordAt k.payload 0) up k.a.toNat figure estimate).markPower p .hello := by
    have hsession' : (e.ports.get p).tether.session = some { helloTaken := false, upReached := up } := hsession
    rw [he₂, he₁]
    simp only [Ev.updFigures, Ev.setPower, Ev.updFeed, Ev.updLens, Ev.updTether, Ev.markPower, Ev.updPort, modifyAt_twice]
    refine congrArg (fun v => ({ e with ports := v } : Ev).markPower p .hello) (modifyAt_congr e.ports p ?_)
    simp only [hsession', Option.map_some, Feed.enter]
    rfl
  have hpriority : (((e.updPort p fun x => x.fullWaits (wordAt k.payload 0) up k.a.toNat figure estimate).markPower p
      .hello).port p).feed.settings.priority = (e.port p).feed.settings.priority := by
    rw [Ev.markPower_port, Ev.port_updPort, if_pos rfl]
    rfl
  rw [htaken, hrequest, Ev.queueFull, hcolumn, Ev.joinQueue, hpriority, hbase]

/-! ### STATUS (R39, R157, R158, R166) -/

/-- A STATUS that completes neither count of R39 moves both. -/
theorem Ev.feedStatus_quiet (e : Ev) (p : PortId) {input : Nat} {u l : StatusCheck}
    (hvoltage : (e.port p).feed.judgeVoltage input = (u, false)) (hload : (e.port p).feed.judgeLoad = (l, false)) :
    e.feedStatus p input = e.updFeed p fun f => { f with underVolt := u, noLoad := l } := by
  have hmoved : (e.updFeed p fun f => { f with underVolt := (f.judgeVoltage input).1, noLoad := f.judgeLoad.1 })
      = e.updFeed p fun f => { f with underVolt := u, noLoad := l } :=
    e.updFeed_congr p (by rw [hvoltage, hload])
  simp only [Ev.feedStatus, hvoltage, hload, Bool.false_eq_true, if_false, hmoved]

theorem Feed.judgeLoad_loaded {f : Feed} (hpower : f.power = .full) (h : 10 ≤ f.lastSample.toNat) :
    f.judgeLoad = ({ count := 0, armed := true }, false) := by
  have hload : decide (f.lastSample.toNat < 10) = false := decide_eq_false (by omega)
  rw [Feed.judgeLoad, if_pos hpower, StatusCheck.judge, hload]
  rfl

theorem Feed.judgeVoltage_well {f : Feed} {input : Nat} (hpower : f.power = .full) (h : f.settings.vMin ≤ input) :
    f.judgeVoltage input = ({ count := 0, armed := true }, false) := by
  have hlow : decide (input < f.settings.vMin) = false := decide_eq_false (by omega)
  have hon : f.power.feedOn = true := by rw [hpower]; rfl
  rw [Feed.judgeVoltage, if_pos hon, StatusCheck.judge, hlow]
  rfl

theorem Feed.judgeVoltage_low {f : Feed} {input n : Nat} (hpower : f.power = .full) (h : input < f.settings.vMin)
    (hcheck : f.underVolt = { count := n, armed := true }) (hn : n < 2) :
    f.judgeVoltage input = ({ count := n + 1, armed := true }, false) := by
  have hlow : decide (input < f.settings.vMin) = true := decide_eq_true h
  have hcount : ¬ n + 1 = 3 := by omega
  have hon : f.power.feedOn = true := by rw [hpower]; rfl
  rw [Feed.judgeVoltage, if_pos hon, StatusCheck.judge, hlow, hcheck]
  simp [hcount]

theorem Ev.lensStatus_absent (e : Ev) (p : PortId) (busy : Bool) (payload : List Byte)
    (h : (e.port p).lens.state = .absent) : e.lensStatus p busy payload = e := if_pos h

theorem Ev.cableStatus_idle (e : Ev) (p : PortId) (input : Nat) (h : (e.port p).feed.lastSample.toNat < 50) :
    e.cableStatus p input = e := if_neg fun hsample => by omega

/-- The resistance record after a sample, with its count (R157, R158). -/
def Cable.sampled (c : Cable) (r : Nat) : Cable := { c.addSample r with samplesTaken := bump c.samplesTaken }

theorem Ev.cableStatus_sample (e : Ev) (p : PortId) (input : Nat) (hpower : (e.port p).feed.power = .full)
    (h : 50 ≤ (e.port p).feed.lastSample.toNat) :
    e.cableStatus p input = (e.updCable p fun c => c.sampled
      (resistanceSample e.pool.sampleMv input (e.port p).feed.lastSample.toNat)).driftCheck p := if_pos ⟨hpower, h⟩

/-- The record fills (R158). -/
theorem Cable.sampled_filling (c : Cable) (r : Nat) (h : c.resistanceCount < 7) :
    c.sampled r = { c with resistanceCount := c.resistanceCount + 1, resistanceSum := c.resistanceSum + r
                           samplesTaken := bump c.samplesTaken } := by
  have hnot : ¬ c.resistanceCount + 1 = 8 := by omega
  rw [Cable.sampled, Cable.addSample, if_pos (by omega)]
  simp [hnot]

/-- The eighth sample sets the filtered value and an absent baseline (R158). -/
theorem Cable.sampled_eighth (c : Cable) (r : Nat) (h : c.resistanceCount = 7) (hbase : c.resistanceBase = none) :
    c.sampled r = { c with
      resistanceCount := 8, resistanceSum := c.resistanceSum + r, filtered := some ((c.resistanceSum + r) / 8)
      resistanceBase := some ((c.resistanceSum + r) / 8), samplesTaken := bump c.samplesTaken } := by
  rw [Cable.sampled, Cable.addSample, if_pos (by omega)]
  simp [h, hbase]

/-- A full record moves its filtered value (R158). -/
theorem Cable.sampled_full (c : Cable) (r f : Nat) (h : c.resistanceCount = 8) (hfiltered : c.filtered = some f) :
    c.sampled r = { c with filtered := some (filterStep f r), samplesTaken := bump c.samplesTaken } := by
  rw [Cable.sampled, Cable.addSample, if_neg (by omega), hfiltered]
  rfl

theorem Ev.driftCheck_unfiltered (e : Ev) (p : PortId) (h : (e.port p).cable.filtered = none) : e.driftCheck p = e := by
  simp only [Ev.driftCheck, h]

/-- Within the margin an armed drift flag stays; a clear one re-arms below half the margin (R166). -/
theorem Ev.driftCheck_within (e : Ev) (p : PortId) {r b m : Nat} (hfiltered : (e.port p).cable.filtered = some r)
    (hbase : (e.port p).cable.resistanceBase = some b) (hm : m = driftMargin b (e.port p).feed.settings.drift)
    (hwithin : (e.port p).cable.driftArmed = true → r ≤ b + m) :
    e.driftCheck p = e.updCable p fun c => { c with driftArmed := c.driftArmed || decide (r < b + m / 2) } := by
  have hkeep : (e.port p).cable.driftArmed = ((e.port p).cable.driftArmed || decide (r < b + m / 2)) →
      (e.updCable p fun c => { c with driftArmed := c.driftArmed || decide (r < b + m / 2) }) = e := fun h =>
    e.updCable_same p (by rw [← h])
  cases harmed : (e.port p).cable.driftArmed
  · by_cases hbelow : r < b + m / 2
    · simp only [Ev.driftCheck, hfiltered, hbase, harmed, ← hm, Bool.false_eq_true, if_false, if_pos hbelow]
      exact congrArg (fun v => ({ e with ports := v } : Ev)) (modifyAt_congr e.ports p (by simp [hbelow]))
    · simp only [Ev.driftCheck, hfiltered, hbase, harmed, ← hm, Bool.false_eq_true, if_false, if_neg hbelow]
      exact (hkeep (by simp [harmed, hbelow])).symm
  · have hin : ¬ b + m < r := by have := hwithin harmed; omega
    simp only [Ev.driftCheck, hfiltered, hbase, harmed, ← hm, if_true, if_neg hin]
    exact (hkeep (by simp [harmed])).symm

end Sys2Proof.Machine
end

section
/-! HELLO and STATUS packets in their events (R6, R14, R36, R39, R157, R158, R166). -/

namespace Sys2Proof.Machine

set_option Elab.async false

section
variable {s : State} {p : PortId} {ending : PacketEnding} {bytes : List Byte} (hs : s.running)
  (hlink : (s.port p).tether.link = .waking ∨ (s.port p).tether.link = .locking ∨ (s.port p).tether.link = .up)
  (hgood : classify (s.port p).tether.cameraHeld ending bytes = .good) (hlength : 18 ≤ bytes.length)
include hs hlink hgood hlength

/-- A repeated HELLO is counted (R6). -/
theorem State.helloEvent_repeated (hcode : byteAt bytes 0 = 0x10)
    (hsession : (s.port p).tether.session = none
      ∨ ∃ y, (s.port p).tether.session = some { helloTaken := true, upReached := y }) :
    s.blockEvent (fun e => e.packetEnd p ending bytes) = (s.goodCounted p).toState.onTether p fun t =>
      { t with counters := { t.counters with repeatedHello := bump t.counters.repeatedHello } } := by
  have hact := (s.packetEnd_control p hlink hgood hlength (by rw [hcode]; rfl)).trans
    ((Ev.controlPacket_hello _ p hlength hcode).trans
      (Ev.hello_repeated _ p _ (by rw [s.goodCounted_port]; exact hsession)))
  exact s.blockEvent_quiet _ hs hact

/-- The first HELLO of a session takes a BOOT port with a fixed lens to FULL_WAIT, where its FULL entry waits (R14, R36,
R57). -/
theorem State.helloEvent_taken {up : Bool} {figure estimate : Nat} (hcode : byteAt bytes 0 = 0x10)
    (hsession : (s.port p).tether.session = some { helloTaken := false, upReached := up })
    (hpower : (s.port p).feed.power = .boot) (hlens : halfAt bytes 6 = 0) (hlow : 1 ≤ (byteAt bytes 1).toNat)
    (hhigh : (byteAt bytes 1).toNat ≤ 4) (hqueue : s.pool.queue = [])
    (hfeasible : s.feedFor p (1000 + 3000 * (byteAt bytes 1).toNat) = .feasible figure estimate)
    (hroom : s.pool.effectiveBudget < s.allocationSum + (figure - (s.port p).pool.base)) :
    s.blockEvent (fun e => e.packetEnd p ending bytes)
      = ({ (s.goodCounted p).toState.onPort p (fun x =>
            x.fullWaits (wordAt bytes 8) up (byteAt bytes 1).toNat figure estimate) with
          pool := { s.pool with
            queue := [{ port := p, type := .full, amount := figure - (s.port p).pool.base
                        priority := (s.port p).feed.settings.priority, stamp := s.pool.stamp }]
            stamp := bump s.pool.stamp } } : State).noticed
        [.powerChange p .boot .fullWait (s.port p).feed.hold (s.port p).feed.retry .hello,
          .cameraHello p (wordAt bytes 8) (byteAt bytes 1) .fixed] := by
  have hport := s.goodCounted_port p
  have hid : wordAt (readUp bytes).payload 0 = wordAt bytes 8 := wordAt_upPayload (by omega)
  have hfeasible' : (s.goodCounted p).feedFor p (1000 + 3000 * (readUp bytes).a.toNat) = .feasible figure estimate := by
    rw [← hfeasible, State.feedFor, State.feedFor, hport]
    rfl
  have hhello := Ev.hello_taken (s.goodCounted p) p (readUp bytes) (by rw [hport]; exact hsession) (by rw [hport]; exact hpower)
    hlens hlow hhigh hfeasible'
  rw [hid, hport] at hhello
  have hact := (s.packetEnd_control p hlink hgood hlength (by rw [hcode]; rfl)).trans
    ((Ev.controlPacket_hello _ p hlength hcode).trans hhello)
  have hjoin : s.pool.join p .full (figure - (s.port p).pool.base) (s.port p).feed.settings.priority = { s.pool with
      queue := [{ port := p, type := .full, amount := figure - (s.port p).pool.base
                  priority := (s.port p).feed.settings.priority, stamp := s.pool.stamp }]
      stamp := bump s.pool.stamp } := by
    rw [Pool.join, hqueue]
    rfl
  obtain ⟨e, he⟩ : ∃ e : Ev, e = (s.goodCounted p).updPort p fun x =>
    x.fullWaits (wordAt bytes 8) up (byteAt bytes 1).toNat figure estimate := ⟨_, rfl⟩
  have hafter : e.port p = ((s.goodCounted p).port p).fullWaits (wordAt bytes 8) up (byteAt bytes 1).toNat figure estimate := by
    rw [he]
    exact modifyAt_get _ _ _
  have hallocation (q : PortId) : (e.port q).pool.allocation = (s.port q).pool.allocation := by
    by_cases hq : q = p
    · rw [hq, hafter, hport]
      rfl
    · rw [he, Ev.port_updPort, if_neg hq, State.goodCounted, Ev.updTether_port_other _ _ _ _ hq, State.begin_port]
  have hsum := State.allocationSum_of_allocation _ _ hallocation
  have hchange : (s.port p).feed.power ≠ (e.port p).feed.power := by
    rw [hafter, hpower]
    simp [Port.fullWaits]
  have hhold : (e.port p).feed.hold = (s.port p).feed.hold ∧ (e.port p).feed.retry = (s.port p).feed.retry
      ∧ (e.port p).feed.power = .fullWait := by
    rw [hafter, hport]
    exact ⟨rfl, rfl, rfl⟩
  have hact' : s.begin.packetEnd p ending bytes = { ((e.markPower p .hello).push .serve).offer
      (.cameraHello p (wordAt bytes 8) (byteAt bytes 1) .fixed) with pool := { s.pool with
        queue := [{ port := p, type := .full, amount := figure - (s.port p).pool.base
                    priority := (s.port p).feed.settings.priority, stamp := s.pool.stamp }]
        stamp := bump s.pool.stamp } } := by
    rw [hact, he, ← hjoin]
    rfl
  refine s.blockEvent_noticed _ hs hact' (Ev.settle_last _ .serve (by rw [he]; rfl) (Ev.serve_blocked _ rfl
    (hroom.trans_eq (congrArg (· + _) hsum.symm))) rfl) ?_ (by rw [he]; rfl)
  refine (Ev.notices_power_first _ p .hello [.cameraHello p (wordAt bytes 8) (byteAt bytes 1) .fixed] (x := s.port p)
    (y := e.port p) (by rw [he]; rfl) (by rw [he]; rfl) (by rw [he]; rfl) (by exact rfl) hchange).trans ?_
  rw [hhold.1, hhold.2.1, hhold.2.2, hpower]

omit hs in
/-- A STATUS of a FULL port with an ABSENT lens moves the two counts, then meets the break analyser (R39, R157). -/
theorem State.statusEvent_counted {u l : StatusCheck} (hcode : byteAt bytes 0 = 0x11)
    (habsent : (s.port p).lens.state = .absent)
    (hvoltage : (s.port p).feed.judgeVoltage (halfAt bytes 2).toNat = (u, false))
    (hload : (s.port p).feed.judgeLoad = (l, false)) :
    s.begin.packetEnd p ending bytes
      = ((s.goodCounted p).updFeed p fun f => { f with underVolt := u, noLoad := l }).cableStatus p (halfAt bytes 2).toNat := by
  have hport := s.goodCounted_port p
  have hfeed := Ev.feedStatus_quiet (s.goodCounted p) p (by rw [hport]; exact hvoltage) (by rw [hport]; exact hload)
  refine (s.packetEnd_control p hlink hgood hlength (by rw [hcode]; rfl)).trans
    ((Ev.controlPacket_status _ p hlength hcode).trans ?_)
  refine (congrArg (fun e : Ev => (e.lensStatus p (decide ((readUp bytes).a ≠ 0)) (readUp bytes).payload).cableStatus p
    (halfAt bytes 2).toNat) hfeed).trans ?_
  exact congrArg (fun e : Ev => e.cableStatus p (halfAt bytes 2).toNat)
    (Ev.lensStatus_absent _ p _ _ (by rw [Ev.updFeed_port, hport]; exact habsent))

/-- Below 50 mA a STATUS moves the counts alone (R157). -/
theorem State.statusEvent_idle {u l : StatusCheck} (hcode : byteAt bytes 0 = 0x11)
    (habsent : (s.port p).lens.state = .absent)
    (hvoltage : (s.port p).feed.judgeVoltage (halfAt bytes 2).toNat = (u, false))
    (hload : (s.port p).feed.judgeLoad = (l, false)) (hcurrent : (s.port p).feed.lastSample.toNat < 50) :
    s.blockEvent (fun e => e.packetEnd p ending bytes)
      = (s.goodCounted p).toState.onFeed p fun f => { f with underVolt := u, noLoad := l } := by
  refine s.blockEvent_quiet _ hs ((State.statusEvent_counted hlink hgood hlength hcode habsent hvoltage hload).trans
    (Ev.cableStatus_idle _ p _ ?_))
  rw [Ev.updFeed_port, s.goodCounted_port]
  exact hcurrent

/-- From 50 mA a STATUS gives a resistance sample and the drift check (R157, R158, R166). -/
theorem State.statusEvent_sample {u l : StatusCheck} {f : Cable → Cable} (hcode : byteAt bytes 0 = 0x11)
    (hpower : (s.port p).feed.power = .full) (habsent : (s.port p).lens.state = .absent)
    (hvoltage : (s.port p).feed.judgeVoltage (halfAt bytes 2).toNat = (u, false))
    (hload : (s.port p).feed.judgeLoad = (l, false)) (hcurrent : 50 ≤ (s.port p).feed.lastSample.toNat)
    (hdrift : ∀ e : Ev, (e.port p).cable = (s.port p).cable.sampled
        (resistanceSample s.pool.sampleMv (halfAt bytes 2).toNat (s.port p).feed.lastSample.toNat) →
      (e.port p).feed.settings = (s.port p).feed.settings → e.driftCheck p = e.updCable p f) :
    s.blockEvent (fun e => e.packetEnd p ending bytes)
      = (((s.goodCounted p).toState.onFeed p fun f => { f with underVolt := u, noLoad := l }).onCable p fun c =>
          f (c.sampled (resistanceSample s.pool.sampleMv (halfAt bytes 2).toNat (s.port p).feed.lastSample.toNat))) := by
  obtain ⟨e, he⟩ : ∃ e : Ev, e = (s.goodCounted p).updFeed p fun f => { f with underVolt := u, noLoad := l } := ⟨_, rfl⟩
  have hport : e.port p = { (s.goodCounted p).port p with
      feed := { ((s.goodCounted p).port p).feed with underVolt := u, noLoad := l } } := by rw [he, Ev.updFeed_port]
  rw [s.goodCounted_port] at hport
  have hact := State.statusEvent_counted hlink hgood hlength hcode habsent hvoltage hload
  obtain ⟨n, hn⟩ : ∃ n : Nat, n = resistanceSample s.pool.sampleMv (halfAt bytes 2).toNat (s.port p).feed.lastSample.toNat :=
    ⟨_, rfl⟩
  have hsample : resistanceSample e.pool.sampleMv (halfAt bytes 2).toNat (e.port p).feed.lastSample.toNat = n := by
    rw [hport, hn, he]
    rfl
  rw [← hn] at hdrift ⊢
  rw [← he, e.cableStatus_sample p _ (by rw [hport]; exact hpower) (by rw [hport]; exact hcurrent), hsample,
    hdrift _ (by rw [Ev.updCable_port, hport]) (by rw [Ev.updCable_port, hport])] at hact
  refine s.blockEvent_quiet _ hs hact (by rw [he]; rfl) (by rw [he]; rfl) (by rw [he]; rfl) ?_
  rw [he]
  exact congrArg (fun v => ({ (s.goodCounted p).toState with ports := v } : State))
    (modifyAt_twice ((s.goodCounted p).updFeed p fun f => { f with underVolt := u, noLoad := l }).ports p
      (fun x => { x with cable := x.cable.sampled n }) fun x => { x with cable := f x.cable })

end

end Sys2Proof.Machine
end

section
/-! ANSWER packets in their events (R25, R100 to R103, R138). -/

namespace Sys2Proof.Machine

set_option Elab.async false

/-! ### The fields of a lens answer (R95, R100, R192) -/

theorem answerPositions_eq (k : LensKind) (bytes : List Byte) :
    answerPositions k (readUp bytes).payload = k.reachedIn bytes := by
  have hlen : (readUp bytes).payload.length = bytes.length - 12 := upPayload_length bytes
  by_cases h : 22 ≤ bytes.length
  · rw [answerPositions, LensKind.reachedIn, if_pos (by omega), if_pos h, readPositions]
    have hpayload : (readUp bytes).payload = upPayload bytes := rfl
    rw [hpayload, halfAt_upPayload (by omega), halfAt_upPayload (by omega), halfAt_upPayload (by omega)]
  · rw [answerPositions, LensKind.reachedIn, if_neg (by omega), if_neg h]

/-- An answer on target names a target and the positions that agree with it (R95, R100). -/
theorem Lens.meets_true {l : Lens} {m : Move} {reached : Option Positions} {target : Positions} {settle : Nat}
    (hcaptured : m.captured = some (target, settle)) (h : l.meets m reached = true) :
    ∃ q r, m.target = some q ∧ reached = some r ∧ l.kind.agree (l.presets.get q).tolerance target r = true := by
  unfold Lens.meets at h
  rw [hcaptured] at h
  cases htarget : m.target with
  | none => simp [htarget] at h
  | some q =>
    cases reached with
    | none => simp [htarget] at h
    | some r =>
      refine ⟨q, r, rfl, rfl, ?_⟩
      simp only [htarget, Bool.and_eq_true, Bool.or_eq_true, decide_eq_true_eq] at h
      obtain ⟨⟨⟨hlow, hhigh⟩, hiris⟩, hzoom⟩ := h
      simp only [LensKind.agree, Bool.and_eq_true, Bool.or_eq_true, decide_eq_true_eq]
      exact ⟨⟨by omega, hiris.imp_right Eq.symm⟩, hzoom.imp_right Eq.symm⟩

/-- An answer off target names none, has no positions, or some that do not agree with it (R101). -/
theorem Lens.meets_false {l : Lens} {m : Move} {reached : Option Positions} {target : Positions} {settle : Nat}
    (hcaptured : m.captured = some (target, settle)) (h : l.meets m reached = false) {q : PresetId} {r : Positions}
    (htarget : m.target = some q) (hreached : reached = some r) :
    l.kind.agree (l.presets.get q).tolerance target r = false := by
  by_contra hagree
  rw [Bool.not_eq_false] at hagree
  simp only [LensKind.agree, Bool.and_eq_true, Bool.or_eq_true, decide_eq_true_eq] at hagree
  obtain ⟨⟨hfocus, hiris⟩, hzoom⟩ := hagree
  have hmeets : l.meets m reached = true := by
    unfold Lens.meets
    simp only [hcaptured, htarget, hreached, Bool.and_eq_true, Bool.or_eq_true, decide_eq_true_eq]
    exact ⟨⟨⟨by omega, by omega⟩, hiris.imp_right Eq.symm⟩, hzoom.imp_right Eq.symm⟩
  rw [hmeets] at h
  cases h

theorem Ev.moveAnswer_target (e : Ev) (p : PortId) {m : Move} {reached : Option Positions} {target : Positions} {settle : Nat}
    (hcaptured : m.captured = some (target, settle)) (h : (e.port p).lens.meets m reached = true) :
    ∃ r, reached = some r ∧ e.moveAnswer p m 0 reached = e.onTarget p m r settle := by
  obtain ⟨q, r, htarget, hreached, hagree⟩ := Lens.meets_true hcaptured h
  refine ⟨r, hreached, ?_⟩
  refine (if_neg (not_not_intro rfl)).trans ?_
  simp only [hcaptured, hreached, htarget, hagree, if_true]

theorem Ev.moveAnswer_miss (e : Ev) (p : PortId) {m : Move} {reached : Option Positions} {target : Positions} {settle : Nat}
    (hcaptured : m.captured = some (target, settle)) (h : (e.port p).lens.meets m reached = false) :
    e.moveAnswer p m 0 reached = e.offTarget p m target reached := by
  refine (if_neg (not_not_intro rfl)).trans ?_
  cases hreached : reached with
  | none => simp only [hcaptured]
  | some r =>
    cases htarget : m.target with
    | none => simp only [hcaptured]
    | some q =>
      have hagree := Lens.meets_false hcaptured h htarget hreached
      simp only [hcaptured, hagree, Bool.false_eq_true, if_false]

theorem Ev.lensAnswer_moving (e : Ev) (p : PortId) {m : Move} (code : Byte) (reached : Option Positions)
    (hstate : (e.port p).lens.state = .moving) (hmove : (e.port p).lens.move = some m) :
    e.lensAnswer p code reached = e.moveAnswer p m code reached := by
  simp only [Ev.lensAnswer, hstate, hmove]

theorem Ev.lensAnswer_homing (e : Ev) (p : PortId) {m : Move} (code : Byte) (reached : Option Positions)
    (hstate : (e.port p).lens.state = .homing) (hmove : (e.port p).lens.move = some m) :
    e.lensAnswer p code reached = e.homeAnswer p code := by
  simp only [Ev.lensAnswer, hstate, hmove]

/-! ### The answered entry leaves the table (R25) -/

/-- The event of a matched answer once its entry has left the outstanding-answer table (R25). -/
def State.answered (s : State) (p : PortId) (tag : Byte) : Ev :=
  ((s.goodCounted p).updTether p fun t =>
    { t with outstanding := t.outstanding.filter fun y => decide (y.tag ≠ tag) }).push (.channel p)

theorem State.answered_port (s : State) (p : PortId) (tag : Byte) :
    (s.answered p tag).port p = { s.port p with tether := { (s.port p).tether with
      marks := bump (s.port p).tether.marks
      counters := { (s.port p).tether.counters with good := bump (s.port p).tether.counters.good }
      outstanding := (s.port p).tether.outstanding.filter fun y => decide (y.tag ≠ tag) } } := by
  rw [State.answered, Ev.push_port, Ev.updTether_port, s.goodCounted_port]

section
variable {s : State} {p : PortId} {ending : PacketEnding} {bytes : List Byte}
  (hlink : (s.port p).tether.link = .waking ∨ (s.port p).tether.link = .locking ∨ (s.port p).tether.link = .up)
  (hgood : classify (s.port p).tether.cameraHeld ending bytes = .good) (hlength : 18 ≤ bytes.length)
  (hcode : byteAt bytes 0 = 0x12)
include hlink hgood hlength hcode

theorem State.answerEvent_unmatched (hnone : ∀ o ∈ (s.port p).tether.outstanding, o.tag ≠ byteAt bytes 1) :
    s.begin.packetEnd p ending bytes = (s.goodCounted p).countTether p fun c => { c with unmatched := bump c.unmatched } := by
  refine (s.packetEnd_control p hlink hgood hlength (by rw [hcode]; rfl)).trans
    ((Ev.controlPacket_answer _ p hlength hcode).trans ?_)
  have hfind : ((s.goodCounted p).port p).tether.outstandingAt (readUp bytes).a = none := by
    rw [s.goodCounted_port, Tether.outstandingAt, List.find?_eq_none]
    exact fun o ho => decide_eq_false (hnone o ho) ▸ Bool.false_ne_true
  simp only [Ev.answer, hfind]

/-- The entry of a matched answer other than a CAM_WRITE's leaves the table before its origin is told (R25). -/
theorem State.answerEvent_matched {o : Outstanding}
    (hfind : (s.port p).tether.outstanding.find? (fun x => decide (x.tag = byteAt bytes 1)) = some o)
    (hkind : o.kind ≠ .camWrite) :
    s.begin.packetEnd p ending bytes =
      if o.kind.isLens then
        (s.answered p (byteAt bytes 1)).lensAnswer p (byteAt bytes 7) ((s.port p).lens.kind.reachedIn bytes)
      else (s.answered p (byteAt bytes 1)).relayAnswer p (byteAt bytes 1) (byteAt bytes 7) (wordAt bytes 8) := by
  have htag : o.tag = byteAt bytes 1 := by simpa using List.find?_some hfind
  have hfound : ((s.goodCounted p).port p).tether.outstandingAt (readUp bytes).a = some o := by
    rw [s.goodCounted_port]
    exact hfind
  have hleave : (s.goodCounted p).leaveTable p o = s.answered p (byteAt bytes 1) := by
    rw [Ev.leaveTable, if_neg hkind, htag]
    rfl
  have hresult : (readUp bytes).c.setWidth 8 = byteAt bytes 7 := halfAt_setWidth bytes 6
  have hvalue : wordAt (readUp bytes).payload 0 = wordAt bytes 8 := wordAt_upPayload (by omega)
  refine (s.packetEnd_control p hlink hgood hlength (by rw [hcode]; rfl)).trans
    ((Ev.controlPacket_answer _ p hlength hcode).trans ?_)
  simp only [Ev.answer, hfound, hleave, hresult, hvalue, answerPositions_eq, s.answered_port]
  rfl

end

/-! ### Camera accesses (R138) -/

theorem Ev.relayTest_waiting (e : Ev) (p : PortId)
    (h : ∀ r ∈ e.relay, r.released p (e.port p).ingress.egressCount = false) : e.relayTest p = e := by
  have hdue : e.relay.filter (fun r => r.released p (e.port p).ingress.egressCount) = [] :=
    List.filter_eq_nil_iff.mpr fun r hr => by simp [h r hr]
  have hkept : e.relay.filter (fun r => !r.released p (e.port p).ingress.egressCount) = e.relay :=
    List.filter_eq_self.mpr fun r hr => by simp [h r hr]
  simp only [Ev.relayTest, hdue, hkept]
  rfl

/-- An answer behind image packets that have not left is HELD (R138). -/
theorem Ev.relayAnswer_held (e : Ev) (p : PortId) (tag code : Byte) (value : Word) {r : RelayEntry}
    (hfind : e.relay.find? (fun x => x.sentAs p tag) = some r)
    (hwait : reached (e.port p).ingress.egressCount (e.port p).ingress.ingressCount = false)
    (hnone : ∀ x ∈ e.relay, x.released p (e.port p).ingress.egressCount = false) :
    e.relayAnswer p tag code value
      = (e.setRelay ((e.relay.filter fun x => !x.sentAs p tag)
          ++ [{ r with stage := .held code value (e.port p).ingress.ingressCount false }])).updRelay p fun c =>
        { c with held := bump c.held } := by
  have hanswer : e.relayAnswer p tag code value
      = ((e.setRelay ((e.relay.filter fun x => !x.sentAs p tag)
          ++ [{ r with stage := .held code value (e.port p).ingress.ingressCount false }])).updRelay p fun c =>
        { c with held := bump c.held }).relayTest p := by
    simp only [Ev.relayAnswer, hfind, hwait, Bool.false_eq_true, if_false]
  rw [hanswer, Ev.relayTest_waiting]
  intro x hx
  have hx : x ∈ (e.relay.filter fun x => !x.sentAs p tag)
      ++ [{ r with stage := .held code value (e.port p).ingress.ingressCount false }] := hx
  rw [Ev.updRelay_port, Ev.setRelay_port]
  obtain hx | hx := List.mem_append.mp hx
  · exact hnone x (List.mem_filter.mp hx).1
  · obtain rfl := List.mem_singleton.mp hx
    simp [RelayEntry.released, hwait]

/-! ### Lens answers (R63, R100 to R102) -/

theorem Ev.releaseSurcharge_eq (e : Ev) (p : PortId) :
    e.releaseSurcharge p = (e.updPort p Port.unsurcharged).push .serve := by
  have hports : (e.updFigures p fun q => { q with surcharge := 0 }).updFeed p (fun f =>
      { f with limit := limitOf (e.port p).pool.estClass }) = e.updPort p Port.unsurcharged := by
    simp only [Ev.updFigures, Ev.updFeed, Ev.updPort, modifyAt_twice]
    exact congrArg (fun v => ({ e with ports := v } : Ev)) (modifyAt_congr e.ports p rfl)
  exact congrArg (·.push .serve) hports

theorem Ev.releaseSurcharge_updLens (e : Ev) (p : PortId) (f : Lens → Lens) :
    (e.releaseSurcharge p).updLens p f = (e.updPort p fun x => { x.unsurcharged with lens := f x.lens }).push .serve := by
  rw [e.releaseSurcharge_eq]
  exact congrArg (·.push .serve) (e.updPort_twice p Port.unsurcharged fun x => { x with lens := f x.lens })

/-- A port whose LENS_MOVE is tried again after a first miss (R101). -/
def Port.moveRetried (x : Port) (m : Move) (target : Positions) (reached : Option Positions) : Port :=
  { x with
    tether := x.tether.handed fun n => .lensMove n target
    lens := { x.lens with
      held := reached.or x.lens.held, lastCode := some 0
      move := some { m with attempt := 2, downTag := some x.tether.nextTag }
      counters := { x.lens.counters with
        moves := bump x.lens.counters.moves, offTarget := bump x.lens.counters.offTarget } } }

theorem Ev.offTarget_first (e : Ev) (p : PortId) {m : Move} (target : Positions) (reached : Option Positions)
    (hmove : (e.port p).lens.move = some m) (hattempt : m.attempt = 1) :
    e.offTarget p m target reached = (e.updPort p fun x => x.moveRetried m target reached).push (.channel p) := by
  have hmove' : (e.ports.get p).lens.move = some m := hmove
  refine (if_pos hattempt).trans ?_
  refine congrArg (fun v => ({ e with ports := v } : Ev).push (.channel p)) ?_
  simp only [Ev.handTagged, Ev.updTether, Ev.updLens, Ev.push, Ev.updPort, modifyAt_twice]
  refine modifyAt_congr _ _ ?_
  simp only [hmove', Option.map_some]
  rfl

end Sys2Proof.Machine
end

section
/-! What ANSWER packets make of the relay and the lens, and the control packets as a whole (R6, R25, R63, R100 to R103). -/

namespace Sys2Proof.Machine

set_option Elab.async false

/-- Work of an event that leaves nothing to do at a busy channel, an empty admission queue and a port without a trigger. -/
theorem Ev.settle_resting (e : Ev) (p : PortId)
    (htodo : ∀ t ∈ e.todo, t = .channel p ∨ (t = .serve ∧ e.pool.queue = [])
      ∨ (t = .examine p ∧ (e.port p).capture.queue = [] ∧ (e.port p).capture.want = none))
    (hlen : e.todo.length ≤ 512) (hbusy : (e.port p).tether.channel ≠ none) : e.settle = { e with todo := [] } := by
  refine e.settle_idle (fun t ht => ?_) hlen
  obtain rfl | ⟨rfl, hqueue⟩ | ⟨rfl, hqueue, hwant⟩ := htodo t ht
  · exact e.idle_channel p (Tether.startChannel_busy _ hbusy)
  · exact e.idle_serve (by simp [hqueue])
  · exact e.idle_examine p hqueue hwant

/-- A lens on target settles, or comes to rest (R63, R100). -/
theorem Ev.onTarget_settles (e : Ev) (p : PortId) (m : Move) (r : Positions) (settle : Nat) (h : 0 < settle) :
    e.onTarget p m r settle = ((e.updPort p fun x => { x.unsurcharged with lens := { x.lens with
        held := some r, lastTarget := m.target, lastCode := some 0 } }).updLens p fun l =>
      { l with state := .settling, settleTimer := some (e.time + settle * 1000) }).push .serve := by
  rw [Ev.onTarget, e.releaseSurcharge_updLens, if_neg (by omega)]
  rfl

/-- A lens whose positions are taken, its surcharge released, comes to rest without a want (R63, R96, R100). -/
theorem Ev.rests_released (e : Ev) (p : PortId) (prev : LensState) (f : Lens → Lens) (hoffers : e.offers = [])
    (hwant : (f (e.port p).lens).want = none) :
    ((e.releaseSurcharge p).updLens p f).rest p prev
      = (((e.updPort p fun x => { x.unsurcharged with lens := { f x.lens with state := .idle, move := none } }).push
          .serve).offer (.lensChange p prev .idle .rest (moveBrief (f (e.port p).lens).move) (f (e.port p).lens).held
            (f (e.port p).lens).lastCode)).push (.examine p) := by
  obtain ⟨e', he'⟩ : ∃ e' : Ev, e' = (e.updPort p fun x => { x.unsurcharged with lens := f x.lens }).push .serve := ⟨_, rfl⟩
  have hport : (e'.port p).lens = f (e.port p).lens := by
    rw [he', Ev.push_port, Ev.port_updPort, if_pos rfl]
  have hnone : e'.offers.any (Offer.isLensChange p) = false := by
    rw [he']
    exact (congrArg (List.any · (Offer.isLensChange p)) hoffers).trans rfl
  rw [e.releaseSurcharge_updLens, ← he', e'.rest_idle p prev (by rw [hport]; exact hwant) hnone, hport, he']
  refine congrArg (fun v => ((({ e with ports := v } : Ev).push .serve).offer
      (.lensChange p prev .idle .rest (moveBrief (f (e.port p).lens).move) (f (e.port p).lens).held
        (f (e.port p).lens).lastCode)).push (.examine p)) ?_
  exact modifyAt_twice e.ports p (fun x => { x.unsurcharged with lens := f x.lens })
    fun x => { x with lens := { x.lens with state := .idle, move := none } }

section
variable {s : State} {p : PortId} {ending : PacketEnding} {bytes : List Byte} {o : Outstanding} {m : Move} (hs : s.running)
  (hlink : (s.port p).tether.link = .waking ∨ (s.port p).tether.link = .locking ∨ (s.port p).tether.link = .up)
  (hgood : classify (s.port p).tether.cameraHeld ending bytes = .good) (hlength : 18 ≤ bytes.length)
  (hcode : byteAt bytes 0 = 0x12) (hbusy : (s.port p).tether.channel ≠ none)
  (hfind : (s.port p).tether.outstanding.find? (fun x => decide (x.tag = byteAt bytes 1)) = some o)
include hs hlink hgood hlength hcode hbusy hfind

/-- The answer to a CAM_READ leaves the table and is HELD (R25, R138). -/
theorem State.answerEvent_held {r : RelayEntry} (hkind : o.kind = .camRead)
    (hrelay : s.relay.find? (fun x => x.sentAs p (byteAt bytes 1)) = some r)
    (hwait : reached (s.port p).ingress.egressCount (s.port p).ingress.ingressCount = false)
    (hnone : ∀ x ∈ s.relay, x.released p (s.port p).ingress.egressCount = false) :
    s.blockEvent (fun e => e.packetEnd p ending bytes)
      = { (s.goodCounted p).toState.onPort p (fun x => { x with
            tether := { x.tether with
              outstanding := x.tether.outstanding.filter fun y => decide (y.tag ≠ byteAt bytes 1) }
            relay := { x.relay with held := bump x.relay.held } }) with
          relay := (s.relay.filter fun x => !x.sentAs p (byteAt bytes 1))
            ++ [{ r with
              stage := .held (byteAt bytes 7) (wordAt bytes 8) (s.port p).ingress.ingressCount false }] } := by
  have hport := s.answered_port p (byteAt bytes 1)
  have hheld := (s.answered p (byteAt bytes 1)).relayAnswer_held p (byteAt bytes 1) (byteAt bytes 7) (wordAt bytes 8) hrelay
    (by rw [hport]; exact hwait) (by rw [hport]; exact hnone)
  have hact := State.answerEvent_matched hlink hgood hlength hcode hfind (by simp [hkind])
  rw [if_neg (by simp [hkind, AnswerKind.isLens]), hheld, hport] at hact
  refine s.blockEvent_silent _ hs hact (Ev.settle_last _ (.channel p) rfl (Ev.startChannel_same _ p
    (Tether.startChannel_busy _ ?_)) rfl) rfl rfl ?_
  · simpa [hport] using hbusy
  · exact congrArg (fun v => ({ s with
        ports := v
        relay := (s.relay.filter fun x => !x.sentAs p (byteAt bytes 1))
          ++ [{ r with
            stage := .held (byteAt bytes 7) (wordAt bytes 8) (s.port p).ingress.ingressCount false }] } : State))
      (modifyAt_twice (s.goodCounted p).ports p
        (fun x => { x with tether := { x.tether with
          outstanding := x.tether.outstanding.filter fun y => decide (y.tag ≠ byteAt bytes 1) } })
        fun x => { x with relay := { x.relay with held := bump x.relay.held } })

variable (hlens : o.kind.isLens = true) (hmove : (s.port p).lens.move = some m)
include hlens hmove

omit hs hbusy in
theorem State.answerEvent_moving (hstate : (s.port p).lens.state = .moving) :
    s.begin.packetEnd p ending bytes = (s.answered p (byteAt bytes 1)).moveAnswer p m (byteAt bytes 7)
      ((s.port p).lens.kind.reachedIn bytes) := by
  have hport := s.answered_port p (byteAt bytes 1)
  refine (State.answerEvent_matched hlink hgood hlength hcode hfind ?_).trans ((if_pos hlens).trans
    (Ev.lensAnswer_moving _ p _ _ (by rw [hport]; exact hstate) (by rw [hport]; exact hmove)))
  rintro h
  simp [h, AnswerKind.isLens] at hlens

omit hs hbusy in
theorem State.answerEvent_homing (hstate : (s.port p).lens.state = .homing) :
    s.begin.packetEnd p ending bytes = (s.answered p (byteAt bytes 1)).homeAnswer p (byteAt bytes 7) := by
  have hport := s.answered_port p (byteAt bytes 1)
  refine (State.answerEvent_matched hlink hgood hlength hcode hfind ?_).trans ((if_pos hlens).trans
    (Ev.lensAnswer_homing _ p _ _ (by rw [hport]; exact hstate) (by rw [hport]; exact hmove)))
  rintro h
  simp [h, AnswerKind.isLens] at hlens

/-- A lens that is on target settles (R100). -/
theorem State.answerEvent_settles {target : Positions} {settle : Nat} (hstate : (s.port p).lens.state = .moving)
    (hcaptured : m.captured = some (target, settle)) (hresult : byteAt bytes 7 = 0)
    (hmeets : (s.port p).lens.meets m ((s.port p).lens.kind.reachedIn bytes) = true) (hqueue : s.pool.queue = [])
    (hsettle : 0 < settle) :
    s.blockEvent (fun e => e.packetEnd p ending bytes)
      = ((s.answered p (byteAt bytes 1)).toState.onPort p fun x => { x.unsurcharged with
          lens := { x.lens with
            held := (s.port p).lens.kind.reachedIn bytes, lastTarget := m.target, lastCode := some 0 } }).onLens p fun l =>
        { l with state := .settling, settleTimer := some (s.time + settle * 1000) } := by
  have hport := s.answered_port p (byteAt bytes 1)
  obtain ⟨r, hreached, htarget⟩ := (s.answered p (byteAt bytes 1)).moveAnswer_target p hcaptured
    (by rw [hport]; exact hmeets)
  have hact := State.answerEvent_moving hlink hgood hlength hcode hfind hlens hmove hstate
  rw [hresult, htarget, Ev.onTarget_settles _ p m r settle hsettle] at hact
  rw [hreached]
  refine s.blockEvent_silent _ hs hact (Ev.settle_resting _ p (fun t ht => ?_) (of_decide_eq_true rfl) ?_)
  · have ht : t = .channel p ∨ t = .serve := by simpa using (show t ∈ [Task.channel p, .serve] from ht)
    exact ht.imp_right fun h => .inl ⟨h, hqueue⟩
  · simpa [Ev.port_updPort, hport, Port.unsurcharged] using hbusy

end

/-- An answer after which the lens comes to rest, its surcharge released (R63, R96, R100, R102). -/
theorem State.answerEvent_rests {s : State} {p : PortId} {act : Ev → Ev} {tag : Byte} {prev : LensState} {f : Lens → Lens}
    (hs : s.running) (hact : act s.begin = (((s.answered p tag).releaseSurcharge p).updLens p f).rest p prev)
    (hwant : (f (s.port p).lens).want = none) (hpool : s.pool.queue = []) (hqueue : (s.port p).capture.queue = [])
    (hcwant : (s.port p).capture.want = none) (hbusy : (s.port p).tether.channel ≠ none) :
    s.blockEvent act
      = ((s.answered p tag).toState.onPort p fun x => { x.unsurcharged with
          lens := { f x.lens with state := .idle, move := none } }).noticed
        [.lensChange p prev .idle .rest (moveBrief (f (s.port p).lens).move) (f (s.port p).lens).held
          (f (s.port p).lens).lastCode] := by
  have hport := s.answered_port p tag
  have hrests := (s.answered p tag).rests_released p prev f rfl (by rw [hport]; exact hwant)
  rw [hport] at hrests
  refine s.blockEvent_noticed _ hs (hact.trans hrests) (Ev.settle_resting _ p (fun t ht => ?_) (of_decide_eq_true rfl) ?_)
    rfl rfl
  · have ht : t = .channel p ∨ t = .serve ∨ t = .examine p := by
      simpa using (show t ∈ [Task.channel p, .serve, .examine p] from ht)
    refine ht.imp_right (Or.imp (fun h => ⟨h, hpool⟩) fun h => ⟨h, ?_, ?_⟩)
    · simpa [Ev.port_updPort, hport, Port.unsurcharged] using hqueue
    · simpa [Ev.port_updPort, hport, Port.unsurcharged] using hcwant
  · simpa [Ev.port_updPort, hport, Port.unsurcharged] using hbusy

/-- An answer after which a LENS_MOVE is tried again (R101). -/
theorem State.answerEvent_retried {s : State} {p : PortId} {act : Ev → Ev} {tag : Byte} {m : Move} {target : Positions}
    {reached : Option Positions} (hs : s.running)
    (hact : act s.begin = (s.answered p tag).offTarget p m target reached) (hmove : (s.port p).lens.move = some m)
    (hattempt : m.attempt = 1) (hbusy : (s.port p).tether.channel ≠ none) :
    s.blockEvent act = (s.answered p tag).toState.onPort p fun x => x.moveRetried m target reached := by
  have hport := s.answered_port p tag
  refine s.blockEvent_silent _ hs
    (hact.trans (Ev.offTarget_first _ p target reached (by rw [hport]; exact hmove) hattempt))
    (Ev.settle_resting _ p (fun t ht => ?_) (of_decide_eq_true rfl) ?_)
  · exact .inl (by simpa using (show t ∈ [Task.channel p, .channel p] from ht))
  · simpa [Ev.port_updPort, hport, Port.moveRetried, Tether.handed] using hbusy

/-- An answer after which the lens stalls (R103, R168). -/
theorem State.answerEvent_stalls {s : State} {p : PortId} {act : Ev → Ev} {tag : Byte} {r : Reaction}
    {reached : Option Positions} {code : Byte} (hs : s.running)
    (hact : act s.begin = (s.answered p tag).lensStall p .lensStall .stall reached (some code))
    (hpool : s.pool.queue = []) (hqueue : (s.port p).capture.queue = []) (hwant : (s.port p).capture.want = none)
    (hon : (s.port p).feed.power.feedOn = true) (hreaction : (s.port p).cable.reactions.get FaultKind.lensStall.index = r)
    (hr : r = .hold ∨ r = .report) (hbusy : (s.port p).tether.channel ≠ none) :
    s.blockEvent act = (s.answered p tag).toState.lensStalled p .lensStall .stall reached (some code) r := by
  have hport := s.answered_port p tag
  refine s.lensStall_ends p (kind := .lensStall) hs hact (.inl rfl) rfl rfl rfl rfl ?_ ?_ ?_ ?_ ?_ hpool ?_ hr <;> rw [hport]
  · exact hon
  · exact hqueue
  · exact hwant
  · exact hbusy
  · exact hreaction

end Sys2Proof.Machine
end

section
/-! Control packets (R5, R6): what HELLO, STATUS and ANSWER packets make of a port. -/

namespace Sys2Proof.Machine

set_option Elab.async false

section
variable {s : State} {p : PortId} {ending : PacketEnding} {bytes : List Byte} {n : Nat} (hs : s.running)
  (hlink : (s.port p).tether.link = .waking ∨ (s.port p).tether.link = .locking ∨ (s.port p).tether.link = .up)
  (hgood : classify (s.port p).tether.cameraHeld ending bytes = .good) (hlength : 18 ≤ bytes.length)
  (hcode : byteAt bytes 0 = 0x11) (hpower : (s.port p).feed.power = .full) (habsent : (s.port p).lens.state = .absent)
  (hlow : (s.port p).feed.settings.vMin ≤ (halfAt bytes 2).toNat) (hcurrent : 50 ≤ (s.port p).feed.lastSample.toNat)
  (hn : n = resistanceSample s.pool.sampleMv (halfAt bytes 2).toNat (s.port p).feed.lastSample.toNat)
include hs hlink hgood hlength hcode hpower habsent hlow hcurrent hn

/-- A resistance sample of a port whose voltage and load are well, where the drift check does no more than f (R157,
R166). -/
theorem State.statusEvent_drift {f g : Cable → Cable} (hg : f ((s.port p).cable.sampled n) = g (s.port p).cable)
    (hdrift : ∀ e : Ev, (e.port p).cable = (s.port p).cable.sampled n →
      (e.port p).feed.settings = (s.port p).feed.settings → e.driftCheck p = e.updCable p f) :
    s.blockEvent (fun e => e.packetEnd p ending bytes)
      = ((s.goodCounted p).toState.onFeed p fun f =>
          { f with underVolt := { count := 0, armed := true }, noLoad := { count := 0, armed := true } }).onCable p g := by
  subst hn
  refine (State.statusEvent_sample hs hlink hgood hlength hcode hpower habsent (Feed.judgeVoltage_well hpower hlow)
    (Feed.judgeLoad_loaded hpower (by omega)) hcurrent hdrift).trans (State.onCable_congr _ p ?_)
  have hcounted : ((s.goodCounted p).port p).cable = (s.port p).cable := by rw [s.goodCounted_port]
  have hcable : (((s.goodCounted p).toState.onFeed p fun f =>
      { f with underVolt := { count := 0, armed := true }, noLoad := { count := 0, armed := true } }).port p).cable
        = (s.port p).cable := by
    rw [State.onFeed, State.onPort, State.port, modifyAt_get]
    exact hcounted
  rw [hcable, hg]

/-- While the record fills nothing is checked (R158). -/
theorem State.statusEvent_filling (hcount : (s.port p).cable.resistanceCount < 7)
    (hfiltered : (s.port p).cable.filtered = none) :
    s.blockEvent (fun e => e.packetEnd p ending bytes)
      = ((s.goodCounted p).toState.onFeed p fun f =>
          { f with underVolt := { count := 0, armed := true }, noLoad := { count := 0, armed := true } }).onCable p fun c =>
        { c with resistanceCount := c.resistanceCount + 1, resistanceSum := (s.port p).cable.resistanceSum + n
                 samplesTaken := bump c.samplesTaken } := by
  have hsampled := (s.port p).cable.sampled_filling n hcount
  refine State.statusEvent_drift hs hlink hgood hlength hcode hpower habsent hlow hcurrent hn (f := id) hsampled
    fun e hcable _ => ?_
  rw [hsampled] at hcable
  rw [e.driftCheck_unfiltered p (by rw [hcable]; exact hfiltered), e.updCable_same p rfl]

/-- The eighth sample sets the baseline it is checked against (R158, R166). -/
theorem State.statusEvent_eighth (hcount : (s.port p).cable.resistanceCount = 7)
    (hbase : (s.port p).cable.resistanceBase = none) (harmed : (s.port p).cable.driftArmed = true) {sum : Nat}
    (hsum : sum = (s.port p).cable.resistanceSum + n) :
    s.blockEvent (fun e => e.packetEnd p ending bytes)
      = ((s.goodCounted p).toState.onFeed p fun f =>
          { f with underVolt := { count := 0, armed := true }, noLoad := { count := 0, armed := true } }).onCable p fun c =>
        { c with resistanceCount := 8, resistanceSum := sum, filtered := some (sum / 8)
                 resistanceBase := some (sum / 8), samplesTaken := bump c.samplesTaken } := by
  subst hsum
  have hsampled := (s.port p).cable.sampled_eighth n hcount hbase
  refine State.statusEvent_drift hs hlink hgood hlength hcode hpower habsent hlow hcurrent hn (f := id) hsampled
    fun e hcable _ => ?_
  rw [hsampled] at hcable
  refine (e.driftCheck_within p (by rw [hcable]) (by rw [hcable]) rfl fun _ => Nat.le_add_right _ _).trans
    ((e.updCable_same p ?_).trans (e.updCable_same p rfl).symm)
  rw [hcable]
  simp [harmed]

/-- A full record is checked within its margin (R158, R166). -/
theorem State.statusEvent_filtered {r b margin : Nat} (hcount : (s.port p).cable.resistanceCount = 8)
    (hfiltered : (s.port p).cable.filtered = some r) (hbase : (s.port p).cable.resistanceBase = some b)
    (hmargin : margin = driftMargin b (s.port p).feed.settings.drift)
    (hwithin : (s.port p).cable.driftArmed = true → filterStep r n ≤ b + margin) :
    s.blockEvent (fun e => e.packetEnd p ending bytes)
      = ((s.goodCounted p).toState.onFeed p fun f =>
          { f with underVolt := { count := 0, armed := true }, noLoad := { count := 0, armed := true } }).onCable p fun c =>
        { c with filtered := some (filterStep r n), samplesTaken := bump c.samplesTaken
                 driftArmed := c.driftArmed || decide (filterStep r n < b + margin / 2) } := by
  have hsampled := (s.port p).cable.sampled_full n r hcount hfiltered
  refine State.statusEvent_drift hs hlink hgood hlength hcode hpower habsent hlow hcurrent hn
    (f := fun c => { c with driftArmed := c.driftArmed || decide (filterStep r n < b + margin / 2) })
    (by rw [hsampled]) fun e hcable hsettings => ?_
  rw [hsampled] at hcable
  exact e.driftCheck_within p (by rw [hcable]) (by rw [hcable]; exact hbase) (by rw [hsettings]; exact hmargin)
    (by rw [hcable]; exact hwithin)

end

/-- The positions of the serial comparison: an egress count that has not reached w lies half the range behind (R124). -/
theorem reached_of_half {e w : Word} (h : 2 ^ 31 ≤ (e - w).toNat) : reached e w = false :=
  decide_eq_false (by omega)

/-- Settles O43: what a GOOD HELLO, STATUS or ANSWER packet makes of its port. -/
theorem controlPacketsAreTaken : Obligations.ControlPacketsAreTaken := by
  intro s now p ending bytes hs hlink hgood hlength hnow
  subst hnow
  refine ⟨fun hcode => ⟨fun hsession => ?_, fun up figure estimate hsession hpower hlens hlow hhigh hqueue hfeasible hroom => ?_⟩,
    fun hcode hpower habsent hload => ⟨fun n hlow hcurrent hcheck hn => ?_,
      fun well sample sum hvoltage hwell hsample hsum => ?_⟩,
    fun hcode => ⟨fun hnone => ?_, fun o r hbusy hfind hkind hrelay hwait hreleased => ?_,
      fun o m target settle reached gone hbusy hfind hlens hmove hcaptured hreached hgone => ?_⟩⟩
  · exact congrArg Host.Outcome.next (State.helloEvent_repeated hs hlink hgood hlength hcode hsession)
  · exact congrArg Host.Outcome.next
      (State.helloEvent_taken hs hlink hgood hlength hcode hsession hpower hlens hlow hhigh hqueue hfeasible hroom)
  · exact congrArg Host.Outcome.next (State.statusEvent_idle hs hlink hgood hlength hcode habsent
      (Feed.judgeVoltage_low hpower hlow hcheck hn) (Feed.judgeLoad_loaded hpower hload) hcurrent)
  · subst hwell
    refine ⟨fun hcurrent => congrArg Host.Outcome.next (State.statusEvent_idle hs hlink hgood hlength hcode habsent
        (Feed.judgeVoltage_well hpower hvoltage) (Feed.judgeLoad_loaded hpower hload) hcurrent),
      fun hcurrent => ⟨fun hcount hfiltered => ?_, fun hcount hbase harmed => ?_,
        fun r b moved margin hcount hfiltered hbase hmoved hmargin hwithin => ?_⟩⟩
    · subst hsum
      exact congrArg Host.Outcome.next (State.statusEvent_filling hs hlink hgood hlength hcode hpower habsent hvoltage hcurrent
        hsample hcount hfiltered)
    · exact congrArg Host.Outcome.next (State.statusEvent_eighth hs hlink hgood hlength hcode hpower habsent hvoltage hcurrent
        hsample hcount hbase harmed hsum)
    · subst hmoved
      exact congrArg Host.Outcome.next (State.statusEvent_filtered hs hlink hgood hlength hcode hpower habsent hvoltage hcurrent
        hsample hcount hfiltered hbase hmargin hwithin)
  · exact congrArg Host.Outcome.next
      (s.blockEvent_quiet _ hs (State.answerEvent_unmatched hlink hgood hlength hcode hnone))
  · exact congrArg Host.Outcome.next (State.answerEvent_held hs hlink hgood hlength hcode hbusy hfind hkind hrelay
      (reached_of_half hwait) hreleased)
  subst hgone hreached
  refine ⟨fun hstate hkind hresult hmeets hpool there hthere => ?_, fun hstate hkind hresult hmeets hattempt n hn => ?_,
    fun hstate hresult hpool hqueue hwant hlwant zero hzero => ?_, fun r hpool hqueue hwant hon hreaction hr => ?_⟩
  · have hmoves := hcaptured.resolve_right (by simp [hkind])
    subst hthere
    refine ⟨fun hsettle => congrArg Host.Outcome.next (State.answerEvent_settles hs hlink hgood hlength hcode hbusy hfind hlens
      hmove hstate hmoves hresult hmeets hpool hsettle), fun hsettle hqueue hwant hlwant => ?_⟩
    obtain ⟨r, hreached, htarget⟩ := (s.answered p (byteAt bytes 1)).moveAnswer_target p hmoves
      (by rw [s.answered_port]; exact hmeets)
    have hact := State.answerEvent_moving hlink hgood hlength hcode hfind hlens hmove hstate
    rw [hresult, htarget, hsettle] at hact
    rw [hreached]
    have hrests := State.answerEvent_rests (p := p) (tag := byteAt bytes 1) (prev := .moving) (f := fun l =>
      { l with held := some r, lastTarget := m.target, lastCode := some 0 }) hs hact hlwant hpool hqueue hwant hbusy
    rw [hmove] at hrests
    refine congrArg Host.Outcome.next (hrests.trans (congrArg (fun t : State => t.noticed _) ?_))
    exact congrArg (fun v => ({ (s.answered p (byteAt bytes 1)).toState with ports := v } : State))
      (modifyAt_twice (s.answered p (byteAt bytes 1)).ports p
        (fun x => { x.unsurcharged with lens := { x.lens with held := some r, lastTarget := m.target, lastCode := some 0 } })
        fun x => { x with lens := { x.lens with state := .idle, move := none } }).symm
  · have hmoves := hcaptured.resolve_right (by simp [hkind])
    have hact := State.answerEvent_moving hlink hgood hlength hcode hfind hlens hmove hstate
    rw [hresult, Ev.moveAnswer_miss _ p hmoves (by rw [s.answered_port]; exact hmeets)] at hact
    refine congrArg Host.Outcome.next ((State.answerEvent_retried hs hact hmove hattempt hbusy).trans ?_)
    subst hn
    refine State.onPort_congr _ p rfl
  · have hact := State.answerEvent_homing hlink hgood hlength hcode hfind hlens hmove hstate
    rw [hresult] at hact
    have hrests := State.answerEvent_rests (p := p) (tag := byteAt bytes 1) (prev := .homing) (f := fun l =>
      { l with held := some l.kind.homePositions, lastTarget := none, lastCode := some 0 }) hs hact hlwant hpool hqueue hwant
      hbusy
    rw [hmove] at hrests
    subst hzero
    have hkind : ((s.answered p (byteAt bytes 1)).port p).lens.kind = (s.port p).lens.kind := by rw [s.answered_port]
    refine congrArg Host.Outcome.next (hrests.trans (congrArg (fun t : State => t.noticed _) (State.onPort_congr _ p ?_)))
    rw [← hkind]
  · refine ⟨fun hstate hkind hcause => ?_, fun hstate hresult => ?_⟩
    · have hmoves := hcaptured.resolve_right (by simp [hkind])
      have hact := State.answerEvent_moving hlink hgood hlength hcode hfind hlens hmove hstate
      refine congrArg Host.Outcome.next (State.answerEvent_stalls hs (hact.trans ?_) hpool hqueue hwant hon hreaction hr hbusy)
      by_cases hresult : byteAt bytes 7 = 0
      · obtain ⟨hmeets, hattempt⟩ := hcause.resolve_left (not_not_intro hresult)
        rw [hresult, Ev.moveAnswer_miss _ p hmoves (by rw [s.answered_port]; exact hmeets)]
        exact if_neg hattempt
      · exact if_pos hresult
    · exact congrArg Host.Outcome.next (State.answerEvent_stalls hs
        ((State.answerEvent_homing hlink hgood hlength hcode hfind hlens hmove hstate).trans (if_pos hresult)) hpool hqueue hwant
        hon hreaction hr hbusy)

end Sys2Proof.Machine
end

section
/-! Events that turn one port into another and leave only tasks of given kinds: how a chain of operations at one port is
read off as the port it ends with. -/

namespace Sys2Proof.Machine

set_option Elab.async false

/-- The event e' is e with port p turned into y and at most n further tasks, all of them ok. -/
def Ev.Turns (e : Ev) (p : PortId) (ok : Task → Prop) (n : Nat) (y : Port) (e' : Ev) : Prop :=
  ∃ l : List Task, l.length ≤ n ∧ (∀ t ∈ l, ok t) ∧ e' = { e.updPort p (fun _ => y) with todo := e.todo ++ l }

section
variable {e e' : Ev} {p : PortId} {ok : Task → Prop} {n : Nat} {y : Port}

theorem Ev.Turns.port (h : e.Turns p ok n y e') : e'.port p = y := by
  obtain ⟨l, _, _, rfl⟩ := h
  exact modifyAt_get _ _ _

theorem Ev.Turns.offers (h : e.Turns p ok n y e') : e'.offers = e.offers := by
  obtain ⟨l, _, _, rfl⟩ := h
  rfl

theorem Ev.Turns.poolOffers (h : e.Turns p ok n y e') : e'.poolOffers = e.poolOffers := by
  obtain ⟨l, _, _, rfl⟩ := h
  rfl

theorem Ev.Turns.output (h : e.Turns p ok n y e') : e'.output = e.output := by
  obtain ⟨l, _, _, rfl⟩ := h
  rfl

theorem Ev.Turns.usClock (h : e.Turns p ok n y e') : e'.usClock = e.usClock := by
  obtain ⟨l, _, _, rfl⟩ := h
  rfl

theorem Ev.Turns.start (e : Ev) (p : PortId) (ok : Task → Prop) : e.Turns p ok 0 (e.port p) e := by
  refine ⟨[], Nat.le_refl 0, by simp, ?_⟩
  rw [List.append_nil]
  exact congrArg (fun v => ({ e with ports := v } : Ev)) (modifyAt_same e.ports p rfl).symm

/-- A further change of the port. -/
theorem Ev.Turns.upd (h : e.Turns p ok n y e') (f : Port → Port) : e.Turns p ok n (f y) (e'.updPort p f) := by
  obtain ⟨l, hlen, hl, rfl⟩ := h
  exact ⟨l, hlen, hl, congrArg (fun v => ({ e with ports := v, todo := e.todo ++ l } : Ev))
    (modifyAt_twice e.ports p (fun _ => y) f)⟩

/-- Further tasks. -/
theorem Ev.Turns.tasks (h : e.Turns p ok n y e') {k : List Task} {m : Nat} (hk : ∀ t ∈ k, ok t) (hm : k.length ≤ m) :
    e.Turns p ok (n + m) y { e' with todo := e'.todo ++ k } := by
  obtain ⟨l, hlen, hl, rfl⟩ := h
  refine ⟨l ++ k, by simp only [List.length_append]; omega, fun t ht => (List.mem_append.mp ht).elim (hl t) (hk t), ?_⟩
  exact congrArg (fun v => ({ e.updPort p (fun _ => y) with todo := v } : Ev)) (List.append_assoc _ _ _)

theorem Ev.Turns.push (h : e.Turns p ok n y e') {t : Task} (ht : ok t) : e.Turns p ok (n + 1) y (e'.push t) :=
  h.tasks (k := [t]) (by simpa using ht) (Nat.le_refl 1)

theorem Ev.Turns.mono (h : e.Turns p ok n y e') {m : Nat} (hm : n ≤ m) : e.Turns p ok m y e' := by
  obtain ⟨l, hlen, hl, heq⟩ := h
  exact ⟨l, hlen.trans hm, hl, heq⟩

end

/-- Tasks that find nothing to do at a port whose channel is busy or that is not asked to send, while the output port
does not pick (R21, R84, R98, R131). -/
def Ev.restful (e : Ev) (p : PortId) (t : Task) : Prop :=
  t = .output ∧ (e.output.sending ≠ none ∨ e.output.holdPin = true)
    ∨ t = .channel p ∧ (e.port p).tether.channel ≠ none
    ∨ (t = .handIn p ∧ (e.port p).lens.state ≠ .moveWait)
    ∨ (t = .examine p ∧ (e.port p).capture.queue = [] ∧ (e.port p).capture.want = none)

/-- A block's event that turns one port and leaves only such tasks. -/
theorem State.blockEvent_turns (s : State) (p : PortId) {act : Ev → Ev} {n : Nat} {y : Port} {e : Ev} (hs : s.running)
    (hact : act s.begin = e) (h : s.begin.Turns p (s.begin.restful p) n y e) (hn : n ≤ 512)
    (hchannel : y.tether.channel = (s.port p).tether.channel) (hlens : y.lens.state = (s.port p).lens.state)
    (hqueue : (s.port p).capture.queue = [] → y.capture.queue = []) (hwant : y.capture.want = (s.port p).capture.want) :
    s.blockEvent act = s.onPort p fun _ => y := by
  have hport := h.port
  have houtput := h.output
  have hoffers := h.offers
  have hpool := h.poolOffers
  obtain ⟨l, hlen, hl, he⟩ := h
  have htodo : e.todo = l := by
    rw [he]
    rfl
  refine s.blockEvent_silent _ hs hact (e.settle_idle (fun t ht => ?_) (by rw [htodo]; omega)) hoffers hpool (by rw [he]; rfl)
  rw [htodo] at ht
  obtain ⟨rfl, hout⟩ | ⟨rfl, hbusy⟩ | ⟨rfl, hstate⟩ | ⟨rfl, hempty, hnone⟩ := hl t ht
  · refine e.idle_output (hout.imp (fun h => ?_) fun h => .inl ?_) <;> rw [houtput] <;> exact h
  · exact e.idle_channel p (Tether.startChannel_busy _ (by rw [hport, hchannel]; exact hbusy))
  · exact e.idle_handIn p (Port.mayHandIn_of_state _ (by rw [hport, hlens]; exact hstate))
  · exact e.idle_examine p (by rw [hport]; exact hqueue hempty) (by rw [hport, hwant]; exact hnone)

end Sys2Proof.Machine
end

section
/-! What the frame assembler makes of image packets, read off as the port they leave (R19, R20, R88, R110 to R122). -/

namespace Sys2Proof.Machine

set_option Elab.async false

section
variable {e e' : Ev} {p : PortId} {ok : Task → Prop} {n : Nat} {y : Port}

/-- A charged packet that is discarded in UP leaves its credit unreturned (R19, R20). -/
theorem Ev.Turns.discarded (h : e.Turns p ok n y e') (hlink : y.tether.link = .up) (hok : ok (.channel p)) :
    e.Turns p ok (n + 1) { y with tether := y.tether.returned } (e'.creditDiscarded p) := by
  have hfirst := h.upd fun x => { x with tether := { x.tether with unreturned := x.tether.unreturned + 1 } }
  obtain ⟨l, hl, hjudge⟩ := Ev.judgeCredit_eq (e'.updTether p fun t => { t with unreturned := t.unreturned + 1 }) p
  have hjudged := (hfirst.upd fun x => { x with tether := x.tether.judged }).tasks (k := l) (m := 1)
    (by obtain rfl | rfl := hl <;> simp [hok]) (by obtain rfl | rfl := hl <;> simp)
  rw [Ev.creditDiscarded, hjudge]
  refine (congrArg (fun t : Tether => e.Turns p ok (n + 1) { y with tether := t }
    { (e'.updTether p fun t => { t with unreturned := t.unreturned + 1 }).updTether p Tether.judged with
      todo := e'.todo ++ l }) ?_).mp hjudged
  have hcount : decide (4 ≤ y.tether.unreturned + 1) = decide (3 ≤ y.tether.unreturned) := by
    rw [decide_eq_decide]
    omega
  simp only [Tether.judged, Tether.returned, Tether.returnDue, hlink, hcount, Nat.succ_pos, decide_true, Bool.true_and,
    Bool.or_assoc]

/-- An open frame, if any, is closed as truncated (R115, R120). -/
theorem Ev.Turns.truncated (h : e.Turns p ok n y e') (hok : ok .output) :
    e.Turns p ok (n + 1) { y with ingress := y.ingress.truncated (y.pool.base + y.pool.surcharge) }
      (e'.truncateFrame p .empty) := by
  have hport := h.port
  cases hrecord : y.ingress.record with
  | empty =>
    have hrecord' : (e'.port p).ingress.record = .empty := by rw [hport]; exact hrecord
    simp only [Ingress.truncated, Ev.truncateFrame, hrecord, hrecord']
    exact h.mono (Nat.le_succ n)
  | discarding =>
    have hrecord' : (e'.port p).ingress.record = .discarding := by rw [hport]; exact hrecord
    simp only [Ingress.truncated, Ev.truncateFrame, hrecord, hrecord']
    exact h.mono (Nat.le_succ n)
  | openFrame f =>
    have hrecord' : (e'.port p).ingress.record = .openFrame f := by rw [hport]; exact hrecord
    obtain ⟨e₁, he₁⟩ : ∃ e₁ : Ev, e₁ = e'.countIngress p fun c => { c with truncated := bump c.truncated } := ⟨_, rfl⟩
    have hcounted : e.Turns p ok n { y with ingress := { y.ingress with counters := { y.ingress.counters with
        truncated := bump y.ingress.counters.truncated } } } e₁ := by
      rw [he₁]
      exact h.upd fun x => { x with ingress := { x.ingress with counters := { x.ingress.counters with
        truncated := bump x.ingress.counters.truncated } } }
    have hreserve : (e₁.port p).ingress.reserveOccupied = decide (∃ x ∈ y.ingress.queue, x.reserve = true) := by
      rw [hcounted.port, Ingress.reserveOccupied, ← List.any_eq]
    simp only [Ingress.truncated, Ev.truncateFrame, hrecord, hrecord', ← he₁, hreserve, decide_eq_true_eq]
    by_cases hoccupied : ∃ x ∈ y.ingress.queue, x.reserve = true
    · rw [if_pos hoccupied, if_pos hoccupied]
      exact ((hcounted.upd fun x => { x with ingress := { x.ingress with counters := { x.ingress.counters with
          trailersLost := bump x.ingress.counters.trailersLost } } }).upd fun x => { x with
        ingress := { x.ingress with record := .empty } }).mono (Nat.le_succ n)
    · rw [if_neg hoccupied, if_neg hoccupied, hport]
      exact (hcounted.upd fun x => { x with ingress := { x.ingress with
        record := .empty
        queue := x.ingress.queue ++ [{ reserve := true, packet := trailerPacket { f with
          flags := { f.flags with truncated := true } } y.ingress.expected y.pool.allocation }]
        ingressCount := x.ingress.ingressCount + 1 } }).push hok

/-- The capture sequencer after a FRAME_START: an open exposure closes, or the frame is untriggered (R88). -/
def Capture.frameTaken (c : Capture) (tag : Half) : Capture :=
  match c.exposure with
  | some r =>
      { c with
        exposure := none
        counters := { c.counters with
          closed := bump c.counters.closed
          tagMismatch := if tag = r.tag then c.counters.tagMismatch else bump c.counters.tagMismatch } }
  | none => { c with counters := { c.counters with untriggered := bump c.counters.untriggered } }

theorem Capture.frameTaken_queue (c : Capture) (tag : Half) : (c.frameTaken tag).queue = c.queue := by
  unfold Capture.frameTaken
  split <;> rfl

theorem Capture.frameTaken_want (c : Capture) (tag : Half) : (c.frameTaken tag).want = c.want := by
  unfold Capture.frameTaken
  split <;> rfl

theorem Ev.Turns.startTaken (h : e.Turns p ok n y e') (tag : Half)
    (hexposure : y.capture.exposure ≠ none → ok (.handIn p) ∧ ok (.examine p)) :
    e.Turns p ok (n + 2) { y with capture := y.capture.frameTaken tag } (e'.frameStartTaken p tag) := by
  have hport := h.port
  cases hx : y.capture.exposure with
  | none =>
    have hstart : e'.frameStartTaken p tag = e'.countCapture p fun c => { c with untriggered := bump c.untriggered } := by
      simp only [Ev.frameStartTaken, hport, hx]
    have htaken : y.capture.frameTaken tag = { y.capture with counters := { y.capture.counters with
        untriggered := bump y.capture.counters.untriggered } } := by
      simp only [Capture.frameTaken, hx]
    rw [hstart, htaken]
    exact (h.upd fun x => { x with capture := { x.capture with counters := { x.capture.counters with
      untriggered := bump x.capture.counters.untriggered } } }).mono (by omega)
  | some r =>
    obtain ⟨hhand, hexamine⟩ := hexposure (by simp [hx])
    have hstart : e'.frameStartTaken p tag = (e'.countCapture p fun c => { c with
        closed := bump c.closed
        tagMismatch := if tag = r.tag then c.tagMismatch else bump c.tagMismatch }).closeExposure p := by
      simp only [Ev.frameStartTaken, hport, hx]
    have htaken : y.capture.frameTaken tag = { y.capture with
        exposure := none
        counters := { y.capture.counters with
          closed := bump y.capture.counters.closed
          tagMismatch := if tag = r.tag then y.capture.counters.tagMismatch else bump y.capture.counters.tagMismatch } } := by
      simp only [Capture.frameTaken, hx]
    rw [hstart, htaken]
    exact (((h.upd fun x => { x with capture := { x.capture with counters := { x.capture.counters with
      closed := bump x.capture.counters.closed
      tagMismatch := if tag = r.tag then x.capture.counters.tagMismatch else bump x.capture.counters.tagMismatch } } }).upd
      fun x => { x with capture := { x.capture with exposure := none } }).push hhand).push hexamine

/-- A port whose frame record a FRAME_START has opened (R88, R114). -/
def Port.frameOpened (x : Port) (k : UpPacket) (now : Word) : Port :=
  { x with
    tether := { x.tether with occupied := x.tether.occupied + 1 }
    capture := x.capture.frameTaken k.c
    ingress := { x.ingress with
      queue := x.ingress.queue ++ [{ reserve := false, packet := k.hubPacket false }]
      ingressCount := x.ingress.ingressCount + 1, expected := 1
      record := .openFrame (openRecord k x.capture.exposure x.lens now)
      counters := { x.ingress.counters with opened := bump x.ingress.counters.opened } } }

/-- A packet kept in a credited slot (R110 to R112). -/
theorem Ev.Turns.kept (h : e.Turns p ok n y e') (k : HubPacket) (hok : ok .output) :
    e.Turns p ok (n + 1) { y with
      tether := { y.tether with occupied := y.tether.occupied + 1 }
      ingress := y.ingress.place { reserve := false, packet := k } } (e'.keepPacket p k) :=
  ((h.upd fun x => { x with ingress := x.ingress.place { reserve := false, packet := k } }).upd fun x => { x with
    tether := { x.tether with occupied := x.tether.occupied + 1 } }).push hok

/-- A GOOD FRAME_START opens a frame (R88, R114). -/
theorem Ev.Turns.opened (h : e.Turns p ok n y e') (k : UpPacket) (hok : ok .output)
    (hexposure : y.capture.exposure ≠ none → ok (.handIn p) ∧ ok (.examine p)) :
    e.Turns p ok (n + 3) (y.frameOpened k e.usClock) (e'.openFrame p k) := by
  have hport := h.port
  obtain ⟨e₁, he₁⟩ : ∃ e₁ : Ev, e₁ = (e'.keepPacket p (k.hubPacket false)).updIngress p fun i => { i with
      record := .openFrame (openRecord k y.capture.exposure y.lens e.usClock), expected := 1
      counters := { i.counters with opened := bump i.counters.opened } } := ⟨_, rfl⟩
  have hkept : e.Turns p ok (n + 1) { y with
      tether := { y.tether with occupied := y.tether.occupied + 1 }
      ingress := (y.frameOpened k e.usClock).ingress } e₁ := by
    rw [he₁]
    exact (h.kept (k.hubPacket false) hok).upd fun x => { x with ingress := { x.ingress with
      record := .openFrame (openRecord k y.capture.exposure y.lens e.usClock), expected := 1
      counters := { x.ingress.counters with opened := bump x.ingress.counters.opened } } }
  have hopen : e'.openFrame p k = e₁.frameStartTaken p k.c := by
    rw [he₁, ← hport, ← h.usClock]
    rfl
  rw [hopen]
  exact hkept.startTaken k.c hexposure

/-- A packet that finds no frame open raises its counter (R122). -/
def Ingress.strayed (i : Ingress) : Ingress :=
  match i.record with
  | .discarding => { i with counters := { i.counters with discardedPackets := bump i.counters.discardedPackets } }
  | .empty => { i with counters := { i.counters with orphans := bump i.counters.orphans } }
  | .openFrame _ => i

theorem Ev.Turns.strayed (h : e.Turns p ok n y e') :
    e.Turns p ok n { y with ingress := y.ingress.strayed } (e'.countStray p) := by
  have hport := h.port
  cases hrecord : y.ingress.record with
  | empty =>
    have hstray : e'.countStray p = e'.countIngress p fun c => { c with orphans := bump c.orphans } := by
      simp only [Ev.countStray, hport, hrecord]
    have hcount : y.ingress.strayed
        = { y.ingress with counters := { y.ingress.counters with orphans := bump y.ingress.counters.orphans } } := by
      simp only [Ingress.strayed, hrecord]
    rw [hstray, hcount]
    exact h.upd fun x => { x with ingress := { x.ingress with counters := { x.ingress.counters with
      orphans := bump x.ingress.counters.orphans } } }
  | discarding =>
    have hstray : e'.countStray p = e'.countIngress p fun c => { c with discardedPackets := bump c.discardedPackets } := by
      simp only [Ev.countStray, hport, hrecord]
    have hcount : y.ingress.strayed = { y.ingress with counters := { y.ingress.counters with
        discardedPackets := bump y.ingress.counters.discardedPackets } } := by
      simp only [Ingress.strayed, hrecord]
    rw [hstray, hcount]
    exact h.upd fun x => { x with ingress := { x.ingress with counters := { x.ingress.counters with
      discardedPackets := bump x.ingress.counters.discardedPackets } } }
  | openFrame f =>
    have hstray : e'.countStray p = e' := by simp only [Ev.countStray, hport, hrecord]
    have hcount : y.ingress.strayed = y.ingress := by simp only [Ingress.strayed, hrecord]
    rw [hstray, hcount]
    exact h

theorem Ev.Turns.discarding (h : e.Turns p ok n y e') :
    e.Turns p ok n { y with ingress := { y.ingress with
      record := .discarding
      counters := { y.ingress.counters with discarded := bump y.ingress.counters.discarded } } } (e'.enterDiscarding p) :=
  (h.upd fun x => { x with ingress := { x.ingress with record := .discarding } }).upd fun x => { x with
    ingress := { x.ingress with counters := { x.ingress.counters with discarded := bump x.ingress.counters.discarded } } }

end

end Sys2Proof.Machine
end

section
/-! Upstream packets routed to the frame assembler (R4, R5, R19), and what it makes of them. -/

namespace Sys2Proof.Machine

set_option Elab.async false

/-- A class other than ABORTED and MUTILATED has a whole header (R4). -/
theorem headerComplete_of_classify {held : Nat} {ending : PacketEnding} {bytes : List Byte} {cls : PacketClass}
    (h : classify held ending bytes = cls) (hcls : cls = .good ∨ cls = .tooLong) : headerComplete bytes = true := by
  by_contra hshort
  rw [Bool.not_eq_true] at hshort
  unfold classify at h
  split at h
  · subst h
    simp at hcls
  · rw [if_pos (by simp [hshort])] at h
    subst h
    simp at hcls

/-- A GOOD FRAME_START has 16 bytes, a GOOD packet 12 (R4). -/
theorem length_of_good {held : Nat} {ending : PacketEnding} {bytes : List Byte} (h : classify held ending bytes = .good) :
    12 ≤ bytes.length ∧ (byteAt bytes 0 = 0x20 → 16 ≤ bytes.length) := by
  rw [packetsAreClassified] at h
  split_ifs at h with _ _ _ _ hcrc
  push Not at hcrc
  obtain ⟨hshort, _, hstart, _⟩ := hcrc
  exact ⟨hshort, hstart⟩

/-- The tether port after an image packet that is charged a credit (R5, R19). -/
def Tether.charged (t : Tether) (cls : PacketClass) : Tether :=
  { t with marks := bump t.marks, cameraHeld := t.cameraHeld - 1, counters := t.counters.countClass cls }

section
variable {s : State} {p : PortId} {ending : PacketEnding} {bytes : List Byte} {cls : PacketClass}

/-- A GOOD or TOO_LONG image packet is counted, charged and handed to the frame assembler (R4, R5, R19). -/
theorem State.packetEnd_image (ok : Task → Prop) (hlink : (s.port p).tether.link = .up)
    (hheld : 0 < (s.port p).tether.cameraHeld) (hclass : classify (s.port p).tether.cameraHeld ending bytes = cls)
    (hcls : cls = .good ∨ cls = .tooLong) (hrole : (upKind (byteAt bytes 0)).role = .image) :
    ∃ e : Ev, s.begin.packetEnd p ending bytes = e.imagePacket p { cls := cls, packet := readUp bytes, charged := true }
      ∧ s.begin.Turns p ok 0 { s.port p with tether := (s.port p).tether.charged cls } e := by
  have hclass' : classify (s.begin.port p).tether.cameraHeld ending bytes = cls := hclass
  have hroled : roleOf bytes = .image := by rw [roleOf, headerComplete_of_classify hclass hcls]; exact hrole
  obtain ⟨e₁, he₁⟩ : ∃ e₁ : Ev, e₁ = s.begin.countPacket p cls := ⟨_, rfl⟩
  have hmark : ¬ cls = .mutilated := by obtain rfl | rfl := hcls <;> decide
  have hcrc : ¬ (cls = .crcBad ∧ (e₁.port p).feed.power = .full) := by obtain rfl | rfl := hcls <;> simp
  have hcounted : s.begin.Turns p ok 0 { s.port p with tether := { (s.port p).tether with
      marks := bump (s.port p).tether.marks, counters := (s.port p).tether.counters.countClass cls } } e₁ := by
    have hupd := (Ev.Turns.start s.begin p ok).upd fun x => { x with tether := { x.tether with
      marks := if cls = .mutilated then x.tether.marks else bump x.tether.marks
      counters := x.tether.counters.countClass cls } }
    rw [if_neg hmark] at hupd
    rw [he₁]
    exact hupd
  have hcharged : (cls.charges && decide (0 < (e₁.port p).tether.cameraHeld)) = true := by
    rw [hcounted.port, decide_eq_true (by exact hheld)]
    obtain rfl | rfl := hcls <;> rfl
  refine ⟨e₁.updTether p fun t => { t with cameraHeld := t.cameraHeld - 1 }, ?_,
    hcounted.upd fun x => { x with tether := { x.tether with cameraHeld := x.tether.cameraHeld - 1 } }⟩
  refine (if_pos (receiving_of (.inr (.inr hlink)))).trans ?_
  simp only [hclass', ← he₁, hroled, Ev.crcEvidence, if_neg hcrc, Ev.imageRole, hcharged, if_true]

end

/-! ### The frame assembler (R112 to R122) -/

theorem Ingress.truncated_record (i : Ingress) (allocation : Nat) {f : OpenFrame} (h : i.record = .openFrame f) :
    (i.truncated allocation).record = .empty := by
  simp only [Ingress.truncated, h]
  split <;> rfl

theorem Ingress.truncated_of_closed (i : Ingress) (allocation : Nat) (h : i.record = .empty ∨ i.record = .discarding) :
    i.truncated allocation = i := by
  obtain h | h := h <;> simp only [Ingress.truncated, h]

section
variable {e e' : Ev} {p : PortId} {ok : Task → Prop} {y : Port} {k : UpPacket}

/-- A GOOD FRAME_START closes the frame it finds open and opens its own (R114, R115). -/
theorem Ev.Turns.imageStart (h : e.Turns p ok 0 y e') (hkind : k.kind = .frameStart) (hok : ok .output)
    (hexposure : y.capture.exposure ≠ none → ok (.handIn p) ∧ ok (.examine p)) :
    e.Turns p ok 4 (({ y with ingress := y.ingress.truncated (y.pool.base + y.pool.surcharge) } : Port).frameOpened k e.usClock)
      (e'.imagePacket p { cls := .good, packet := k, charged := true }) := by
  have hport := h.port
  cases hrecord : y.ingress.record with
  | openFrame f =>
    have himage : e'.imagePacket p { cls := .good, packet := k, charged := true } =
        (e'.truncateFrame p .empty).openFrame p k := by
      simp only [Ev.imagePacket, hport, hrecord, Ev.goodInFrame, hkind]
    rw [himage]
    exact ((h.truncated hok).opened k hok hexposure)
  | empty =>
    have himage : e'.imagePacket p { cls := .good, packet := k, charged := true } = e'.openFrame p k := by
      simp only [Ev.imagePacket, hport, hrecord, Ev.strayPacket, hkind, true_and, if_true]
    rw [himage, Ingress.truncated_of_closed _ _ (.inl hrecord)]
    exact (h.opened k hok hexposure).mono (by omega)
  | discarding =>
    have himage : e'.imagePacket p { cls := .good, packet := k, charged := true } = e'.openFrame p k := by
      simp only [Ev.imagePacket, hport, hrecord, Ev.strayPacket, hkind, true_and, if_true]
    rw [himage, Ingress.truncated_of_closed _ _ (.inr hrecord)]
    exact (h.opened k hok hexposure).mono (by omega)

/-- A packet that finds no frame open, unless it is a GOOD FRAME_START or a TOO_LONG packet outside DISCARDING, is
counted and discarded (R19, R122). -/
theorem Ev.Turns.imageStray {cls : PacketClass} (h : e.Turns p ok 0 y e')
    (hrecord : y.ingress.record = .empty ∧ cls = .good ∨ y.ingress.record = .discarding)
    (hkind : cls = .good → k.kind ≠ .frameStart) (hlink : y.tether.link = .up) (hok : ok (.channel p)) :
    e.Turns p ok 1 { y with tether := y.tether.returned, ingress := y.ingress.strayed }
      (e'.imagePacket p { cls := cls, packet := k, charged := true }) := by
  have hport := h.port
  have hturns := h.strayed.discarded hlink hok
  have hdiscard : (e'.countStray p).discard p { cls := cls, packet := k, charged := true }
      = (e'.countStray p).creditDiscarded p := if_pos rfl
  have hstart : ¬ (cls = .good ∧ k.kind = .frameStart) := fun hboth => hkind hboth.1 hboth.2
  have hlast : ¬ (cls = .tooLong ∧ (((e'.countStray p).creditDiscarded p).port p).ingress.record = .empty) := by
    rw [hturns.port]
    obtain ⟨_, rfl⟩ | hrecord := hrecord
    · simp
    · simp [Ingress.strayed, hrecord]
  have himage : e'.imagePacket p { cls := cls, packet := k, charged := true } = (e'.countStray p).creditDiscarded p := by
    obtain ⟨hrecord, -⟩ | hrecord := hrecord <;>
      simp only [Ev.imagePacket, hport, hrecord, Ev.strayPacket, if_neg hstart, hdiscard, if_neg hlast]
  rw [himage]
  exact hturns

section
variable {f : OpenFrame} (h : e.Turns p ok 0 y e') (hrecord : y.ingress.record = .openFrame f) (hout : ok .output)
  (hlink : y.tether.link = .up) (hok : ok (.channel p))
include h hrecord hout hlink hok

/-- A GOOD LINE of another frame closes the open frame and leads to DISCARDING (R115, R121, R122). -/
theorem Ev.Turns.imageLineElse (hkind : k.kind = .line) (hnumber : k.b ≠ f.number) :
    e.Turns p ok 2 { y with
      tether := y.tether.returned
      ingress :=
        let i := y.ingress.truncated (y.pool.base + y.pool.surcharge)
        { i with
          record := .discarding
          counters := { i.counters with
            discarded := bump i.counters.discarded, discardedPackets := bump i.counters.discardedPackets } } }
      (e'.imagePacket p { cls := .good, packet := k, charged := true }) := by
  have hport := h.port
  have himage : e'.imagePacket p { cls := .good, packet := k, charged := true }
      = (((e'.truncateFrame p .empty).enterDiscarding p).countStray p).creditDiscarded p := by
    simp only [Ev.imagePacket, hport, hrecord, Ev.goodInFrame, hkind, if_neg hnumber]
    exact if_pos rfl
  rw [himage]
  exact (h.truncated hout).discarding.strayed.discarded hlink hok

/-- A GOOD FRAME_END of another frame closes the open frame and is an orphan (R115, R122). -/
theorem Ev.Turns.imageEndElse (hkind : k.kind = .frameEnd) (hnumber : k.b ≠ f.number) :
    e.Turns p ok 2 { y with
      tether := y.tether.returned
      ingress :=
        let i := y.ingress.truncated (y.pool.base + y.pool.surcharge)
        { i with counters := { i.counters with orphans := bump i.counters.orphans } } }
      (e'.imagePacket p { cls := .good, packet := k, charged := true }) := by
  have hport := h.port
  have himage : e'.imagePacket p { cls := .good, packet := k, charged := true }
      = ((e'.truncateFrame p .empty).countStray p).creditDiscarded p := by
    simp only [Ev.imagePacket, hport, hrecord, Ev.goodInFrame, hkind, if_neg hnumber]
    exact if_pos rfl
  have hstrayed : (y.ingress.truncated (y.pool.base + y.pool.surcharge)).strayed
      = (let i := y.ingress.truncated (y.pool.base + y.pool.surcharge)
        { i with counters := { i.counters with orphans := bump i.counters.orphans } }) := by
    simp only [Ingress.strayed, Ingress.truncated_record _ _ hrecord]
  rw [himage, ← hstrayed]
  exact (h.truncated hout).strayed.discarded hlink hok

/-- A TOO_LONG packet closes the open frame and leads to DISCARDING (R121). -/
theorem Ev.Turns.imageTooLong :
    e.Turns p ok 2 { y with
      tether := y.tether.returned
      ingress :=
        let i := y.ingress.truncated (y.pool.base + y.pool.surcharge)
        { i with record := .discarding, counters := { i.counters with discarded := bump i.counters.discarded } } }
      (e'.imagePacket p { cls := .tooLong, packet := k, charged := true }) := by
  have hport := h.port
  have himage : e'.imagePacket p { cls := .tooLong, packet := k, charged := true }
      = ((e'.truncateFrame p .empty).enterDiscarding p).creditDiscarded p := by
    simp only [Ev.imagePacket, hport, hrecord]
    exact if_pos rfl
  rw [himage]
  exact (h.truncated hout).discarding.discarded hlink hok

end

section
variable {f : OpenFrame} (h : e.Turns p ok 0 y e') (hrecord : y.ingress.record = .openFrame f) (hout : ok .output)
  (hnumber : k.b = f.number) (hsequence : k.a = y.ingress.expected)
  (hlost : y.ingress.counters.linesLost ≤ 4294967295) (hlines : f.lost ≤ 65535)
include hsequence hlost hlines

omit e e' p ok in
/-- The expected sequence number counts no line lost (R117). -/
theorem Ingress.judgeSequence_expected : y.ingress.judgeSequence f k.a = ({ y.ingress with expected := k.a + 1 }, f) := by
  have hgap : sequenceGap y.ingress.expected k.a = 0 := by simp [sequenceGap, hsequence]
  have hcounter : bumpBy 0 y.ingress.counters.linesLost = y.ingress.counters.linesLost := min_eq_left (by exact hlost)
  have hlines' : bumpLines 0 f.lost = f.lost := min_eq_left (by exact hlines)
  rw [Ingress.judgeSequence, hgap]
  simp only [hcounter, hlines', Nat.zero_lt_succ, if_true]

include h hrecord hout hnumber

/-- A GOOD LINE of the open frame is kept (R110, R117). -/
theorem Ev.Turns.imageLine (hkind : k.kind = .line) :
    e.Turns p ok 1 { y with
      tether := { y.tether with occupied := y.tether.occupied + 1 }
      ingress := { y.ingress with
        queue := y.ingress.queue ++ [{ reserve := false, packet := k.hubPacket false }]
        ingressCount := y.ingress.ingressCount + 1, expected := y.ingress.expected + 1
        record := .openFrame { f with received := min (f.received + 1) 65535 } } }
      (e'.imagePacket p { cls := .good, packet := k, charged := true }) := by
  have hport := h.port
  have himage : e'.imagePacket p { cls := .good, packet := k, charged := true } = e'.lineOfFrame p f k := by
    simp only [Ev.imagePacket, hport, hrecord, Ev.goodInFrame, hkind, if_pos hnumber]
  rw [himage, Ev.lineOfFrame, hport, Ingress.judgeSequence_expected hsequence hlost hlines, ← hsequence]
  exact (h.upd fun x => { x with ingress := { y.ingress with
    expected := k.a + 1, record := .openFrame { f with received := bumpLines 1 f.received } } }).kept (k.hubPacket false) hout

/-- A GOOD FRAME_END of the open frame completes it (R118, R119). -/
theorem Ev.Turns.imageEnd (hkind : k.kind = .frameEnd) :
    e.Turns p ok 1 { y with
      tether := { y.tether with occupied := y.tether.occupied + 1 }
      ingress := { y.ingress with
        queue := y.ingress.queue ++ [{
          reserve := false
          packet := trailerPacket { f with lost := lostAtEnd f k.c.toNat } k.a (y.pool.base + y.pool.surcharge) }]
        ingressCount := y.ingress.ingressCount + 1, expected := y.ingress.expected + 1, record := .empty
        counters := { y.ingress.counters with completed := bump y.ingress.counters.completed } } }
      (e'.imagePacket p { cls := .good, packet := k, charged := true }) := by
  have hport := h.port
  have himage : e'.imagePacket p { cls := .good, packet := k, charged := true } = e'.completeFrame p f k := by
    simp only [Ev.imagePacket, hport, hrecord, Ev.goodInFrame, hkind, if_pos hnumber]
  rw [himage, Ev.completeFrame, hport, Ingress.judgeSequence_expected hsequence hlost hlines, ← hsequence]
  exact (h.upd fun x => { x with ingress := { y.ingress with
    expected := k.a + 1, record := .empty
    counters := { y.ingress.counters with completed := bump y.ingress.counters.completed } } }).kept _ hout

end

end

end Sys2Proof.Machine
end

section
/-! Image packets (R5, R19, R88, R109 to R122): what each makes of its port. -/

namespace Sys2Proof.Machine

set_option Elab.async false

/-- The frame record and the capture sequencer that a FRAME_START is stated to leave are those it leaves (R88, R114). -/
theorem State.frameOpens_spec {s : State} {p : PortId} {bytes : List Byte} {g : OpenFrame} {c : Capture}
    (h : s.frameOpens p bytes g c) (hlength : 16 ≤ bytes.length) :
    g = openRecord (readUp bytes) (s.port p).capture.exposure (s.port p).lens s.usClock
      ∧ c = (s.port p).capture.frameTaken (halfAt bytes 6)
      ∧ ((s.port p).capture.exposure ≠ none → (s.port p).lens.state ≠ .moveWait
        ∧ (s.port p).capture.queue = [] ∧ (s.port p).capture.want = none) := by
  have hused : wordAt (readUp bytes).payload 0 = wordAt bytes 8 := wordAt_upPayload (by omega)
  obtain ⟨hnumber, hexposure, hstart, hreceived, hlost, hdamaged, hheld, hcase⟩ := h
  obtain ⟨number, trigger, step, preset, flags, held, exposureUsed, start, received, lost, damaged⟩ := g
  dsimp only at hnumber hexposure hstart hreceived hlost hdamaged hheld hcase
  subst hnumber hexposure hstart hreceived hlost hdamaged hheld
  obtain ⟨hnone, rfl, rfl, rfl, rfl, rfl⟩ | ⟨y, hsome, hqueue, hwant, hlens, rfl, rfl, rfl, rfl, rfl⟩ := hcase
  · refine ⟨?_, by simp only [Capture.frameTaken, hnone], fun h => absurd hnone h⟩
    simp only [openRecord, hnone, hused, Bool.decide_or]
    rfl
  · refine ⟨?_, by simp only [Capture.frameTaken, hsome], fun _ => ⟨hlens, hqueue, hwant⟩⟩
    simp only [openRecord, hsome, hused, ne_eq, decide_not]
    rfl

/-- A kept FRAME_START, as a hub packet (R109). -/
theorem readUp_start {bytes : List Byte} (hcode : byteAt bytes 0 = 0x20) (hlength : 16 ≤ bytes.length) :
    (readUp bytes).hubPacket false = { kind := .frameStart, frame := halfAt bytes 2, sequence := byteAt bytes 1
                                       damaged := false, payload := (bytes.drop 8).take 4 } := by
  have hkind : (readUp bytes).kind = .frameStart := readUp_kind hcode
  have hpayload : (readUp bytes).keptPayload = (bytes.drop 8).take 4 := by
    rw [UpPacket.keptPayload, if_pos hkind]
    exact (List.take_take ..).trans (by rw [min_eq_left (by omega)])
  rw [UpPacket.hubPacket, hkind, hpayload]
  rfl

/-- A kept LINE, as a hub packet (R109). -/
theorem readUp_line {bytes : List Byte} (hcode : byteAt bytes 0 = 0x21) :
    (readUp bytes).hubPacket false = { kind := .line, frame := halfAt bytes 2, sequence := byteAt bytes 1
                                       damaged := false, payload := (bytes.drop 8).take (bytes.length - 12) } := by
  have hkind : (readUp bytes).kind = .line := readUp_kind hcode
  rw [UpPacket.hubPacket, UpPacket.keptPayload, hkind, if_neg (by simp)]
  rfl

theorem execBeacon_eq (s : State) (p : PortId) (hs : s.running) (h : (s.port p).tether.link.receiving = true) :
    exec (.beacon p) s = .next (s.onTether p fun t => { t with marks := bump t.marks }) :=
  congrArg Host.Outcome.next (s.blockEvent_quiet _ hs (e := s.begin.updTether p fun t => { t with marks := bump t.marks })
    (if_pos h))

/-- A packet of less than 8 bytes is MUTILATED: it is counted and is no mark (R4, R5). -/
theorem State.packetEnd_mutilated (s : State) (p : PortId) {ending : PacketEnding} {bytes : List Byte}
    (h : (s.port p).tether.link.receiving = true) (hending : ending ≠ .abortSymbol) (hshort : bytes.length < 8) :
    s.begin.packetEnd p ending bytes
      = s.begin.updTether p fun t => { t with counters := { t.counters with mutilated := bump t.counters.mutilated } } := by
  have hheader : headerComplete bytes = false := decide_eq_false (by omega)
  have hclass : classify (s.begin.port p).tether.cameraHeld ending bytes = .mutilated := by
    rw [classify, if_neg hending, hheader]
    rfl
  have hrole : roleOf bytes = .noRole := by simp [roleOf, hheader]
  refine (if_pos h).trans ?_
  simp only [hclass, hrole, reduceCtorEq, if_false]
  rfl

/-- Settles O42: what the image packets, the BEACON and a MUTILATED packet make of their port. -/
theorem goodImagePacketsAreKept : Obligations.GoodImagePacketsAreKept := by
  intro s p hs
  refine ⟨fun hlink => ?_, fun hdown hquiet => ?_, fun ending bytes hlink hheld hout => ⟨fun hgood => ⟨fun hcode g c hopens => ?_,
    fun hbusy hcode => ⟨fun hrecord => ?_, fun hrecord => ?_, fun f hrecord hnumber => ?_⟩⟩, fun hlong hbusy hcode hrecord => ?_⟩,
    fun ending bytes f hlink hheld hout hgood hrecord hnumber hsequence hlost hlines => ⟨fun hcode => ?_, fun hcode g hg => ?_⟩⟩
  · have hoff : (s.begin.port p).tether.link.receiving = false := by
      obtain h | h := hlink <;> exact congrArg LinkState.receiving h
    refine ⟨congrArg Host.Outcome.next (s.blockEvent_quiet _ hs (if_neg (by simp only [hoff]; decide)) rfl rfl rfl),
      fun ending bytes => congrArg Host.Outcome.next
        (s.blockEvent_quiet _ hs (if_neg (by simp only [hoff]; decide)) rfl rfl rfl)⟩
  · have hon : (s.port p).tether.link.receiving = true := by
      cases h : (s.port p).tether.link <;> simp_all [LinkState.receiving]
    exact ⟨execBeacon_eq s p hs hon, fun ending bytes hending hshort => congrArg Host.Outcome.next
      (s.blockEvent_quiet _ hs (s.packetEnd_mutilated p hon hending hshort))⟩
  · have hlength := (length_of_good hgood).2 hcode
    obtain ⟨hg, hc, hclosed⟩ := State.frameOpens_spec hopens hlength
    obtain ⟨e, hact, h⟩ := State.packetEnd_image (s.begin.restful p) hlink hheld hgood (.inl rfl) (by rw [hcode]; rfl)
    have hturns := h.imageStart (readUp_kind hcode) (.inl ⟨rfl, hout⟩) fun hexposure =>
      ⟨.inr (.inr (.inl ⟨rfl, (hclosed hexposure).1⟩)), .inr (.inr (.inr ⟨rfl, (hclosed hexposure).2⟩))⟩
    refine congrArg Host.Outcome.next ((s.blockEvent_turns p hs hact hturns (by omega) rfl rfl
      ((Capture.frameTaken_queue _ _).trans ·) (Capture.frameTaken_want _ _)).trans (State.onPort_congr s p ?_))
    rw [hg, hc, ← readUp_start hcode hlength]
    rfl
  · obtain ⟨e, hact, h⟩ := State.packetEnd_image (s.begin.restful p) hlink hheld hgood (.inl rfl)
      (by obtain h | h := hcode <;> rw [h] <;> rfl)
    have hturns := h.imageStray (k := readUp bytes) (.inl ⟨hrecord, rfl⟩)
      (fun _ => by obtain h | h := hcode <;> rw [readUp_kind h] <;> decide) hlink (.inr (.inl ⟨rfl, hbusy⟩))
    refine congrArg Host.Outcome.next ((s.blockEvent_turns p hs hact hturns (by omega) rfl rfl id rfl).trans
      (State.onPort_congr s p ?_))
    simp only [Ingress.strayed, hrecord]
    rfl
  · obtain ⟨e, hact, h⟩ := State.packetEnd_image (s.begin.restful p) hlink hheld hgood (.inl rfl)
      (by obtain h | h := hcode <;> rw [h] <;> rfl)
    have hturns := h.imageStray (k := readUp bytes) (cls := .good) (.inr hrecord)
      (fun _ => by obtain h | h := hcode <;> rw [readUp_kind h] <;> decide) hlink (.inr (.inl ⟨rfl, hbusy⟩))
    refine congrArg Host.Outcome.next ((s.blockEvent_turns p hs hact hturns (by omega) rfl rfl id rfl).trans
      (State.onPort_congr s p ?_))
    simp only [Ingress.strayed, hrecord]
    rfl
  · obtain ⟨e, hact, h⟩ := State.packetEnd_image (s.begin.restful p) hlink hheld hgood (.inl rfl)
      (by obtain h | h := hcode <;> rw [h] <;> rfl)
    obtain hcode | hcode := hcode
    · have hturns := h.imageLineElse hrecord (.inl ⟨rfl, hout⟩) hlink (.inr (.inl ⟨rfl, hbusy⟩)) (readUp_kind hcode) hnumber
      refine congrArg Host.Outcome.next ((s.blockEvent_turns p hs hact hturns (by omega) rfl rfl id rfl).trans
        (State.onPort_congr s p ?_))
      rw [if_neg (by rw [hcode]; decide)]
      rfl
    · have hturns := h.imageEndElse hrecord (.inl ⟨rfl, hout⟩) hlink (.inr (.inl ⟨rfl, hbusy⟩)) (readUp_kind hcode) hnumber
      refine congrArg Host.Outcome.next ((s.blockEvent_turns p hs hact hturns (by omega) rfl rfl id rfl).trans
        (State.onPort_congr s p ?_))
      rw [if_pos hcode]
      rfl
  · obtain ⟨e, hact, h⟩ := State.packetEnd_image (s.begin.restful p) hlink hheld hlong (.inr rfl)
      (by obtain h | h | h := hcode <;> rw [h] <;> rfl)
    cases hcase : (s.port p).ingress.record with
    | empty => exact absurd hcase hrecord
    | discarding =>
      have hturns := h.imageStray (k := readUp bytes) (cls := .tooLong) (.inr hcase) (fun h => by cases h) hlink
        (.inr (.inl ⟨rfl, hbusy⟩))
      refine congrArg Host.Outcome.next ((s.blockEvent_turns p hs hact hturns (by omega) rfl rfl id rfl).trans
        (State.onPort_congr s p ?_))
      simp only [Ingress.strayed, hcase]
      rfl
    | openFrame f =>
      have hturns := h.imageTooLong (k := readUp bytes) hcase (.inl ⟨rfl, hout⟩) hlink (.inr (.inl ⟨rfl, hbusy⟩))
      refine congrArg Host.Outcome.next ((s.blockEvent_turns p hs hact hturns (by omega) rfl rfl id rfl).trans
        (State.onPort_congr s p ?_))
      simp only [hcase]
      rfl
  · obtain ⟨e, hact, h⟩ := State.packetEnd_image (s.begin.restful p) hlink hheld hgood (.inl rfl) (by rw [hcode]; rfl)
    have hturns := h.imageLine hrecord (.inl ⟨rfl, hout⟩) hnumber hsequence hlost hlines (readUp_kind hcode)
    refine congrArg Host.Outcome.next ((s.blockEvent_turns p hs hact hturns (by omega) rfl rfl id rfl).trans
      (State.onPort_congr s p ?_))
    rw [readUp_line hcode, ← hnumber]
    rfl
  · obtain ⟨e, hact, h⟩ := State.packetEnd_image (s.begin.restful p) hlink hheld hgood (.inl rfl) (by rw [hcode]; rfl)
    have hturns := h.imageEnd hrecord (.inl ⟨rfl, hout⟩) hnumber hsequence hlost hlines (readUp_kind hcode)
    refine congrArg Host.Outcome.next ((s.blockEvent_turns p hs hact hturns (by omega) rfl rfl id rfl).trans
      (State.onPort_congr s p ?_))
    rw [hg]
    rfl

end Sys2Proof.Machine
end

section
/-! Teardowns confined to one port: what they leave of the other ports, of the time base, of the meter and of the cable
record, and the work they leave (R15, R16, R29, R63, R90, R107, R141). -/

namespace Sys2Proof.Machine

set_option Elab.async false

/-- From e to e' no port but p changes, nor its cable record, the time base or the meter; the work left is a serving
pass or a pick of the output arbiter. -/
structure Ev.Confined (p : PortId) (e e' : Ev) : Prop where
  others : ∀ q, q ≠ p → e'.port q = e.port q
  cable : (e'.port p).cable = (e.port p).cable
  time : e'.time = e.time
  meter : e'.meter = e.meter
  todo : ∀ t ∈ e'.todo, t ∈ e.todo ∨ t = .serve ∨ t = .output

section
variable {α : Type} {p : PortId} {e e' e'' : Ev}

theorem Ev.Confined.refl (p : PortId) (e : Ev) : Ev.Confined p e e := ⟨fun _ _ => rfl, rfl, rfl, rfl, fun _ => .inl⟩

theorem Ev.Confined.trans (h : Ev.Confined p e e') (h' : Ev.Confined p e' e'') : Ev.Confined p e e'' where
  others q hq := (h'.others q hq).trans (h.others q hq)
  cable := h'.cable.trans h.cable
  time := h'.time.trans h.time
  meter := h'.meter.trans h.meter
  todo t ht := (h'.todo t ht).elim (h.todo t) .inr

theorem Ev.Confined.foldl (f : Ev → α → Ev) (h : ∀ e a, Ev.Confined p e (f e a)) (l : List α) (e : Ev) :
    Ev.Confined p e (l.foldl f e) := by
  induction l generalizing e with
  | nil => exact .refl p e
  | cons a l ih => exact (h e a).trans (ih _)

theorem Ev.Confined.updPort (e : Ev) (f : Port → Port) (hf : ∀ x, (f x).cable = x.cable := by intro; rfl) :
    Ev.Confined p e (e.updPort p f) :=
  { Ev.Confined.refl p e with
    others := fun q hq => by simp [Ev.port_updPort, hq]
    cable := by simp [Ev.port_updPort, hf] }

theorem Ev.Confined.push (e : Ev) {t : Task} (ht : t = .serve ∨ t = .output) : Ev.Confined p e (e.push t) :=
  { Ev.Confined.refl p e with
    todo := fun u hu => (List.mem_append.mp hu).imp_right fun h => by rwa [List.mem_singleton.mp h] }

theorem Ev.Confined.offer (e : Ev) (n : Notice) : Ev.Confined p e (e.offer n) := { Ev.Confined.refl p e with }

theorem Ev.Confined.markPower (e : Ev) (c : PowerCause) : Ev.Confined p e (e.markPower p c) := { Ev.Confined.refl p e with }

theorem Ev.Confined.updPool (e : Ev) (f : Pool → Pool) : Ev.Confined p e (e.updPool f) := { Ev.Confined.refl p e with }

theorem Ev.Confined.setRelay (e : Ev) (l : List RelayEntry) : Ev.Confined p e (e.setRelay l) := { Ev.Confined.refl p e with }

theorem Ev.Confined.writeReply (e : Ev) (r : Reply) : Ev.Confined p e (e.writeReply r) := { Ev.Confined.refl p e with }

end

/-! ### The parts of a feed cut -/

theorem Ev.truncateFrame_confined (e : Ev) (p : PortId) (next : FrameRecord) :
    Ev.Confined p e (e.truncateFrame p next) := by
  simp only [Ev.truncateFrame]
  split
  · split
    · exact .trans (.trans (.updPort _ _) (.updPort _ _)) (.updPort _ _)
    · exact .trans (.trans (.updPort _ _) (.updPort _ _)) (.push _ (.inr rfl))
  · exact .refl ..
  · exact .refl ..

theorem Ev.ingressLinkLost_confined (e : Ev) (p : PortId) : Ev.Confined p e (e.ingressLinkLost p) := by
  unfold Ev.ingressLinkLost
  split
  · exact Ev.truncateFrame_confined ..
  · exact .updPort _ _
  · exact .refl ..

theorem Ev.leaveUp_confined (e : Ev) (p : PortId) : Ev.Confined p e (e.leaveUp p) :=
  .trans (.updPort _ _) (Ev.ingressLinkLost_confined _ p)

/-- A link changed while no LIVE shot of the port is in progress (R7, R145). -/
theorem Ev.setLink_confined (e : Ev) (p : PortId) (new : LinkState) (hlive : e.shotFree p) :
    Ev.Confined p e (e.setLink p new) := by
  simp only [Ev.setLink]
  split
  · exact .refl ..
  · rw [Ev.cutLive_none _ p (by exact hlive)]
    split <;> exact .trans (.updPort _ _) (.offer ..)

theorem Ev.enterOff_confined (e : Ev) (p : PortId) (target : LinkState)
    (hlive : e.shotFree p) : Ev.Confined p e (e.enterOff p target) := by
  have hup : Ev.Confined p e (if (e.port p).tether.link = .up then e.leaveUp p else e) := by
    split
    · exact e.leaveUp_confined p
    · exact .refl ..
  exact .trans (.trans (.trans hup (.updPort _ _)) (.updPort _ _))
    (Ev.setLink_confined _ p target fun x => (congrArg Meter.holder hup.meter).trans_ne (hlive x))

theorem Ev.lensAbsent_confined (e : Ev) (p : PortId) : Ev.Confined p e (e.lensAbsent p) := by
  simp only [Ev.lensAbsent, Ev.lensNotice]
  split
  · exact .updPort _ _
  · split
    · exact .updPort _ _
    · exact .trans (.updPort _ _) (.offer ..)

theorem Ev.dispose_confined (e : Ev) (p : PortId) (d : Disposal) (tag : Half) (source : Source) (step : StepRef)
    (preset : Option PresetId) : Ev.Confined p e (e.dispose p d tag source step preset) := by
  cases d with
  | silent => exact .updPort _ _
  | drop reason => exact .trans (.updPort _ _) (.offer ..)

theorem Ev.cutCapture_confined (e : Ev) (p : PortId) (d : Disposal) (notSent : Bool) :
    Ev.Confined p e (e.cutCapture p d notSent) := by
  simp only [Ev.cutCapture]
  refine .trans (.trans ?_ (.foldl _ (fun y t => y.dispose_confined ..) _ _)) (.updPort _ _)
  split
  · exact .refl ..
  · split
    · exact e.dispose_confined ..
    · exact .updPort _ _

theorem Ev.relayAbort_confined (e : Ev) (p : PortId) : Ev.Confined p e (e.relayAbort p) :=
  .trans (.setRelay ..) (.foldl _ (fun y _ => .trans (.writeReply y _) (.updPort _ _)) _ _)

theorem Ev.dropEntry_confined (e : Ev) (p : PortId) : Ev.Confined p e (e.dropEntry p) := by
  unfold Ev.dropEntry
  split
  · exact .trans (.updPool ..) (.push _ (.inl rfl))
  · exact .refl ..

theorem Ev.releaseAllocation_confined (e : Ev) (p : PortId) : Ev.Confined p e (e.releaseAllocation p) :=
  .trans (.trans (.trans (.updPort _ _) (.updPool ..)) (Ev.dropEntry_confined _ p)) (.push _ (.inl rfl))

theorem Ev.cutSupply_confined (e : Ev) (p : PortId) (dest : PowerState) (cause : PowerCause) :
    Ev.Confined p e (e.cutSupply p dest cause) :=
  .trans (.trans (.trans (.updPort _ _) (.updPort _ _)) (.markPower ..)) (Ev.releaseAllocation_confined _ p)

/-! ### What a feed cut leaves of its port -/

/-- A link that has entered DOWN or QUIET has nothing left but its counts and its queue of slots (R16). -/
theorem Ev.enterOff_tether (e : Ev) (p : PortId) (target : LinkState) :
    ∃ t : Tether, ((e.enterOff p target).port p).tether = { t.torn with link := target } := by
  obtain ⟨e₁, he₁⟩ : ∃ e₁ : Ev, e₁ = if (e.port p).tether.link = .up then e.leaveUp p else e := ⟨_, rfl⟩
  obtain ⟨e₂, he₂⟩ : ∃ e₂ : Ev, e₂ = (e₁.updTether p Tether.torn).updLens p fun l => { l with kind := .noLens } := ⟨_, rfl⟩
  have htorn : (e₂.port p).tether = (e₁.port p).tether.torn := by
    rw [he₂, Ev.updLens_port, Ev.updTether_port]
  refine ⟨(e₁.port p).tether, ?_⟩
  have hoff : e.enterOff p target = e₂.setLink p target := by
    rw [he₂, he₁]
    rfl
  rw [hoff]
  simp only [Ev.setLink]
  split
  · next hsame => rw [← hsame, htorn]
  · have hcut (e : Ev) : (e.cutLive p).port p = e.port p := (Ev.cutLive_teardown id e p).kept
    split
    · rw [hcut, Ev.offer_port, Ev.updTether_port, htorn]
    · rw [Ev.offer_port, Ev.updTether_port, htorn]

theorem Ev.relayAbort_relay (e : Ev) (p : PortId) :
    (e.relayAbort p).relay = (e.relay.filter fun r => !r.waitsAt p).map fun r => r.markCut p := by
  have hfold (l : List RelayEntry) (e : Ev) :
      (l.foldl (fun x r => x.relayReply p (r.reply .aborted 0 0 false)) e).relay = e.relay := by
    induction l generalizing e with
    | nil => rfl
    | cons r l ih => exact (ih _).trans rfl
  exact hfold _ _

/-- No camera access of a cut port is unanswered (R141). -/
theorem Ev.relayAbort_answered (e : Ev) (p : PortId) : ∀ a ∈ (e.relayAbort p).relay, a.port = p → a.stage.unanswered = false := by
  intro a ha hport
  rw [e.relayAbort_relay p] at ha
  obtain ⟨r, hr, rfl⟩ := List.mem_map.mp ha
  have hwaits := (List.mem_filter.mp hr).2
  cases hstage : r.stage with
  | held code value w cut =>
    simp only [RelayEntry.markCut, hstage]
    split
    · rfl
    · rw [hstage]
      rfl
  | queued =>
    simp only [RelayEntry.markCut, hstage] at hport
    simp [RelayEntry.waitsAt, hstage, hport, RelayStage.unanswered] at hwaits
  | sent =>
    simp only [RelayEntry.markCut, hstage] at hport
    simp [RelayEntry.waitsAt, hstage, hport, RelayStage.unanswered] at hwaits

/-- A feed cut of a port whose LIVE shot is not in progress, in the blocks that FeedCut does not speak of (R16, R29,
R90, R141, R158). -/
structure Ev.CutClean (p : PortId) (e e' : Ev) : Prop where
  cable : (e'.port p).cable = (e.port p).cable.endSession
  time : e'.time = e.time
  meter : e'.meter = e.meter
  todo : ∀ t ∈ e'.todo, t ∈ e.todo ∨ t = .serve ∨ t = .output
  tether : ∃ (t : Tether) (l : LinkState), (e'.port p).tether = { t.torn with link := l }
  exposure : (e'.port p).capture.exposure = none
  relay : ∀ a ∈ e'.relay, a.port = p → a.stage.unanswered = false

theorem Ev.feedCut_clean (e : Ev) (p : PortId) (dest : PowerState) (cause : PowerCause) (link : LinkState) (d : Disposal)
    (hlive : e.shotFree p) : Ev.CutClean p e (e.feedCut p dest cause link d) := by
  obtain ⟨target, htarget⟩ : ∃ target : LinkState, target = if (e.port p).tether.link = .quiet then .quiet else link := ⟨_, rfl⟩
  obtain ⟨e₁, he₁⟩ : ∃ e₁ : Ev, e₁ = e.cutSupply p dest cause := ⟨_, rfl⟩
  obtain ⟨e₂, he₂⟩ : ∃ e₂ : Ev, e₂ = (e₁.updCable p Cable.endSession).enterOff p target := ⟨_, rfl⟩
  have hsupply : Ev.Confined p e e₁ := he₁ ▸ e.cutSupply_confined p dest cause
  have hoff : Ev.Confined p (e₁.updCable p Cable.endSession) e₂ :=
    he₂ ▸ Ev.enterOff_confined _ p target fun x => (congrArg Meter.holder hsupply.meter).trans_ne (hlive x)
  have hrest := ((e₂.lensAbsent_confined p).trans (Ev.cutCapture_confined _ p d (e.port p).tether.triggerUnsent)).trans
    (Ev.relayAbort_confined _ p)
  have hcut : e.feedCut p dest cause link d
      = ((e₂.lensAbsent p).cutCapture p d (e.port p).tether.triggerUnsent).relayAbort p := by
    rw [he₂, he₁, htarget]
    rfl
  have hall := hoff.trans hrest
  rw [hcut]
  constructor
  case cable => rw [hall.cable, Ev.updCable_port, hsupply.cable]
  case time => exact hall.time.trans hsupply.time
  case meter => exact hall.meter.trans hsupply.meter
  case todo => exact fun t ht => (hall.todo t ht).elim (hsupply.todo t) .inr
  case tether =>
    obtain ⟨t, ht⟩ := Ev.enterOff_tether (e₁.updCable p Cable.endSession) p target
    exact ⟨t, target, by rw [Ev.relayAbort_tether, Ev.cutCapture_tether, Ev.lensAbsent_tether, he₂, ht]⟩
  case exposure => rw [Ev.relayAbort_capture]; simp [Ev.cutCapture]
  case relay => exact Ev.relayAbort_answered _ p

end Sys2Proof.Machine
end

section
/-! Faults answered with CUT or RETRY (R40, R41, R168). -/

namespace Sys2Proof.Machine

set_option Elab.async false

/-- A pick of the output arbiter changes nothing but the output port (R131). -/
theorem Ev.outputServe_eq (e : Ev) : ∃ o : Output, e.outputServe = { e with output := o } := by
  unfold Ev.outputServe
  split
  · exact ⟨e.output, rfl⟩
  · split
    · exact ⟨e.output, rfl⟩
    · next p g _ =>
      unfold Ev.startTransmission
      split
      · exact ⟨e.output, rfl⟩
      · exact ⟨_, rfl⟩

/-- With an empty admission queue, serving passes and picks change nothing but the output port. -/
theorem Ev.settleBy_output (k : Nat) (e : Ev) (hqueue : e.pool.queue = []) (htodo : ∀ t ∈ e.todo, t = .serve ∨ t = .output) :
    ∃ (o : Output) (l : List Task), Ev.settleBy k e = { e with output := o, todo := l } := by
  induction k generalizing e with
  | zero => exact ⟨e.output, e.todo, rfl⟩
  | succ k ih =>
    cases hlist : e.todo with
    | nil => exact ⟨e.output, e.todo, by simp only [Ev.settleBy, hlist]; rw [← hlist]⟩
    | cons t rest =>
      rw [hlist] at htodo
      have hrest : ∀ u ∈ rest, u = .serve ∨ u = .output := fun u hu => htodo u (List.mem_cons_of_mem t hu)
      simp only [Ev.settleBy, hlist]
      obtain rfl | rfl := htodo t List.mem_cons_self
      · obtain ⟨o, l, h⟩ := ih { e with todo := rest } hqueue hrest
        have hserve : ({ e with todo := rest } : Ev).perform .serve = { e with todo := rest } :=
          Ev.serve_nothing _ (by simp [hqueue])
        rw [hserve]
        exact ⟨o, l, h⟩
      · obtain ⟨o', hpick⟩ := ({ e with todo := rest } : Ev).outputServe_eq
        obtain ⟨o, l, h⟩ := ih { e with todo := rest, output := o' } hqueue hrest
        have hperform : ({ e with todo := rest } : Ev).perform .output = { e with todo := rest, output := o' } := hpick
        rw [hperform]
        exact ⟨o, l, h⟩

/-! ### The reaction (R40, R41, R168) -/

theorem PowerState.feedOn_iff (st : PowerState) : st.feedOn = true ↔ st = .boot ∨ st = .fullWait ∨ st = .full := by
  cases st <;> decide

theorem PowerState.reacts_of_feedOn (st : PowerState) : st.feedOn = true → st.reacts = true := by
  cases st <;> decide

theorem Ev.leaveFor_on (e : Ev) (p : PortId) (dest : PowerState) (hon : (e.port p).feed.power.feedOn = true) :
    e.leaveFor p dest = e.feedCut p dest .fault .down (.drop .unavailable) := by
  obtain h | h | h := (PowerState.feedOn_iff _).mp hon <;> simp only [Ev.leaveFor, h]

/-- The state a CUT or a RETRY takes a port to (R40, R41). -/
def Feed.reactionTarget (f : Feed) (r : Reaction) : PowerState := if r = .retry then f.retryTarget else .lockedOut

/-- The feed controller after the reaction (R41). -/
def Feed.reacted (f : Feed) (r : Reaction) (now : Nat) : Feed := if r = .retry then f.retried now else f

theorem Ev.react_cuts (e : Ev) (p : PortId) (kind : FaultKind) {r : Reaction} (hr : r = .cut ∨ r = .retry)
    (hon : (e.port p).feed.power.feedOn = true) :
    e.react p kind r = (e.feedCut p ((e.port p).feed.reactionTarget r) .fault .down (.drop .unavailable)).updFeed p fun f =>
      f.reacted r e.time := by
  obtain rfl | rfl := hr
  · refine (e.leaveFor_on p _ hon).trans (Ev.updFeed_same _ p rfl).symm
  · refine (if_pos (PowerState.reacts_of_feedOn _ hon)).trans ?_
    rw [e.leaveFor_on p _ hon]
    rfl

/-- What the reaction leaves of the feed controller (R29, R41). -/
theorem Feed.reacted_spec (f : Feed) {r : Reaction} (now : Nat) (again : Prop) [Decidable again]
    (hagain : again ↔ r = .retry ∧ f.retry + 1 ≤ f.settings.retryLimit) :
    (((f.cut now).enter (f.reactionTarget r)).reacted r now).power = (if again then .backoff else .lockedOut)
      ∧ (((f.cut now).enter (f.reactionTarget r)).reacted r now).retry = (if again then f.retry + 1 else f.retry)
      ∧ (again → (((f.cut now).enter (f.reactionTarget r)).reacted r now).backoffTimer = some (now + 1000000 * 2 ^ f.retry)) := by
  by_cases hr : r = .retry
  · by_cases hlimit : f.retry + 1 ≤ f.settings.retryLimit
    · have h : again := hagain.mpr ⟨hr, hlimit⟩
      simp [Feed.reacted, Feed.reactionTarget, Feed.retryTarget, Feed.retried, Feed.enter, Feed.cut, Config.backoffUnit, hr,
        hlimit, h]
    · have h : ¬ again := fun h => hlimit (hagain.mp h).2
      simp [Feed.reacted, Feed.reactionTarget, Feed.retryTarget, Feed.retried, Feed.enter, Feed.cut, hr, hlimit, h]
  · have h : ¬ again := fun h => hr (hagain.mp h).1
    simp [Feed.reacted, Feed.reactionTarget, Feed.enter, Feed.cut, hr, h]

/-- The rest of the feed controller keeps what the cut left (R29, R41). -/
theorem Feed.reacted_rest (f : Feed) (r : Reaction) (now : Nat) (dest : PowerState) :
    (((f.cut now).enter dest).reacted r now).limit = 0 ∧ (((f.cut now).enter dest).reacted r now).hold = false
      ∧ (((f.cut now).enter dest).reacted r now).sampleTimer = none
      ∧ (((f.cut now).enter dest).reacted r now).lastCut = some now
      ∧ (((f.cut now).enter dest).reacted r now).settings = f.settings := by
  unfold Feed.reacted
  split
  · unfold Feed.retried
    split <;> exact ⟨rfl, rfl, rfl, rfl, rfl⟩
  · exact ⟨rfl, rfl, rfl, rfl, rfl⟩

/-- A feed cut and the reaction after it, from an event that has counted the fault and changed no other port, are what a
fault answered with CUT or RETRY makes of its port (R29, R41). -/
theorem State.cutBy_of_feedCut (s t : State) (p : PortId) {e e' : Ev} {kind : FaultKind} {r : Reaction} {dest : PowerState}
    (hcut : Ev.FeedCut p dest .fault .down e e') (hclean : Ev.CutClean p e e')
    (hdest : dest = (e.port p).feed.reactionTarget r) (hretry : (e.port p).feed.retry = (s.port p).feed.retry)
    (hsettings : (e.port p).feed.settings = (s.port p).feed.settings)
    (hfaults : (e.port p).cable.faults kind = bump ((s.port p).cable.faults kind))
    (hlink : (e.port p).tether.link = (s.port p).tether.link) (hothers : ∀ q, q ≠ p → e.port q = s.port q)
    (hports : t.ports = (e'.updFeed p fun f => f.reacted r e.time).ports) (htime : t.time = e.time)
    (hrelay : t.relay = e'.relay) (hpool : t.pool = e'.pool) : s.cutBy t p kind r := by
  have hport : t.port p = { e'.port p with feed := (e'.port p).feed.reacted r e.time } :=
    (congrArg (Vector.get · p) hports).trans (modifyAt_get _ _ _)
  have hy : (t.port p).feed = (((e.port p).feed.cut e.time).enter dest).reacted r e.time := by rw [hport, hcut.feed]
  obtain ⟨hpower', hretry', hbackoff⟩ := (e.port p).feed.reacted_spec (r := r) e.time
    (r = .retry ∧ (s.port p).feed.retry + 1 ≤ (s.port p).feed.settings.retryLimit) (by rw [hretry, hsettings])
  rw [← hdest, ← hy] at hpower' hretry' hbackoff
  obtain ⟨hlimit, hhold, hsample, hlast, hsettings'⟩ := (e.port p).feed.reacted_rest r e.time dest
  rw [← hy] at hlimit hhold hsample hlast hsettings'
  rw [hretry] at hretry' hbackoff
  rw [← htime] at hbackoff hlast
  obtain ⟨torn, target, htether⟩ := hclean.tether
  have htether' : (t.port p).tether = { torn.torn with link := target } := by rw [hport, ← htether]
  have htarget : target = if (s.port p).tether.link = .quiet then .quiet else .down := by
    rw [← hlink, ← hcut.tether, htether]
  obtain ⟨stamp, hcutPool⟩ := hcut.pool
  have hadmitted : p ∉ t.pool.admitted := by simp [hpool, hcutPool]
  have hothers' (q : PortId) (hq : q ≠ p) : t.port q = s.port q := by
    rw [← hothers q hq, ← hcut.others q hq]
    exact (congrArg (Vector.get · q) hports).trans (modifyAt_get_other _ _ _ _ hq)
  exact ⟨hpower', hretry', hbackoff, hlimit, hhold, hsample, hlast, hsettings'.trans hsettings,
    (congrArg (fun x => x.pool.base) hport).trans hcut.base, (congrArg (fun x => x.pool.surcharge) hport).trans hcut.surcharge,
    hadmitted, (congrArg Tether.link htether').trans htarget, congrArg Tether.session htether',
    congrArg Tether.outstanding htether', congrArg Tether.queue htether', congrArg Tether.cameraHeld htether',
    (congrArg (fun x => x.lens.state) hport).trans hcut.lens, (congrArg (fun x => x.capture.queue) hport).trans hcut.triggers,
    (congrArg (fun x => x.capture.exposure) hport).trans hclean.exposure, hrelay ▸ hclean.relay,
    (congrArg (fun x => x.cable.faults kind) hport).trans ((congrArg (Cable.faults · kind) hclean.cable).trans hfaults),
    hothers'⟩

/-- A fault whose reaction is CUT or RETRY, raised in an event that has changed no other port: its feed is cut and every
block of the port torn down (R29, R41, R168). -/
theorem State.fault_cuts (s : State) (p : PortId) {act : Ev → Ev} {e : Ev} {kind : FaultKind} {r : Reaction} (hs : s.running)
    (hact : act s.begin = e.raiseFault p kind) (hr : r = .cut ∨ r = .retry) (hshort : kind ≠ .probeShort)
    (hinfeasible : kind ≠ .feedInfeasible) (hreaction : (s.port p).cable.reactions.get kind.index = r)
    (hon : (s.port p).feed.power.feedOn = true) (hqueue : e.pool.queue = []) (htodo : e.todo = []) (hlive : e.shotFree p)
    (hothers : ∀ q, q ≠ p → e.port q = s.port q) (hcable : (e.port p).cable = (s.port p).cable)
    (hpower : (e.port p).feed.power = (s.port p).feed.power) (hretry : (e.port p).feed.retry = (s.port p).feed.retry)
    (hsettings : (e.port p).feed.settings = (s.port p).feed.settings)
    (hlink : (e.port p).tether.link = (s.port p).tether.link) :
    ∃ t, s.blockEvent act = t ∧ t.time = e.time ∧ s.cutBy t p kind r := by
  obtain ⟨e₁, he₁⟩ : ∃ e₁ : Ev, e₁ = (e.countCable p fun c => { c with faults := modifyAt c.faults kind.index bump }).offer
    (.fault p kind r (e.port p).feed.power (e.port p).feed.retry e.msClock) := ⟨_, rfl⟩
  have hcolumn : e₁.port p = { e.port p with cable := { (e.port p).cable with counters := { (e.port p).cable.counters with
      faults := modifyAt (e.port p).cable.counters.faults kind.index bump } } } := by
    rw [he₁, Ev.offer_port, Ev.countCable_port]
  have hraise : e.raiseFault p kind = e₁.react p kind r := by
    have hkind : (e.port p).cable.reactionTo kind = r := by rw [Cable.reactionTo, if_neg hinfeasible, hcable, hreaction]
    have hnot : ¬ (kind = .probeShort ∧ r ≠ .diagnose) := fun h => hshort h.1
    simp only [Ev.raiseFault, Ev.takeFault, hkind, if_neg hnot, he₁]
    rfl
  have hfeed₁ : (e₁.port p).feed = (e.port p).feed := by rw [hcolumn]
  have htodo₁ : e₁.todo = [] := by rw [he₁]; exact htodo
  have hqueue₁ : e₁.pool.queue = [] := by rw [he₁]; exact hqueue
  have hlive₁ : e₁.shotFree p := by rw [he₁]; exact hlive
  have hothers₁ (q : PortId) (hq : q ≠ p) : e₁.port q = s.port q := by
    rw [he₁, Ev.offer_port, ← hothers q hq]
    exact modifyAt_get_other _ _ _ _ hq
  have hfaults₁ : (e₁.port p).cable.faults kind = bump ((s.port p).cable.faults kind) := by
    rw [hcolumn, Cable.faults, modifyAt_get, hcable]
    rfl
  obtain ⟨dest, hdest⟩ : ∃ dest, dest = (e₁.port p).feed.reactionTarget r := ⟨_, rfl⟩
  obtain ⟨e₂, he₂⟩ : ∃ e₂ : Ev, e₂ = e₁.feedCut p dest .fault .down (.drop .unavailable) := ⟨_, rfl⟩
  have hcut : Ev.FeedCut p dest .fault .down e₁ e₂ := he₂ ▸ e₁.feedCut_spec ..
  have hclean : Ev.CutClean p e₁ e₂ := he₂ ▸ e₁.feedCut_clean p dest .fault .down _ hlive₁
  have hact₂ : act s.begin = e₂.updFeed p fun f => f.reacted r e₁.time := by
    rw [hact, hraise, e₁.react_cuts p kind hr (by rw [hfeed₁, hpower]; exact hon), he₂, hdest]
  obtain ⟨stamp, hpool⟩ := hcut.pool
  have hqueue₂ : e₂.pool.queue = [] := by rw [hpool]; exact (congrArg (List.filter _) hqueue₁).trans rfl
  have hwork (t : Task) (ht : t ∈ e₂.todo) : t = .serve ∨ t = .output :=
    (hclean.todo t ht).resolve_left fun h => by rw [htodo₁] at h; cases h
  obtain ⟨o, l, hsettle⟩ := Ev.settleBy_output 512 (e₂.updFeed p fun f => f.reacted r e₁.time) hqueue₂ hwork
  refine ⟨_, s.blockEvent_noticed _ hs hact₂ hsettle rfl rfl, hclean.time.trans (by rw [he₁]; rfl), ?_⟩
  exact State.cutBy_of_feedCut s _ p hcut hclean hdest (by rw [hfeed₁, hretry]) (by rw [hfeed₁, hsettings]) hfaults₁
    (by rw [hcolumn, ← hlink]) hothers₁ rfl hclean.time rfl rfl

/-- The second sample in a row above the limit is an overload (R38). -/
theorem Ev.feedSample_overload (e : Ev) (p : PortId) {current : Half} {d : Nat} (htimer : (e.port p).feed.sampleTimer = some d)
    (habove : (e.port p).feed.limit < current.toNat) (hcount : (e.port p).feed.overCount = 1) :
    e.feedSample p current
      = (((e.reach d).updFeed p fun f => { f with
          lastSample := current, overCount := 0, sampleTimer := some (max e.time d + 1000)
          counters := f.counters.countOverload f.power }).raiseFault p (overloadKind (e.port p).feed.power)) := by
  have hsample : (e.port p).feed.sample current = ({ (e.port p).feed with lastSample := current, overCount := 0 }, true) := by
    rw [Feed.sample, if_neg (by omega), if_pos (by omega)]
  have hreach : (e.reach d).port p = e.port p := Ev.reach_port ..
  refine (Ev.onExpiry_some _ _ htimer).trans ?_
  simp only [hreach, hsample, if_true]
  refine congrArg (Ev.raiseFault · p (overloadKind (e.port p).feed.power)) ?_
  exact (Ev.updFeed_twice (e.reach d) p _ _).trans (Ev.updFeed_congr (e.reach d) p (by rw [hreach]; rfl))

/-- The fault of a link timer (R12, R13). -/
theorem State.timer_cuts (s : State) (p : PortId) {act : Ev → Ev} {f : Tether → Tether} {kind : FaultKind} {r : Reaction}
    {d : Nat} (hs : s.running) (hact : act s.begin = ((s.begin.reach d).updTether p f).raiseFault p kind)
    (hf : (f (s.port p).tether).link = (s.port p).tether.link) (hr : r = .cut ∨ r = .retry) (hshort : kind ≠ .probeShort)
    (hinfeasible : kind ≠ .feedInfeasible) (hreaction : (s.port p).cable.reactions.get kind.index = r)
    (hon : (s.port p).feed.power.feedOn = true) (hqueue : s.pool.queue = []) (hlive : s.shotFree p) :
    ∃ t, s.blockEvent act = t ∧ t.time = max s.time d ∧ s.cutBy t p kind r := by
  have hport : ((s.begin.reach d).updTether p f).port p = { s.port p with tether := f (s.port p).tether } :=
    Ev.updTether_port _ p f
  exact s.fault_cuts p hs hact hr hshort hinfeasible hreaction hon hqueue rfl hlive
    (fun q hq => modifyAt_get_other _ _ _ _ hq) (by rw [hport]) (by rw [hport]) (by rw [hport]) (by rw [hport])
    (by rw [hport]; exact hf)

/-- Settles O39: each fault of a link timer or of a feed sample cuts its port. -/
theorem faultsCutTheFeed : Obligations.FaultsCutTheFeed := by
  intro s p r d hs hon hr hqueue hlive
  refine ⟨fun c timer kind hcase htimer hreaction => ?_, fun kind current hkind htimer habove hcount hreaction => ?_⟩
  · simp only [List.mem_cons, Prod.mk.injEq, List.not_mem_nil, or_false] at hcase
    obtain ⟨rfl, rfl, rfl⟩ | ⟨rfl, rfl, rfl⟩ | ⟨rfl, rfl, rfl⟩ := hcase
    · obtain ⟨t, ht, hcut⟩ := s.timer_cuts p (act := fun e => e.wakeExpired p) hs (Ev.onExpiry_some _ _ htimer) rfl hr
        (by decide) (by decide) hreaction hon hqueue hlive
      exact ⟨t, congrArg Host.Outcome.next ht, hcut⟩
    · obtain ⟨t, ht, hcut⟩ := s.timer_cuts p (act := fun e => e.relockExpired p) hs (Ev.onExpiry_some _ _ htimer) rfl hr
        (by decide) (by decide) hreaction hon hqueue hlive
      exact ⟨t, congrArg Host.Outcome.next ht, hcut⟩
    · obtain ⟨t, ht, hcut⟩ := s.timer_cuts p (act := fun e => e.helloExpired p) hs (Ev.onExpiry_some _ _ htimer) rfl hr
        (by decide) (by decide) hreaction hon hqueue hlive
      exact ⟨t, congrArg Host.Outcome.next ht, hcut⟩
  · have hkinds : kind ≠ .probeShort ∧ kind ≠ .feedInfeasible := by
      rw [hkind]
      split <;> decide
    have hact := s.begin.feedSample_overload p htimer habove hcount
    rw [show overloadKind (s.begin.port p).feed.power = kind from hkind.symm] at hact
    obtain ⟨e, he⟩ : ∃ e : Ev, e = (s.begin.reach d).updFeed p fun f => { f with
      lastSample := current, overCount := 0, sampleTimer := some (max s.time d + 1000)
      counters := f.counters.countOverload f.power } := ⟨_, rfl⟩
    have hport : e.port p = { s.port p with feed := { (s.port p).feed with
        lastSample := current, overCount := 0, sampleTimer := some (max s.time d + 1000)
        counters := (s.port p).feed.counters.countOverload (s.port p).feed.power } } := by
      rw [he, Ev.updFeed_port]
      rfl
    obtain ⟨t, ht, htime, hcut⟩ := s.fault_cuts p (act := fun e => e.feedSample p current) (e := e) hs
      (hact.trans (by rw [he]; rfl)) hr hkinds.1 hkinds.2 hreaction hon (by rw [he]; exact hqueue) (by rw [he]; rfl)
      (by rw [he]; exact hlive) (fun q hq => by rw [he]; exact modifyAt_get_other _ _ _ _ hq) (by rw [hport]) (by rw [hport])
      (by rw [hport]) (by rw [hport]) (by rw [hport])
    exact ⟨t, congrArg Host.Outcome.next ht, htime.trans (by rw [he]; rfl), hcut⟩

end Sys2Proof.Machine
end

section
/-! FEED_KILL (R45, R64, R68): what it makes of each port and of the pool. -/

namespace Sys2Proof.Machine

set_option Elab.async false

/-! ### One port (R45) -/

/-- A port whose feed was on holds nothing after a kill, its lens ABSENT and its link off (R29, R45). -/
def Port.Unfed (x : Port) : Prop :=
  x.pool.base = 0 ∧ x.pool.surcharge = 0 ∧ x.lens.state = .absent ∧ (x.tether.link = .down ∨ x.tether.link = .quiet)

/-- A power state whose port may have an entry in the admission queue (R57). -/
def PowerState.mayWait (st : PowerState) : Prop := st.feedOn = true ∨ st = .bootWait

/-- The pool up to its queue and its list of admitted ports. -/
def Pool.SameBut (q q' : Pool) : Prop :=
  q' = { q with admitted := q'.admitted, queue := q'.queue, stamp := q'.stamp }

theorem Pool.SameBut.trans {q q' q'' : Pool} (h : q.SameBut q') (h' : q'.SameBut q'') : q.SameBut q'' := by
  unfold Pool.SameBut at *
  rw [h', h]

/-- From e to e' the ports gone have been killed, and only they (R45). -/
structure Ev.Halted (gone : List PortId) (e e' : Ev) : Prop where
  others : ∀ q, q ∉ gone → e'.port q = e.port q
  power : ∀ p ∈ gone, (e'.port p).feed.power = .poolHalt
  unfed : ∀ p ∈ gone, (e.port p).feed.power.feedOn = true → (e'.port p).Unfed
  pool : e.pool.SameBut e'.pool
  queue : ∀ a ∈ e'.pool.queue, a ∈ e.pool.queue ∧ (a.port ∈ gone → ¬ (e.port a.port).feed.power.mayWait)
  poolOffers : e'.poolOffers = e.poolOffers
  todo : ∀ t ∈ e'.todo, t ∈ e.todo ∨ t.arbitrates = true

theorem Ev.Halted.none (e : Ev) : e.Halted [] e :=
  ⟨fun _ _ => rfl, by simp, by simp, rfl, fun a ha => ⟨ha, by simp⟩, rfl, fun _ => .inl⟩

/-- Ports killed one after the other. -/
theorem Ev.Halted.append {e e' e'' : Ev} {gone : List PortId} {p : PortId} (h : e.Halted gone e') (h' : e'.Halted [p] e'')
    (hp : p ∉ gone) : e.Halted (gone ++ [p]) e'' where
  others q hq := by
    simp only [List.mem_append, List.mem_singleton, not_or] at hq
    exact (h'.others q (by simpa using hq.2)).trans (h.others q hq.1)
  power q hq := by
    by_cases hqp : q = p
    · exact h'.power q (by simp [hqp])
    · have hq : q ∈ gone := by simpa [hqp] using hq
      rw [h'.others q (by simpa using hqp)]
      exact h.power q hq
  unfed q hq hon := by
    by_cases hqp : q = p
    · exact h'.unfed q (by simp [hqp]) (by rw [h.others q (by rw [hqp]; exact hp)]; exact hon)
    · have hq : q ∈ gone := by simpa [hqp] using hq
      rw [h'.others q (by simpa using hqp)]
      exact h.unfed q hq hon
  pool := h.pool.trans h'.pool
  queue a ha := by
    obtain ⟨ha', hlast⟩ := h'.queue a ha
    obtain ⟨ha₀, hfirst⟩ := h.queue a ha'
    refine ⟨ha₀, fun hgone => ?_⟩
    by_cases hap : a.port = p
    · have hwait := hlast (by simp [hap])
      rwa [h.others _ (by rw [hap]; exact hp)] at hwait
    · exact hfirst (by simpa [hap] using hgone)
  poolOffers := h'.poolOffers.trans h.poolOffers
  todo t ht := (h'.todo t ht).elim (h.todo t) .inr

/-- A port without feed that enters POOL_HALT, its own entry at most taken out of the queue. -/
theorem Ev.setPower_halted (e e' : Ev) (p : PortId) {f : Port → Port} {stamp : Nat} {queue : List AdmissionEntry}
    {work : List Task} (he' : e' = { e.updPort p f with
      pool := { e.pool with queue := queue, stamp := stamp }, todo := e.todo ++ work })
    (hoff : (e.port p).feed.power.feedOn = false)
    (hqueue : ∀ a ∈ queue, a ∈ e.pool.queue ∧ (a.port = p → (e.port p).feed.power ≠ .bootWait))
    (hwork : ∀ t ∈ work, t.arbitrates = true) : e.Halted [p] (e'.setPower p .poolHalt .kill) := by
  have hmid (q : PortId) : e'.port q = if q = p then f (e.port q) else e.port q := by
    rw [he']
    exact Ev.port_updPort e p q f
  have hport (q : PortId) : (e'.setPower p .poolHalt .kill).port q
      = if q = p then { e'.port q with feed := (e'.port q).feed.enter .poolHalt } else e'.port q :=
    Ev.port_updPort e' p q fun x => { x with feed := x.feed.enter .poolHalt }
  have hpool : (e'.setPower p .poolHalt .kill).pool = { e.pool with queue := queue, stamp := stamp } := by
    rw [he']
    rfl
  constructor
  case others =>
    intro q hq
    rw [hport, if_neg (by simpa using hq), hmid, if_neg (by simpa using hq)]
  case power =>
    intro q hq
    rw [hport, if_pos (by simpa using hq)]
    rfl
  case unfed =>
    intro q hq hon
    rw [List.mem_singleton.mp hq, hoff] at hon
    cases hon
  case pool => exact hpool.trans (by rw [hpool])
  case queue =>
    intro a ha
    rw [hpool] at ha
    obtain ⟨hmem, hport⟩ := hqueue a ha
    refine ⟨hmem, fun hp hwait => ?_⟩
    rw [List.mem_singleton.mp hp] at hwait
    exact hwait.elim (fun hon => by rw [hoff] at hon; cases hon) (hport (List.mem_singleton.mp hp))
  case poolOffers =>
    rw [he']
    rfl
  case todo =>
    intro t ht
    rw [he'] at ht
    exact (List.mem_append.mp ht).imp_right (hwork t)

/-- A port whose feed is off leaves its phase and enters POOL_HALT (R45). -/
theorem Ev.offPhase_halted (e : Ev) (p : PortId) (hoff : (e.port p).feed.power.feedOn = false) :
    e.Halted [p] ((e.endOffPhase p).setPower p .poolHalt .kill) := by
  by_cases hboot : (e.port p).feed.power = .bootWait
  · obtain ⟨stamp, work, hwork, hdrop⟩ := e.dropEntry_eq p
    have hend : e.endOffPhase p = (e.dropEntry p).updFigures p PoolPort.clearFigures := by simp only [Ev.endOffPhase, hboot]; rfl
    rw [hend, hdrop]
    refine e.setPower_halted _ p (f := fun x => { x with pool := x.pool.clearFigures }) rfl hoff (fun a ha => ?_) hwork
    obtain ⟨hmem, hother⟩ := List.mem_filter.mp ha
    exact ⟨hmem, fun h => absurd h (of_decide_eq_true hother)⟩
  · refine e.setPower_halted _ p (f := fun x => { x with feed := x.feed.leftPhase e.time }) (stamp := e.pool.stamp)
      (work := []) ?_ hoff
      (fun a ha => ⟨ha, fun _ => hboot⟩) (by simp)
    rw [e.endOffPhase_eq p hboot, List.append_nil]
    rfl

/-- A feed cut into POOL_HALT (R29, R45). -/
theorem Ev.feedCut_halted (e : Ev) (p : PortId) (d : Disposal) :
    e.Halted [p] (e.feedCut p .poolHalt .kill .down d) := by
  have hcut := e.feedCut_spec p .poolHalt .kill .down d
  obtain ⟨stamp, hpool⟩ := hcut.pool
  constructor
  case others => exact fun q hq => hcut.others q (by simpa using hq)
  case power =>
    intro q hq
    rw [List.mem_singleton.mp hq, hcut.feed]
    rfl
  case unfed =>
    intro q hq _
    rw [List.mem_singleton.mp hq]
    refine ⟨hcut.base, hcut.surcharge, hcut.lens, ?_⟩
    rw [hcut.tether]
    split
    · exact .inr rfl
    · exact .inl rfl
  case pool => exact hpool.trans (by rw [hpool])
  case queue =>
    intro a ha
    rw [hpool] at ha
    obtain ⟨hmem, hother⟩ := List.mem_filter.mp ha
    exact ⟨hmem, fun h => absurd (List.mem_singleton.mp h) (of_decide_eq_true hother)⟩
  case poolOffers => exact hcut.poolOffers
  case todo => exact hcut.todo

theorem Ev.killPort_halted (e : Ev) (p : PortId) : e.Halted [p] (e.killPort p) := by
  unfold Ev.killPort
  split
  · exact e.feedCut_halted p _
  · next hoff => exact e.offPhase_halted p (by simpa using hoff)

theorem Ev.Halted.killPorts {e e' : Ev} {gone : List PortId} (l : List PortId) (h : e.Halted gone e')
    (hnodup : (gone ++ l).Nodup) : e.Halted (gone ++ l) (l.foldl Ev.killPort e') := by
  induction l generalizing gone e' with
  | nil => simpa using h
  | cons p l ih =>
    have hp : p ∉ gone := by
      intro hmem
      exact (List.nodup_append.mp hnodup).2.2 p hmem p List.mem_cons_self rfl
    have happend : gone ++ p :: l = (gone ++ [p]) ++ l := by simp
    rw [happend] at hnodup ⊢
    exact ih (h.append (e'.killPort_halted p) hp) hnodup

end Sys2Proof.Machine
end

section
/-! The pool sample that kills (R64, R65, R67, R68): what follows the kill in its event, and the event's end. -/

namespace Sys2Proof.Machine

set_option Elab.async false

/-! ### DERATE after a kill (R65, R67) -/

/-- From e to e' the DERATE state, its counts and its counter may have changed, and work for the arbiters been left. -/
structure Ev.DeratesOnly (e e' : Ev) : Prop where
  ports : e'.ports = e.ports
  feedEnable : e'.pool.feedEnable = e.pool.feedEnable
  tripCount : e'.pool.tripCount = e.pool.tripCount
  queue : e'.pool.queue = e.pool.queue
  killsVoltage : e'.pool.counters.killsVoltage = e.pool.counters.killsVoltage
  killsCurrent : e'.pool.counters.killsCurrent = e.pool.counters.killsCurrent
  todo : ∀ t ∈ e'.todo, t ∈ e.todo ∨ t.arbitrates = true

theorem Ev.DeratesOnly.refl (e : Ev) : e.DeratesOnly e := ⟨rfl, rfl, rfl, rfl, rfl, rfl, fun _ => .inl⟩

theorem Ev.DeratesOnly.serve_offer {e e' : Ev} (h : e.DeratesOnly e') (event : PoolEvent) (l : List PortId) :
    e.DeratesOnly ((e'.push .serve).offerPool event l) where
  ports := h.ports
  feedEnable := h.feedEnable
  tripCount := h.tripCount
  queue := h.queue
  killsVoltage := h.killsVoltage
  killsCurrent := h.killsCurrent
  todo t ht := (List.mem_append.mp ht).elim (h.todo t) fun ht => .inr (by rw [List.mem_singleton.mp ht]; rfl)

/-- With no feed on there is no port to shed (R66). -/
theorem State.shedChoice_none (s : State) (h : ∀ p, (s.port p).feed.power.feedOn = false) : s.shedChoice = none := by
  have hpowered : s.powered = [] := List.filter_eq_nil_iff.mpr fun p _ => by simp [h p]
  rw [State.shedChoice_eq, hpowered]
  rfl

theorem Ev.shedPass_none (k : Nat) (e : Ev) (h : e.shedChoice = none) : Ev.shedPass k e = (e, []) := by
  cases k with
  | zero => rfl
  | succ k =>
    rw [Ev.shedPass]
    simp only [h, ite_self]

theorem Ev.enterDerate_unpowered (e : Ev) (h : ∀ p, (e.port p).feed.power.feedOn = false) : e.DeratesOnly e.enterDerate := by
  rw [Ev.enterDerate_eq e _ rfl, Ev.shedPass_none 8 _ (State.shedChoice_none _ (by exact h))]
  have hmarked : e.DeratesOnly ((e.updPool fun q => { q with derate := true, lowCount := 0, recoveryCount := 0 }).countPool
      fun c => { c with derates := bump c.derates }) := ⟨rfl, rfl, rfl, rfl, rfl, rfl, fun _ => .inl⟩
  exact hmarked.serve_offer .derateEntered []

theorem Ev.leaveDerate_unshed (e : Ev) (h : ∀ p, (e.port p).feed.power ≠ .shed) : e.DeratesOnly e.leaveDerate := by
  have hnone : [] = allPorts.filter fun p => decide ((e.port p).feed.power = .shed) :=
    (List.filter_eq_nil_iff.mpr fun p _ => by simp [h p]).symm
  rw [Ev.leaveDerate_eq e hnone]
  have hmarked : e.DeratesOnly (e.updPool fun q => { q with derate := false, lowCount := 0, recoveryCount := 0 }) :=
    ⟨rfl, rfl, rfl, rfl, rfl, rfl, fun _ => .inl⟩
  exact hmarked.serve_offer .derateLeft []

/-! ### The sample (R64, R68) -/

/-- What a sample does about DERATE, once it has been counted in q (R65, R67). -/
def Ev.derateStep (e : Ev) (q : Pool) : Ev :=
  if q.derate = false ∧ q.lowCount = 5 then e.enterDerate
  else if q.derate ∧ q.recoveryCount = 100 then e.leaveDerate
  else e

theorem Ev.derateStep_only (e : Ev) (q : Pool) (hon : ∀ p, (e.port p).feed.power.feedOn = false)
    (hshed : ∀ p, (e.port p).feed.power ≠ .shed) : e.DeratesOnly (e.derateStep q) := by
  unfold Ev.derateStep
  split
  · exact e.enterDerate_unpowered hon
  · split
    · exact e.leaveDerate_unshed hshed
    · exact .refl e

theorem Ev.derateStep_none (e : Ev) (q : Pool)
    (h : q.derate = false ∧ q.lowCount ≠ 5 ∨ q.derate = true ∧ q.recoveryCount ≠ 100) : e.derateStep q = e := by
  obtain ⟨hderate, hcount⟩ | ⟨hderate, hcount⟩ := h
  · exact (if_neg fun h => hcount h.2).trans (if_neg (by simp [hderate]))
  · exact (if_neg (by simp [hderate])).trans (if_neg fun h => hcount h.2)

theorem Ev.judgePool_kills (e : Ev) {low : Bool} (henable : e.pool.feedEnable = true)
    (hlow : low = decide (e.pool.sampleMv < e.pool.settings.kill)) (hkill : low = true ∨ e.pool.count.tripCount = 2) :
    e.judgePool = ((e.updPool Pool.count).feedKill low).derateStep e.pool.count := by
  have hlow' : decide ((e.updPool Pool.count).pool.sampleMv < (e.updPool Pool.count).pool.settings.kill) = low := hlow.symm
  have hcause : (e.updPool Pool.count).pool.feedEnable = true ∧ (low = true ∨ (e.updPool Pool.count).pool.tripCount = 2) :=
    ⟨henable, hkill⟩
  simp only [Ev.judgePool, hlow', if_pos hcause]
  rfl

end Sys2Proof.Machine
end

section
/-! FEED_KILL (R45, R64, R68, R70): the whole event. -/

namespace Sys2Proof.Machine

set_option Elab.async false

/-- The event in which a kill begins: the enable cleared, its cause counted (R68). -/
def Ev.killBegun (e : Ev) (low : Bool) : Ev :=
  (e.updPool fun q => { q with feedEnable := false, tripCount := 0 }).countPool fun c => c.countKill low

/-- A kill halts the ports of R45, then offers its POOL_EVENT (R68, R70). -/
theorem Ev.feedKill_halted (e : Ev) (low : Bool) {moved : List PortId}
    (hmoved : moved = allPorts.filter fun p => (e.port p).feed.power.killed) :
    ∃ e' : Ev, e.feedKill low = e'.offerPool (if low then .killVoltage else .killCurrent) moved
      ∧ (e.killBegun low).Halted moved e' := by
  subst hmoved
  refine ⟨_, rfl, ?_⟩
  have hnodup : (allPorts.filter fun p => (e.port p).feed.power.killed).Nodup := allPorts_nodup.filter _
  exact (Ev.Halted.none (e.killBegun low)).killPorts _ (by rwa [List.nil_append])

theorem PowerState.killed_iff (st : PowerState) : st.killed = true ↔ st ∈
    [PowerState.probing, .vacant, .bootWait, .boot, .fullWait, .full, .shed] := by
  cases st <;> decide

theorem PowerState.killed_of_mayWait (st : PowerState) (h : st.mayWait) : st.killed = true := by
  obtain h | rfl := h
  · revert h
    cases st <;> decide
  · rfl

/-- After a kill no feed is on and no port is SHED, and no entry waits (R45). -/
theorem Ev.Halted.quiet {e e' : Ev} {moved : List PortId} (h : e.Halted moved e')
    (hmoved : ∀ p, p ∈ moved ↔ (e.port p).feed.power.killed = true)
    (hqueue : ∀ a ∈ e.pool.queue, (e.port a.port).feed.power.mayWait) :
    (∀ p, (e'.port p).feed.power = if p ∈ moved then .poolHalt else (e.port p).feed.power)
      ∧ (∀ p, (e'.port p).feed.power.feedOn = false) ∧ (∀ p, (e'.port p).feed.power ≠ .shed) ∧ e'.pool.queue = [] := by
  have hpower (p : PortId) : (e'.port p).feed.power = if p ∈ moved then .poolHalt else (e.port p).feed.power := by
    split
    · next hp => exact h.power p hp
    · next hp => rw [h.others p hp]
  have hkept (st : PowerState) (hst : st.killed ≠ true) : st.feedOn = false ∧ st ≠ .shed := by
    revert hst
    cases st <;> decide
  have hoff (p : PortId) : (e'.port p).feed.power.feedOn = false ∧ (e'.port p).feed.power ≠ .shed := by
    rw [hpower p]
    split
    · exact ⟨rfl, by decide⟩
    · next hp => exact hkept _ fun h => hp ((hmoved p).mpr h)
  refine ⟨hpower, fun p => (hoff p).1, fun p => (hoff p).2, List.eq_nil_iff_forall_not_mem.mpr fun a ha => ?_⟩
  obtain ⟨hmem, hnot⟩ := h.queue a ha
  have hwait := hqueue a hmem
  exact hnot ((hmoved a.port).mpr (PowerState.killed_of_mayWait _ hwait)) hwait

theorem Pool.count_low {q : Pool} (h : q.derate = false ∧ q.lowCount < 4) :
    q.count.derate = false ∧ q.count.lowCount ≠ 5 := by
  obtain ⟨hderate, hlow⟩ := h
  refine ⟨hderate, ?_⟩
  simp only [Pool.count, hderate, Bool.false_eq_true, if_false]
  split <;> omega

theorem Pool.count_recovery {q : Pool} (h : q.derate = true ∧ q.recoveryCount < 99) :
    q.count.derate = true ∧ q.count.recoveryCount ≠ 100 := by
  obtain ⟨hderate, hrecovery⟩ := h
  refine ⟨hderate, ?_⟩
  simp only [Pool.count, hderate, if_true]
  split <;> omega

/-- Settles O49: the kill first, then DERATE with nothing left to shed or to bring back, then the arbiters. -/
theorem feedKillHaltsThePorts : Obligations.FeedKillHaltsThePorts := by
  intro s v d low moved hs hrun htimer henable hlow hkill hqueue hmoved
  obtain ⟨e, he⟩ : ∃ e : Ev, e = (s.begin.reach d).updPool fun q => { q with
    sampleMv := v.toNat, sampleMa := s.summedCurrent, sampleTimer := some (max s.time d + 1000) } := ⟨_, rfl⟩
  have hpool : e.pool = { s.pool with
      sampleMv := v.toNat, sampleMa := s.summedCurrent, sampleTimer := some (max s.time d + 1000) } := by rw [he]; rfl
  have hports (p : PortId) : e.port p = s.port p := by rw [he]; rfl
  have hmem (p : PortId) : p ∈ moved ↔ (s.port p).feed.power.killed = true := by
    rw [hmoved, List.mem_filter, PowerState.killed_iff, decide_eq_true_eq]
    exact and_iff_right (allPorts_mem p)
  have hmoved' : moved = allPorts.filter fun p => ((e.updPool Pool.count).port p).feed.power.killed := by
    rw [hmoved]
    refine List.filter_congr fun p _ => ?_
    rw [show (e.updPool Pool.count).port p = e.port p from rfl, hports, Bool.eq_iff_iff, decide_eq_true_eq,
      PowerState.killed_iff]
  have htrip : low = true ∨ e.pool.count.tripCount = 2 := by
    refine hkill.imp_right fun ⟨hcount, hover⟩ => ?_
    simp only [Pool.count, hpool, if_pos hover]
    omega
  obtain ⟨e₁, hkilled, hhalted⟩ := (e.updPool Pool.count).feedKill_halted low hmoved'
  obtain ⟨hpower, hoff, hshed, hempty⟩ := hhalted.quiet (fun p => by rw [hmem p, ← hports p]; rfl) fun a ha => by
    rw [show ((e.updPool Pool.count).killBegun low).port a.port = e.port a.port from rfl, hports]
    refine hqueue a ?_
    have ha : a ∈ e.pool.queue := ha
    rwa [hpool] at ha
  obtain ⟨e₂, he₂⟩ : ∃ e₂ : Ev, e₂ = e₁.offerPool (if low then .killVoltage else .killCurrent) moved := ⟨_, rfl⟩
  have hact : s.begin.poolSample v = e₂.derateStep e.pool.count := by
    rw [s.begin.poolSample_run v d htimer hrun, he₂, ← hkilled]
    refine Eq.trans ?_ (e.judgePool_kills (by rw [hpool]; exact henable) (by rw [hpool]; exact hlow) htrip)
    rw [he]
    rfl
  have honly : e₂.DeratesOnly (e₂.derateStep e.pool.count) := by
    refine Ev.derateStep_only _ _ ?_ ?_ <;> rw [he₂]
    · exact hoff
    · exact hshed
  obtain ⟨e₃, he₃⟩ : ∃ e₃ : Ev, e₃ = e₂.derateStep e.pool.count := ⟨_, rfl⟩
  rw [← he₃] at hact honly
  have hqueue₃ : e₃.pool.queue = [] := by rw [honly.queue, he₂]; exact hempty
  have hwork (t : Task) (ht : t ∈ e₃.todo) : t.arbitrates = true := by
    refine (honly.todo t ht).elim (fun ht => ?_) id
    rw [he₂] at ht
    exact (hhalted.todo t ht).resolve_left fun h => by
      have h : t ∈ e.todo := h
      rw [he] at h
      cases h
  have hsettled : e₃.Arbitrated e₃.settle :=
    Ev.settleBy_arbitrated _ _ hwork fun a ha => by rw [hqueue₃] at ha; cases ha
  have hcolumn (p : PortId) : e₃.settle.finish.port p = { e₁.port p with cable := (e₃.settle.port p).cable } := by
    have hport : e₃.port p = e₁.port p := by rw [State.port, honly.ports, he₂]; rfl
    rw [Ev.finish_port, hsettled.columns p, hport]
  have hcounters : e.pool.counters = s.pool.counters := by rw [hpool]
  have hfield {α : Type} (f : Pool → α) (hf : f e₃.pool = f e₂.pool) (hsame : ∀ q q', Pool.SameBut q q' → f q' = f q) :
      f e₃.settle.finish.pool = f ((e.updPool Pool.count).killBegun low).pool := by
    rw [show e₃.settle.finish.pool = e₃.settle.pool from rfl, hsettled.pool, hf, he₂]
    exact hsame _ _ hhalted.pool
  refine ⟨e₃.settle.finish, congrArg Host.Outcome.next ((s.blockEvent_running _ hs).trans
    (congrArg (fun x : Ev => x.settle.finish) hact)), ?_, ?_, ?_, ?_, ?_, fun p => ⟨?_, fun hon => ?_⟩, fun hquiet => ?_⟩
  · exact hfield Pool.feedEnable honly.feedEnable fun q q' h => by rw [h]
  · exact hfield Pool.tripCount honly.tripCount fun q q' h => by rw [h]
  · exact (congrArg Pool.queue hsettled.pool).trans hqueue₃
  · refine (hfield (fun q => q.counters.killsVoltage) honly.killsVoltage fun q q' h => by rw [h]).trans ?_
    rw [← hcounters]
    cases low <;> rfl
  · refine (hfield (fun q => q.counters.killsCurrent) honly.killsCurrent fun q q' h => by rw [h]).trans ?_
    rw [← hcounters]
    cases low <;> rfl
  · rw [hcolumn p]
    refine (hpower p).trans ?_
    rw [show ((e.updPool Pool.count).killBegun low).port p = e.port p from rfl, hports]
  · have hp : p ∈ moved := (hmem p).mpr (PowerState.killed_of_mayWait _ (.inl hon))
    rw [hcolumn p]
    exact hhalted.unfed p hp (by rw [show ((e.updPool Pool.count).killBegun low).port p = e.port p from rfl, hports]; exact hon)
  · have hsame : e₃ = e₂ := he₃.trans (Ev.derateStep_none _ _ (by
      rw [hpool]
      exact hquiet.imp Pool.count_low Pool.count_recovery))
    have hderate : e₃.settle.finish.pool.derate = s.pool.derate := by
      refine (hfield Pool.derate (by rw [hsame]) fun q q' h => by rw [h]).trans ?_
      exact (congrArg Pool.derate hpool).trans rfl
    refine ⟨hderate, (e₃.settle.offers.filterMap (Offer.resolve e₃.settle.before e₃.settle.ports)).foldl Link.join
      e₃.settle.link, ?_⟩
    have hpoolOffers : e₃.settle.poolOffers
        = [(if low then .killVoltage else .killCurrent, v.toNat, s.summedCurrent, moved)] := by
      have hnone : e₁.poolOffers = [] := hhalted.poolOffers.trans (by rw [he]; rfl)
      have hmv : e₁.pool.sampleMv = v.toNat :=
        (congrArg Pool.sampleMv hhalted.pool).trans ((congrArg Pool.sampleMv hpool).trans rfl)
      have hma : e₁.pool.sampleMa = s.summedCurrent :=
        (congrArg Pool.sampleMa hhalted.pool).trans ((congrArg Pool.sampleMa hpool).trans rfl)
      rw [hsettled.poolOffers, hsame, he₂, Ev.offerPool, hnone, hmv, hma]
      rfl
    have hbudget : e₃.settle.pool.effectiveBudget = s.pool.effectiveBudget := by
      have hsettings : e₃.settle.finish.pool.settings = s.pool.settings := by
        refine (hfield Pool.settings (by rw [hsame]) fun q q' h => by rw [h]).trans ?_
        exact (congrArg Pool.settings hpool).trans rfl
      rw [Pool.effectiveBudget, Pool.effectiveBudget, ← hderate, ← hsettings]
      rfl
    rw [Ev.finish_eq, Ev.notices, hpoolOffers, hbudget, List.foldl_append]
    rfl

end Sys2Proof.Machine
end

section
/-! The end of a FULL measurement and of its diagnosis (R143, R145, R156, R172, R173). -/

namespace Sys2Proof.Machine

set_option Elab.async false

/-! ### Judgements (R172) -/

/-- The rows of R172, each by the tests it makes. -/
theorem judge_rows (x : Echo) (dist : Nat) (far u : Bool) (n : Nat) (b : EchoBase) :
    judge { echo := some (x, dist, far), echoing := n, uncalibrated := u } (some b) =
        if x.t1 + 8 < b.tEnd then
          { kind := breakKind x.polarity, distance := some dist, polarity := some x.polarity
            flags := { overRange := far, uncalibrated := u } }
        else if x.t1 ≤ b.tEnd + 8 ∧ x.polarity = b.polarity ∧ (x.amplitude - b.amplitude).natAbs ≤ 150 then
          { kind := .noBreak, distance := none, polarity := none, flags := { uncalibrated := u } }
        else if x.t1 ≤ b.tEnd + 8 then
          { kind := breakKind x.polarity, distance := some dist, polarity := some x.polarity
            flags := { atEnd := true, overRange := far, uncalibrated := u } }
        else { kind := .noBreak, distance := none, polarity := none, flags := { mismatch := true, uncalibrated := u } } := by
  unfold judge
  by_cases hshort : x.t1 + 8 < b.tEnd
  · simp only [if_pos hshort]
  · by_cases hbeyond : b.tEnd + 8 < x.t1
    · have hnot : ¬ x.t1 ≤ b.tEnd + 8 := by omega
      simp only [if_neg hshort, if_pos hbeyond, hnot, false_and, if_false]
    · have hwithin : x.t1 ≤ b.tEnd + 8 := by omega
      simp only [if_neg hshort, if_neg hbeyond, hwithin, true_and, if_true]

/-! ### A diagnosis concluded (R173) -/

/-- A port whose diagnosis has left the queue: its state is NONE and its link DOWN (R16, R173). -/
def Port.undiagnosed (x : Port) : Port :=
  { x with
    tether := { x.tether.torn with link := .down }
    lens := { x.lens with kind := .noLens }
    cable := { x.cable with diag := .clear } }

/-- A QUIET link enters DOWN (R7, R16). -/
theorem Ev.enterOff_quietDown (e : Ev) (p : PortId) (hlink : (e.port p).tether.link = .quiet) :
    e.enterOff p .down = (e.updPort p fun x => { x with
        tether := { x.tether.torn with link := .down }, lens := { x.lens with kind := .noLens } }).offer
      (.linkChange p .quiet .down e.usClock) := by
  obtain ⟨e₁, he₁⟩ : ∃ e₁ : Ev, e₁ = (e.updTether p Tether.torn).updLens p fun l => { l with kind := .noLens } := ⟨_, rfl⟩
  have hlink₁ : (e₁.port p).tether.link = .quiet := by
    rw [he₁, Ev.updLens_port, Ev.updTether_port]
    exact hlink
  have hoff : e.enterOff p .down = e₁.setLink p .down := by
    rw [he₁, Ev.enterOff, if_neg (by rw [hlink]; decide)]
  rw [hoff, e₁.setLink_changed p (by rw [hlink₁]; decide) (by rw [hlink₁]; intro h; cases h), hlink₁, he₁]
  refine congrArg (fun v => ({ e with ports := v } : Ev).offer (.linkChange p .quiet .down e.usClock)) ?_
  simp only [Ev.updTether, Ev.updLens, Ev.updPort, modifyAt_twice]

/-- The only entry of the diagnosis queue leaves it, the link QUIET before (R173). -/
theorem Ev.leaveDiagnosis_eq (e : Ev) (p : PortId) {u : Purpose} {joined : Word}
    (hqueue : e.breaks.queue = [{ port := p, purpose := u, joined := joined }]) (hlink : (e.port p).tether.link = .quiet)
    (hoffered : e.meter.offered = none) :
    e.leaveDiagnosis p = ((e.updBreaks fun b => { b with queue := [], dischargeTimer := none }).updPort p
      Port.undiagnosed).offer (.linkChange p .quiet .down e.usClock) := by
  have hmeter : ({ e.meter with offered := if e.meter.offered = some p then none else e.meter.offered } : Meter) = e.meter := by
    rw [hoffered, if_neg (by simp), ← hoffered]
  have hleave : e.leaveDiagnosis p
      = ((e.updBreaks fun b => { b with queue := [], dischargeTimer := none }).setDiag p .clear).enterOff p .down := by
    have hbreaks (wasHead : Bool) (hhead : wasHead = true) : (e.updBreaks fun b => { b with
        queue := b.queue.filter fun x => decide (x.port ≠ p), dischargeTimer := if wasHead then none else b.dischargeTimer })
          = e.updBreaks fun b => { b with queue := [], dischargeTimer := none } := by
      simp [Ev.updBreaks, hqueue, hhead]
    have hunoffered (e' : Ev) (h : e'.meter = e.meter) :
        (e'.updMeter fun m => { m with offered := if m.offered = some p then none else m.offered }) = e' := by
      rw [Ev.updMeter, h, hmeter, ← h]
    unfold Ev.leaveDiagnosis
    dsimp only
    rw [hbreaks _ (by simp [hqueue]), hunoffered (e.updBreaks fun b => { b with queue := [], dischargeTimer := none })
      rfl]
  rw [hleave, Ev.enterOff_quietDown _ p (by rw [Ev.setDiag, Ev.updCable_port]; exact hlink)]
  refine congrArg (fun v => (({ e.updBreaks fun b => { b with queue := [], dischargeTimer := none } with ports := v } : Ev).offer
    (.linkChange p .quiet .down e.usClock))) ?_
  exact modifyAt_twice e.ports p (fun x => { x with cable := { x.cable with diag := .clear } }) fun x => { x with
    tether := { x.tether.torn with link := .down }, lens := { x.lens with kind := .noLens } }

/-- From e to e' a finding has been written for the port and its only diagnosis has left the queue, the link QUIET
before (R173, R176). -/
structure Ev.Concluded (p : PortId) (f : Finding) (e e' : Ev) : Prop where
  others : ∀ q, q ≠ p → e'.port q = e.port q
  time : e'.time = e.time
  meter : e'.meter = e.meter
  queue : e'.breaks.queue = []
  todo : e'.todo = e.todo
  feed : (e'.port p).feed = (e.port p).feed
  link : (e'.port p).tether.link = .down
  diag : (e'.port p).cable.diag = .clear
  echoBase : (e'.port p).cable.echoBase = (e.port p).cable.echoBase
  resistanceBase : (e'.port p).cable.resistanceBase = (e.port p).cable.resistanceBase
  latest : ∃ n, (e'.port p).cable.latest = some { f with repeats := n } ∧ { f with repeats := n } ∈ e'.breaks.findings

theorem Ev.concluded (e : Ev) (p : PortId) {f : Finding} {u : Purpose} {joined : Word} (hf : f.port = p)
    (hqueue : e.breaks.queue = [{ port := p, purpose := u, joined := joined }]) (hlink : (e.port p).tether.link = .quiet)
    (hoffered : e.meter.offered = none) :
    Ev.Concluded p f e (((e.writeFinding f).countCable p fun c => { c with completed := bump c.completed }).leaveDiagnosis
      p) := by
  subst hf
  obtain ⟨m, b, isNew, ⟨n, rfl⟩, hmem, hbqueue, -, hwrite⟩ := Ev.writeFinding_eq e f
  obtain ⟨e₁, he₁⟩ : ∃ e₁ : Ev, e₁ = (e.writeFinding f).countCable f.port fun c => { c with completed := bump c.completed } :=
    ⟨_, rfl⟩
  have hport₁ : e₁.port f.port = { e.port f.port with cable := { (e.port f.port).cable with
      latest := some { f with repeats := n }
      counters := { (e.port f.port).cable.counters with
        findings := bump (e.port f.port).cable.counters.findings
        completed := bump (e.port f.port).cable.counters.completed } } } := by
    rw [he₁, hwrite, Ev.countCable_port, Ev.offer_port, Ev.updCable_port]
    rfl
  have hothers₁ (q : PortId) (hq : q ≠ f.port) : e₁.port q = e.port q := by
    rw [he₁, hwrite]
    exact (modifyAt_get_other _ _ _ _ hq).trans (modifyAt_get_other _ _ _ _ hq)
  have hbreaks₁ : e₁.breaks = b := by
    rw [he₁, hwrite]
    rfl
  have hleave := e₁.leaveDiagnosis_eq f.port (by rw [hbreaks₁, hbqueue]; exact hqueue) (by rw [hport₁]; exact hlink)
    (by rw [he₁, hwrite]; exact hoffered)
  rw [← he₁, hleave]
  have hport : (((e₁.updBreaks fun b => { b with queue := [], dischargeTimer := none }).updPort f.port Port.undiagnosed).offer
      (.linkChange f.port .quiet .down e₁.usClock)).port f.port = (e₁.port f.port).undiagnosed := modifyAt_get _ _ _
  constructor
  case others => exact fun q hq => (modifyAt_get_other _ _ _ _ hq).trans (hothers₁ q hq)
  case time => rw [he₁, hwrite]; rfl
  case meter => rw [he₁, hwrite]; rfl
  case queue => rfl
  case todo => rw [he₁, hwrite]; rfl
  case feed => rw [hport, Port.undiagnosed, hport₁]
  case link => rw [hport, Port.undiagnosed]
  case diag => rw [hport, Port.undiagnosed]
  case echoBase => rw [hport, Port.undiagnosed, hport₁]
  case resistanceBase => rw [hport, Port.undiagnosed, hport₁]
  case latest =>
    refine ⟨n, by rw [hport, Port.undiagnosed, hport₁], ?_⟩
    have hfindings : e₁.breaks.findings = b.findings := by rw [hbreaks₁]
    exact hfindings ▸ hmem

/-! ### The outcome (R43, R173) -/

/-- The feed controller after the outcome of its diagnosis (R43). -/
def Feed.concluded (f : Feed) (o : DiagOutcome) (now : Nat) : Feed :=
  match o with
  | .lockout => f.enter .lockedOut
  | .retry => (f.enter f.retryTarget).retried now
  | .none => f

theorem Ev.applyOutcome_eq (e : Ev) (p : PortId) (o : DiagOutcome) :
    ∃ l, e.applyOutcome p o = { e.updFeed p fun f => f.concluded o e.time with offers := l } := by
  cases o with
  | lockout => exact ⟨_, rfl⟩
  | retry =>
    refine ⟨_, congrArg (fun v => ({ e with ports := v, offers := _ } : Ev)) ((modifyAt_twice e.ports p
      (fun x => { x with feed := x.feed.enter (e.port p).feed.retryTarget })
      fun x => { x with feed := x.feed.retried e.time }).trans (modifyAt_congr e.ports p rfl))⟩
  | none =>
    refine ⟨e.offers, ?_⟩
    exact congrArg (fun x : Ev => ({ x with offers := e.offers } : Ev)) (e.updFeed_same p rfl).symm

/-- The state an outcome takes a DIAGNOSING port to (R43, R173). -/
theorem Feed.concluded_power (f : Feed) (j : Judgement) (now : Nat) :
    (f.concluded (if f.power = .diagnosing then j.outcome else .none) now).power
      = if f.power ≠ .diagnosing then f.power
        else if (j.kind = .openBreak ∨ j.kind = .short) ∧ j.flags.atEnd = false then .lockedOut
        else if f.retry + 1 ≤ f.settings.retryLimit then .backoff
        else .lockedOut := by
  by_cases hdiagnosing : f.power = .diagnosing
  · rw [if_pos hdiagnosing, if_neg (not_not_intro hdiagnosing), Judgement.outcome]
    split
    · rfl
    · by_cases hretry : f.retry + 1 ≤ f.settings.retryLimit
      · have hretry' : (f.enter .backoff).retry + 1 ≤ (f.enter .backoff).settings.retryLimit := hretry
        simp only [Feed.concluded, Feed.retryTarget, if_pos hretry, Feed.retried, if_pos hretry']
        rfl
      · have hretry' : ¬ (f.enter .lockedOut).retry + 1 ≤ (f.enter .lockedOut).settings.retryLimit := hretry
        simp only [Feed.concluded, Feed.retryTarget, if_neg hretry, Feed.retried, if_neg hretry']
        rfl
  · rw [if_neg hdiagnosing, if_pos hdiagnosing]
    rfl

end Sys2Proof.Machine
end

section
/-! FULL measurements, their judgement and the end of a diagnosis (R143, R145, R156, R172, R173). -/

namespace Sys2Proof.Machine

set_option Elab.async false

theorem Ev.becomeHead_empty (e : Ev) (h : e.breaks.queue = []) : e.becomeHead = e := by
  simp only [Ev.becomeHead, h]

/-- A written finding leaves the feed controller (R176). -/
theorem Ev.writeFinding_feed (e : Ev) (f : Finding) (p : PortId) (g : BreakCounters → BreakCounters) :
    (((e.writeFinding f).countCable p g).port p).feed = (e.port p).feed := by
  obtain ⟨m, b, isNew, -, -, -, -, hwrite⟩ := Ev.writeFinding_eq e f
  rw [Ev.countCable_port, hwrite, Ev.offer_port]
  by_cases hp : p = f.port
  · rw [hp, Ev.updCable_port]
    rfl
  · rw [Ev.updCable_port_other _ _ _ _ hp]
    rfl

/-- The end of a diagnosis that is no learn: its finding, the queue, and the outcome (R173). -/
theorem Ev.endDiagnosis_eq (e : Ev) (p : PortId) {u : Purpose} {joined : Word} {r : FullResult} {j : Judgement}
    (hj : j = judge r (e.port p).cable.echoBase)
    (hqueue : e.breaks.queue = [{ port := p, purpose := u, joined := joined }]) (hlink : (e.port p).tether.link = .quiet)
    (hoffered : e.meter.offered = none) :
    ∃ (e' : Ev) (l : List Offer), Ev.Concluded p (e.newFinding p j.kind j.distance j.polarity .diagnosis j.flags none) e e'
      ∧ e.endDiagnosis p u r = { e'.updFeed p fun f =>
          f.concluded (if (e.port p).feed.power = .diagnosing then j.outcome else .none) e.time with offers := l } := by
  obtain ⟨f, hf⟩ : ∃ f : Finding, f = e.newFinding p j.kind j.distance j.polarity .diagnosis j.flags none := ⟨_, rfl⟩
  obtain ⟨e₁, he₁⟩ : ∃ e₁ : Ev, e₁ = (e.writeFinding f).countCable p fun c => { c with completed := bump c.completed } :=
    ⟨_, rfl⟩
  have hfeed : (e₁.port p).feed = (e.port p).feed := he₁ ▸ e.writeFinding_feed f p _
  obtain ⟨o, ho⟩ : ∃ o : DiagOutcome, o = if (e.port p).feed.power = .diagnosing then j.outcome else .none := ⟨_, rfl⟩
  have hend : e.endDiagnosis p u r = ((e₁.leaveDiagnosis p).applyOutcome p o).offer
      (.diagnosisEnd p (.judged u j.kind j.distance j.polarity j.flags r.echoing o)) := by
    rw [ho, ← hfeed, he₁, hf, hj]
    rfl
  have hconcluded : Ev.Concluded p f e (e₁.leaveDiagnosis p) :=
    he₁ ▸ e.concluded p (by rw [hf]; rfl) hqueue hlink hoffered
  generalize e₁.leaveDiagnosis p = e₂ at hend hconcluded
  obtain ⟨l, houtcome⟩ := e₂.applyOutcome_eq p o
  rw [hconcluded.time] at houtcome
  rw [← ho, ← hf]
  refine ⟨e₂, l ++ [.notice (.diagnosisEnd p (.judged u j.kind j.distance j.polarity j.flags r.echoing o))], hconcluded, ?_⟩
  rw [hend, houtcome]
  rfl

/-- The parts of the baseline after a learn (R156). -/
def Cable.learned (c : Cable) (r : FullResult) : Cable :=
  match r.echo with
  | some (x, d, far) => { c with echoBase := some (learnedBase x d far r.uncalibrated), resistanceBase := none }
  | none => c

/-- The end of a learn: its result, its finding and the queue; a port that is not DIAGNOSING stays as it is (R156,
R173). -/
theorem Ev.endLearn_eq (e : Ev) (p : PortId) {u : Purpose} {joined : Word} {r : FullResult}
    (hqueue : e.breaks.queue = [{ port := p, purpose := u, joined := joined }]) (hlink : (e.port p).tether.link = .quiet)
    (hoffered : e.meter.offered = none) :
    ∃ (e₁ e' : Ev) (f : Finding) (g : Feed → Feed) (l : List Offer) (c : MeterCounters → MeterCounters),
      Ev.Concluded p f e₁ e' ∧ e.endLearn p r = { e'.updFeed p g with offers := l }
        ∧ e₁ = (e.updCable p fun c => c.learned r).countMeter c ∧ ((e.port p).feed.power ≠ .diagnosing → ∀ x, g x = x) := by
  obtain ⟨e₁, he₁⟩ : ∃ e₁ : Ev, e₁ = e.storeLearn p r := ⟨_, rfl⟩
  have hstored : ∃ g : MeterCounters → MeterCounters, e₁ = (e.updCable p fun c => c.learned r).countMeter g := by
    rw [he₁, Ev.storeLearn]
    cases hecho : r.echo with
    | none => exact ⟨_, congrArg (Ev.countMeter · _) (e.updCable_same p (by simp only [Cable.learned, hecho])).symm⟩
    | some x => 
      obtain ⟨x, d, far⟩ := x
      exact ⟨_, congrArg (Ev.countMeter · _) (congrArg (e.updCable p) (funext fun c => by simp only [Cable.learned, hecho]))⟩
  obtain ⟨g, hg⟩ := hstored
  have hport₁ : e₁.port p = { e.port p with cable := (e.port p).cable.learned r } := by
    rw [hg]
    exact Ev.updCable_port e p (Cable.learned · r)
  obtain ⟨f, hf⟩ : ∃ f : Finding, f = e₁.newFinding p (learnJudgement r).kind (learnJudgement r).distance
    (learnJudgement r).polarity .learn (learnJudgement r).flags none := ⟨_, rfl⟩
  obtain ⟨e₂, he₂⟩ : ∃ e₂ : Ev, e₂ = ((e₁.writeFinding f).countCable p fun c =>
    { c with completed := bump c.completed }).leaveDiagnosis p := ⟨_, rfl⟩
  have hconcluded : Ev.Concluded p f e₁ e₂ := he₂ ▸ e₁.concluded p (by rw [hf]; rfl) (by rw [hg]; exact hqueue)
    (by rw [hport₁]; exact hlink) (by rw [hg]; exact hoffered)
  have hlearn : e.endLearn p r = (if (e₂.port p).feed.power = .diagnosing then e₂.probeCheck p .diagnosisEnd else e₂).offer
      (.diagnosisEnd p (learnReport r)) := by
    simp only [Ev.endLearn, Ev.writeJudgement, ← he₁, ← hf, ← he₂]
  have hpower : (e₂.port p).feed.power = (e.port p).feed.power := by rw [hconcluded.feed, hport₁]
  by_cases hdiagnosing : (e.port p).feed.power = .diagnosing
  · have hcheck : e₂.updPort p (fun x => x.checked e₂.pool.feedEnable e₂.time)
        = e₂.updFeed p fun _ => ((e₂.port p).checked e₂.pool.feedEnable e₂.time).feed :=
      congrArg (fun v => ({ e₂ with ports := v } : Ev)) (modifyAt_congr e₂.ports p (Port.checked_feed _ _ _))
    rw [if_pos (hpower.trans hdiagnosing), e₂.probeCheck_eq, hcheck] at hlearn
    exact ⟨e₁, e₂, f, fun _ => ((e₂.port p).checked e₂.pool.feedEnable e₂.time).feed,
      (e₂.offers.filter fun o => !o.isPower p) ++ [Offer.power p .diagnosisEnd]
        ++ [Offer.notice (.diagnosisEnd p (learnReport r))], g,
      hconcluded, hlearn, hg, fun h => absurd hdiagnosing h⟩
  · rw [if_neg (by rw [hpower]; exact hdiagnosing)] at hlearn
    refine ⟨e₁, e₂, f, id, e₂.offers ++ [.notice (.diagnosisEnd p (learnReport r))], g, hconcluded, hlearn.trans ?_, hg,
      fun _ _ => rfl⟩
    exact congrArg (Ev.offer · (.diagnosisEnd p (learnReport r))) (e₂.updFeed_same p rfl).symm

/-! ### The fourth shot (R143, R145, R149) -/

/-- The event in which the fourth shot frees the meter (R149). -/
def Ev.measured (e : Ev) (r : FullResult) : Ev :=
  ((e.updMeter fun m => { m with holder := none }).countMeter fun c =>
    { c with
      fullCompleted := bump c.fullCompleted
      fullNoEcho := if r.echo.isNone then bump c.fullNoEcho else c.fullNoEcho }).push .meter

/-- Fewer than four shots are held (R143, R145). -/
theorem Ev.fullShots_held (e : Ev) (shots : List Samples) {p : PortId} {d : Nat} {led : Bool} {taken : List (Option Echo)}
    (hholder : e.meter.holder = some (.full p led false taken, d)) (hlength : taken.length + shots.length < 4) :
    e.fullShots shots = (e.reach (d - (4 - (taken.length + shots.length)) * 1000)).updMeter fun m =>
      { m with holder := some (.full p led false (taken ++ shots.map (shotEcho 100)), d) } := by
  have htake : (taken ++ shots.map fullShot).take 4 = taken ++ shots.map fullShot :=
    List.take_of_length_le (by simp; omega)
  have hcount : (taken ++ shots.map fullShot).length = taken.length + shots.length := by simp
  simp only [Ev.fullShots, hholder, htake, hcount, if_pos hlength]
  rfl

/-- The fourth shot ends the diagnosis of the only entry by its purpose (R149, R173). -/
theorem Ev.fullShots_done (e : Ev) (p : PortId) {d : Nat} {led : Bool} {taken : List (Option Echo)} {shots : List Samples}
    {u : Purpose} {joined : Word} {r : FullResult} (hholder : e.meter.holder = some (.full p led false taken, d))
    (hlength : taken.length + shots.length = 4)
    (hqueue : e.breaks.queue = [{ port := p, purpose := u, joined := joined }])
    (hr : r = combineShots (taken ++ shots.map (shotEcho 100)) e.meter.timebase (e.kindOf p).velocity) :
    e.fullShots shots = (if u = .learn then ((e.reach d).measured r).endLearn p r
      else ((e.reach d).measured r).endDiagnosis p u r).becomeHead := by
  have htake : (taken ++ shots.map fullShot).take 4 = taken ++ shots.map fullShot :=
    List.take_of_length_le (by simp; omega)
  have hfull : e.fullShots shots = ((e.reach d).measured r).endMeasured p r := by
    have hnot : ¬ (taken ++ shots.map fullShot).length < 4 := by simp; omega
    simp only [Ev.fullShots, hholder, htake, if_neg hnot, hr]
    rfl
  have hqueue' : ((e.reach d).measured r).breaks.queue = [{ port := p, purpose := u, joined := joined }] := hqueue
  rw [hfull]
  cases u <;> simp only [Ev.endMeasured, hqueue', List.find?_cons, decide_true, reduceCtorEq, if_true, if_false]

/-- The end of the event: a meter that nobody waits for stays idle. -/
theorem Ev.settle_measured (e : Ev) (htodo : e.todo = [.meter]) (hcal : e.meter.pendingCal = false)
    (hlive : e.meter.livePlaces = Vector.replicate 8 false) (hoffered : e.meter.offered = none) :
    e.settle = { e with todo := [] } :=
  e.settle_idle (fun t ht => by
    rw [htodo] at ht
    rw [List.mem_singleton.mp ht]
    exact e.idle_meter_unasked hcal hlive hoffered) (by rw [htodo]; decide)

/-- The event of the last shot, once its diagnosis is concluded and the port's feed controller moved (R43, R173). -/
theorem State.measured_ends (s : State) (p : PortId) {act : Ev → Ev} {e e' : Ev} {f : Finding} {g : Feed → Feed}
    {l : List Offer} (hs : s.running) (hact : act s.begin = ({ e'.updFeed p g with offers := l } : Ev).becomeHead)
    (hconcluded : Ev.Concluded p f e e') (htodo : e.todo = [.meter]) (hcal : e.meter.pendingCal = false)
    (hlive : e.meter.livePlaces = Vector.replicate 8 false) (hoffered : e.meter.offered = none) :
    ∃ t, s.blockEvent act = t ∧ t.time = e.time ∧ t.meter = e.meter ∧ t.breaks = e'.breaks
      ∧ t.port p = { e'.port p with feed := g (e'.port p).feed } ∧ ∀ q, q ≠ p → t.port q = e.port q := by
  have hact' : act s.begin = { e'.updFeed p g with offers := l } := hact.trans (Ev.becomeHead_empty _ hconcluded.queue)
  have hsettle := Ev.settle_measured { e'.updFeed p g with offers := l } (hconcluded.todo.trans htodo)
    ((congrArg Meter.pendingCal hconcluded.meter).trans hcal) ((congrArg Meter.livePlaces hconcluded.meter).trans hlive)
    ((congrArg Meter.offered hconcluded.meter).trans hoffered)
  refine ⟨_, s.blockEvent_noticed _ hs hact' hsettle rfl rfl, hconcluded.time, hconcluded.meter, rfl, modifyAt_get _ _ _,
    fun q hq => ?_⟩
  exact (modifyAt_get_other _ _ _ _ hq).trans (hconcluded.others q hq)

/-- Settles O54: the rows of R172, shots held, and the end of the only diagnosis. -/
theorem fullMeasurementsAreJudged : Obligations.FullMeasurementsAreJudged := by
  refine ⟨fun x dist far u n b => ⟨rfl, rfl, rfl, judge_rows x dist far u n b⟩,
    fun s p d led taken shot1 shot2 shot3 shot4 shots hs hholder hshots hlength => ?_,
    fun s p d led u joined taken shot1 shot2 shot3 shot4 shots r j hs hholder hshots hlength hqueue hr hj hlink hcal hlive
      hoffered => ?_⟩
  · subst hshots
    exact congrArg Host.Outcome.next (s.blockEvent_quiet _ hs (Ev.fullShots_held _ _ hholder hlength))
  · subst hshots
    have hact := s.begin.fullShots_done p hholder hlength hqueue hr
    obtain ⟨e, he⟩ : ∃ e : Ev, e = (s.begin.reach d).measured r := ⟨_, rfl⟩
    have hport (q : PortId) : e.port q = s.port q := by rw [he]; rfl
    have hbreaks : e.breaks = s.breaks := by rw [he]; rfl
    have hmeter : e.meter.holder = none ∧ e.meter.pendingCal = false ∧ e.meter.livePlaces = Vector.replicate 8 false
        ∧ e.meter.offered = none := by rw [he]; exact ⟨rfl, hcal, hlive, hoffered⟩
    obtain ⟨hfree, hcal', hlive', hoffered'⟩ := hmeter
    have htime : e.time = max s.time d := by rw [he]; rfl
    have htodo : e.todo = [.meter] := by rw [he]; rfl
    rw [← he] at hact
    by_cases hlearn : u = .learn
    · rw [if_pos hlearn] at hact
      obtain ⟨e₁, e', f, g, l, c, hconcluded, hend, he₁, hkept⟩ := e.endLearn_eq p (r := r) (by rw [hbreaks]; exact hqueue)
        (by rw [hport]; exact hlink) hoffered'
      rw [hend] at hact
      have hport₁ : e₁.port p = { s.port p with cable := (s.port p).cable.learned r } := by
        rw [he₁, ← hport]
        exact Ev.updCable_port e p (Cable.learned · r)
      have hothers₁ (q : PortId) (hq : q ≠ p) : e₁.port q = s.port q := by
        rw [he₁, ← hport]
        exact modifyAt_get_other _ _ _ _ hq
      obtain ⟨t, ht, httime, htmeter, htbreaks, htport, htothers⟩ := s.measured_ends p
        (act := fun e => e.fullShots (shot1 :: [shot2, shot3, shot4].filterMap id)) hs hact hconcluded
        (by rw [he₁]; exact htodo) (by rw [he₁]; exact hcal') (by rw [he₁]; exact hlive') (by rw [he₁]; exact hoffered')
      refine ⟨t, congrArg Host.Outcome.next ht, httime.trans (by rw [he₁]; exact htime), by rw [htmeter, he₁]; exact hfree,
        by rw [htbreaks]; exact hconcluded.queue, by rw [htport]; exact hconcluded.diag, by rw [htport]; exact hconcluded.link,
        fun q hq => (htothers q hq).trans (hothers₁ q hq), fun h => absurd hlearn h, fun _ hpower => ⟨?_, ?_, ?_⟩⟩
      · rw [htport, hkept (by rw [hport]; exact hpower), hconcluded.feed, hport₁]
      · intro hecho
        have hsame : (s.port p).cable.learned r = (s.port p).cable := by simp only [Cable.learned, hecho]
        rw [htport, hconcluded.echoBase, hconcluded.resistanceBase, hport₁, hsame]
        exact ⟨rfl, rfl⟩
      · intro x dist far hecho
        rw [htport, hconcluded.echoBase, hconcluded.resistanceBase, hport₁]
        simp only [Cable.learned, hecho, true_and]
        rfl
    · rw [if_neg hlearn] at hact
      obtain ⟨e', l, hconcluded, hend⟩ := e.endDiagnosis_eq p (r := r) (j := j) (by rw [hport]; exact hj)
        (by rw [hbreaks]; exact hqueue)
        (by rw [hport]; exact hlink) hoffered'
      rw [hend] at hact
      obtain ⟨t, ht, httime, htmeter, htbreaks, htport, htothers⟩ := s.measured_ends p
        (act := fun e => e.fullShots (shot1 :: [shot2, shot3, shot4].filterMap id)) hs hact hconcluded htodo hcal'
          hlive' hoffered'
      obtain ⟨n, hlatest, hmem⟩ := hconcluded.latest
      refine ⟨t, congrArg Host.Outcome.next ht, httime.trans htime, by rw [htmeter]; exact hfree,
        by rw [htbreaks]; exact hconcluded.queue, by rw [htport]; exact hconcluded.diag, by rw [htport]; exact hconcluded.link,
        fun q hq => (htothers q hq).trans (hport q), fun _ => ⟨⟨_, by rw [htport]; exact hlatest, by rw [htbreaks]; exact hmem,
          rfl, rfl, rfl, rfl, rfl⟩, ?_, ?_⟩, fun h => absurd h hlearn⟩
      · rw [htport, ← hport p]
        exact hconcluded.echoBase
      · rw [htport, hconcluded.feed, hport]
        exact Feed.concluded_power _ j _

end Sys2Proof.Machine
end

section
/-! ENTER_CONFIG (R188): what each part of its teardown keeps of the hub and of the port it takes down. -/

namespace Sys2Proof.Machine

set_option Elab.async false

/-! ### The two counts of the ingress buffer (R111) -/

/-- The two counts enclose the queue. -/
def Ingress.Enclosed (i : Ingress) : Prop := i.egressCount + BitVec.ofNat 32 i.queue.length = i.ingressCount

/-- The synthesized trailers that an open frame may still give (R120). -/
def FrameRecord.trailers : FrameRecord → Nat
  | .openFrame _ => 1
  | .empty => 0
  | .discarding => 0

/-- The ingress count has moved by no more than the trailers an open frame gave, and still encloses the queue where it
did. -/
structure Ingress.Advanced (i i' : Ingress) : Prop where
  count : ∃ m, i'.ingressCount = i.ingressCount + BitVec.ofNat 32 m ∧ m + i'.record.trailers ≤ i.record.trailers
  enclosed : i.Enclosed → i'.Enclosed

theorem Ingress.Advanced.refl (i : Ingress) : i.Advanced i := ⟨⟨0, by simp, by simp⟩, id⟩

theorem Ingress.Advanced.trans {i i' i'' : Ingress} (h : i.Advanced i') (h' : i'.Advanced i'') : i.Advanced i'' := by
  obtain ⟨m, hm, hle⟩ := h.count
  obtain ⟨m', hm', hle'⟩ := h'.count
  refine ⟨⟨m + m', ?_, by omega⟩, fun he => h'.enclosed (h.enclosed he)⟩
  rw [hm', hm, BitVec.ofNat_add, BitVec.add_assoc]

/-- A trailer placed as the frame closes (R120). -/
theorem Ingress.Advanced.place {i i' : Ingress} (slot : Slot) (hqueue : i'.queue = i.queue ++ [slot])
    (hcount : i'.ingressCount = i.ingressCount + 1) (hegress : i'.egressCount = i.egressCount)
    (hrecord : i'.record = .empty) (hopen : i.record.trailers = 1) : i.Advanced i' := by
  refine ⟨⟨1, hcount, by rw [hrecord, hopen]; decide⟩, fun he => ?_⟩
  unfold Ingress.Enclosed at he ⊢
  rw [hqueue, hcount, hegress, ← he, List.length_append, BitVec.ofNat_add, ← BitVec.add_assoc]
  rfl

/-- The queue and the counts as they were, the record closed or as it was. -/
theorem Ingress.Advanced.same {i i' : Ingress} (hqueue : i'.queue = i.queue) (hcount : i'.ingressCount = i.ingressCount)
    (hegress : i'.egressCount = i.egressCount) (hrecord : i'.record.trailers ≤ i.record.trailers) : i.Advanced i' := by
  refine ⟨⟨0, by simp [hcount], by omega⟩, fun he => ?_⟩
  unfold Ingress.Enclosed at he ⊢
  rw [hqueue, hcount, hegress, he]

/-! ### What a teardown keeps -/

/-- The settings, the program, the presets and the baseline of a port stay, and its ingress count moves by trailers
only. -/
structure Port.Keeps (x y : Port) : Prop where
  settings : y.feed.settings = x.feed.settings
  enabled : y.feed.enabled = x.feed.enabled
  program : y.capture.program = x.capture.program
  presets : y.lens.presets = x.lens.presets
  echoBase : y.cable.echoBase = x.cable.echoBase
  ingress : x.ingress.Advanced y.ingress

theorem Port.Keeps.refl (x : Port) : x.Keeps x := ⟨rfl, rfl, rfl, rfl, rfl, .refl _⟩

theorem Port.Keeps.trans {x y z : Port} (h : x.Keeps y) (h' : y.Keeps z) : x.Keeps z :=
  ⟨h'.settings.trans h.settings, h'.enabled.trans h.enabled, h'.program.trans h.program, h'.presets.trans h.presets,
    h'.echoBase.trans h.echoBase, h.ingress.trans h'.ingress⟩

/-- The watermark of a HELD answer. -/
def RelayStage.watermark? : RelayStage → Option Word
  | .held _ _ w _ => some w
  | .queued => none
  | .sent => none

/-- The pool up to its queue and allocations, the findings, the kinds, the router, the operating state stay; the relay
only loses entries; work is left for the arbiters only. -/
structure Ev.Calm (e e' : Ev) : Prop where
  pool : e.pool.SameBut e'.pool
  findings : e'.breaks.findings = e.breaks.findings
  kinds : e'.kinds = e.kinds
  router : e'.router = e.router
  opState : e'.link.opState = e.link.opState
  relay : ∀ r ∈ e'.relay, ∃ x ∈ e.relay, x.port = r.port ∧ x.stage.watermark? = r.stage.watermark?
  todo : ∀ t ∈ e'.todo, t ∈ e.todo ∨ t.arbitrates = true

theorem Ev.Calm.refl (e : Ev) : e.Calm e := ⟨rfl, rfl, rfl, rfl, rfl, fun r hr => ⟨r, hr, rfl, rfl⟩, fun _ => .inl⟩

theorem Ev.Calm.trans {e e' e'' : Ev} (h : e.Calm e') (h' : e'.Calm e'') : e.Calm e'' where
  pool := h.pool.trans h'.pool
  findings := h'.findings.trans h.findings
  kinds := h'.kinds.trans h.kinds
  router := h'.router.trans h.router
  opState := h'.opState.trans h.opState
  relay r hr := by
    obtain ⟨x, hx, hport, hmark⟩ := h'.relay r hr
    obtain ⟨y, hy, hport', hmark'⟩ := h.relay x hx
    exact ⟨y, hy, hport'.trans hport, hmark'.trans hmark⟩
  todo t ht := (h'.todo t ht).elim (h.todo t) .inr

/-- From e to e' only port p changes, within what a teardown keeps. -/
structure Ev.Part (p : PortId) (e e' : Ev) : Prop where
  calm : e.Calm e'
  others : ∀ q, q ≠ p → e'.port q = e.port q
  kept : (e.port p).Keeps (e'.port p)
  diag : (e'.port p).cable.diag = (e.port p).cable.diag
  queue : e'.breaks.queue = e.breaks.queue
  livePlaces : e'.meter.livePlaces = e.meter.livePlaces
  offered : e'.meter.offered = e.meter.offered

section
variable {α : Type} {p : PortId} {e e' e'' : Ev}

theorem Ev.Part.refl (p : PortId) (e : Ev) : Ev.Part p e e := ⟨.refl e, fun _ _ => rfl, .refl _, rfl, rfl, rfl, rfl⟩

theorem Ev.Part.trans (h : Ev.Part p e e') (h' : Ev.Part p e' e'') : Ev.Part p e e'' where
  calm := h.calm.trans h'.calm
  others q hq := (h'.others q hq).trans (h.others q hq)
  kept := h.kept.trans h'.kept
  diag := h'.diag.trans h.diag
  queue := h'.queue.trans h.queue
  livePlaces := h'.livePlaces.trans h.livePlaces
  offered := h'.offered.trans h.offered

theorem Ev.Part.foldl (f : Ev → α → Ev) (h : ∀ e a, Ev.Part p e (f e a)) (l : List α) (e : Ev) : Ev.Part p e (l.foldl f e) := by
  induction l generalizing e with
  | nil => exact .refl p e
  | cons a l ih => exact (h e a).trans (ih _)

theorem Ev.Part.updPortAt (e : Ev) (f : Port → Port) (hf : (e.port p).Keeps (f (e.port p)))
    (hdiag : (f (e.port p)).cable.diag = (e.port p).cable.diag) : Ev.Part p e (e.updPort p f) :=
  { Ev.Part.refl p e with
    calm := { Ev.Calm.refl e with }
    others := fun q hq => by simp [Ev.port_updPort, hq]
    kept := by simpa [Ev.port_updPort] using hf
    diag := by simpa [Ev.port_updPort] using hdiag }

theorem Ev.Part.updPort (e : Ev) (f : Port → Port)
    (hf : ∀ x, x.Keeps (f x) ∧ (f x).cable.diag = x.cable.diag := by
      intro x; exact ⟨⟨rfl, rfl, rfl, rfl, rfl, .same rfl rfl rfl (Nat.le_refl _)⟩, rfl⟩) : Ev.Part p e (e.updPort p f) :=
  .updPortAt e f (hf _).1 (hf _).2

theorem Ev.Part.push (e : Ev) {t : Task} (ht : t.arbitrates = true) : Ev.Part p e (e.push t) :=
  { Ev.Part.refl p e with
    calm := { Ev.Calm.refl e with
      todo := fun u hu => (List.mem_append.mp hu).imp_right fun h => by rwa [List.mem_singleton.mp h] } }

theorem Ev.Part.offer (e : Ev) (n : Notice) : Ev.Part p e (e.offer n) :=
  { Ev.Part.refl p e with calm := { Ev.Calm.refl e with } }

theorem Ev.Part.markPower (e : Ev) (c : PowerCause) : Ev.Part p e (e.markPower p c) :=
  { Ev.Part.refl p e with calm := { Ev.Calm.refl e with } }

theorem Ev.Part.updPool (e : Ev) (f : Pool → Pool) (hf : e.pool.SameBut (f e.pool)) : Ev.Part p e (e.updPool f) :=
  { Ev.Part.refl p e with calm := { Ev.Calm.refl e with pool := hf } }

theorem Ev.Part.updMeter (e : Ev) (f : Meter → Meter) (hlive : (f e.meter).livePlaces = e.meter.livePlaces)
    (hoffered : (f e.meter).offered = e.meter.offered) : Ev.Part p e (e.updMeter f) :=
  { Ev.Part.refl p e with calm := { Ev.Calm.refl e with }, livePlaces := hlive, offered := hoffered }

theorem Ev.Part.updOutput (e : Ev) (f : Output → Output) : Ev.Part p e (e.updOutput f) :=
  { Ev.Part.refl p e with calm := { Ev.Calm.refl e with } }

theorem Ev.Part.setRelay (e : Ev) (l : List RelayEntry)
    (hl : ∀ r ∈ l, ∃ x ∈ e.relay, x.port = r.port ∧ x.stage.watermark? = r.stage.watermark?) : Ev.Part p e (e.setRelay l) :=
  { Ev.Part.refl p e with calm := { Ev.Calm.refl e with relay := hl } }

theorem Ev.Part.writeReply (e : Ev) (r : Reply) : Ev.Part p e (e.writeReply r) :=
  { Ev.Part.refl p e with calm := { Ev.Calm.refl e with } }

end

/-! ### The parts of a teardown -/

theorem Ev.relayReply_part (e : Ev) (p : PortId) (r : Reply) : Ev.Part p e (e.relayReply p r) :=
  .trans (.writeReply e r) (.updPort _ _)

theorem Ev.truncateFrame_part (e : Ev) (p : PortId) : Ev.Part p e (e.truncateFrame p .empty) := by
  simp only [Ev.truncateFrame]
  split
  · next f hrecord =>
    obtain ⟨e₁, he₁⟩ : ∃ e₁ : Ev, e₁ = e.countIngress p fun c => { c with truncated := bump c.truncated } := ⟨_, rfl⟩
    have hcounted : Ev.Part p e e₁ := he₁ ▸ .updPort _ _
    have hopen : (e₁.port p).ingress.record.trailers = 1 := by
      rw [he₁, Ev.countIngress_port, hrecord]
      rfl
    rw [← he₁]
    split
    · exact hcounted.trans (.trans (.updPort _ _) (.updPortAt _ _
        ⟨rfl, rfl, rfl, rfl, rfl, .same rfl rfl rfl (Nat.zero_le _)⟩ rfl))
    · exact hcounted.trans (.trans (.updPortAt _ _
        ⟨rfl, rfl, rfl, rfl, rfl, .place _ rfl rfl rfl rfl hopen⟩ rfl) (.push _ rfl))
  · exact .refl ..
  · exact .refl ..

theorem Ev.ingressLinkLost_part (e : Ev) (p : PortId) : Ev.Part p e (e.ingressLinkLost p) := by
  unfold Ev.ingressLinkLost
  split
  · exact e.truncateFrame_part p
  · exact .updPortAt _ _ ⟨rfl, rfl, rfl, rfl, rfl, .same rfl rfl rfl (Nat.zero_le _)⟩ rfl
  · exact .refl ..

theorem Ev.leaveUp_part (e : Ev) (p : PortId) : Ev.Part p e (e.leaveUp p) :=
  .trans (.updPort _ _) (Ev.ingressLinkLost_part _ p)

theorem Ev.cutLive_part (e : Ev) (p : PortId) : Ev.Part p e (e.cutLive p) := by
  unfold Ev.cutLive
  split
  · split
    · exact .trans (.trans (.updMeter _ _ rfl rfl) (.updMeter _ _ rfl rfl)) (.push _ rfl)
    · exact .refl ..
  · exact .refl ..

theorem Ev.setLink_part (e : Ev) (p : PortId) (new : LinkState) : Ev.Part p e (e.setLink p new) := by
  simp only [Ev.setLink]
  split
  · exact .refl ..
  · split
    · exact .trans (.trans (.updPort _ _) (.offer ..)) (Ev.cutLive_part _ p)
    · exact .trans (.updPort _ _) (.offer ..)

theorem Ev.enterOff_part (e : Ev) (p : PortId) (target : LinkState) : Ev.Part p e (e.enterOff p target) := by
  have hup : Ev.Part p e (if (e.port p).tether.link = .up then e.leaveUp p else e) := by
    split
    · exact e.leaveUp_part p
    · exact .refl ..
  exact .trans (.trans (.trans hup (.updPort _ _)) (.updPort _ _)) (Ev.setLink_part _ p target)

theorem Ev.lensAbsent_part (e : Ev) (p : PortId) : Ev.Part p e (e.lensAbsent p) := by
  simp only [Ev.lensAbsent, Ev.lensNotice]
  split
  · exact .updPort _ _
  · split
    · exact .updPort _ _
    · exact .trans (.updPort _ _) (.offer ..)

theorem Ev.dispose_part (e : Ev) (p : PortId) (d : Disposal) (tag : Half) (source : Source) (step : StepRef)
    (preset : Option PresetId) : Ev.Part p e (e.dispose p d tag source step preset) := by
  cases d with
  | silent => exact .updPort _ _
  | drop reason => exact .trans (.updPort _ _) (.offer ..)

theorem Ev.cutCapture_part (e : Ev) (p : PortId) (d : Disposal) (notSent : Bool) :
    Ev.Part p e (e.cutCapture p d notSent) := by
  simp only [Ev.cutCapture]
  refine .trans (.trans ?_ (.foldl _ (fun y t => y.dispose_part ..) _ _)) (.updPort _ _)
  split
  · exact .refl ..
  · split
    · exact e.dispose_part ..
    · exact .updPort _ _

theorem RelayEntry.markCut_kept (r : RelayEntry) (p : PortId) :
    (r.markCut p).port = r.port ∧ (r.markCut p).stage.watermark? = r.stage.watermark? := by
  cases hstage : r.stage with
  | held code value w cut =>
    simp only [RelayEntry.markCut, hstage]
    split
    · exact ⟨rfl, rfl⟩
    · exact ⟨rfl, congrArg _ hstage⟩
  | queued => simp [RelayEntry.markCut, hstage]
  | sent => simp [RelayEntry.markCut, hstage]

theorem Ev.relayAbort_part (e : Ev) (p : PortId) : Ev.Part p e (e.relayAbort p) := by
  refine .trans (.setRelay _ _ fun r hr => ?_) (.foldl _ (fun y _ => y.relayReply_part p _) _ _)
  obtain ⟨x, hx, rfl⟩ := List.mem_map.mp hr
  obtain ⟨hport, hmark⟩ := x.markCut_kept p
  exact ⟨x, List.mem_of_mem_filter hx, hport.symm, hmark.symm⟩

theorem Ev.relayTest_part (e : Ev) (p : PortId) : Ev.Part p e (e.relayTest p) :=
  .trans (.setRelay _ _ fun r hr => ⟨r, List.mem_of_mem_filter hr, rfl, rfl⟩)
    (.foldl _ (fun y _ => y.relayReply_part p _) _ _)

theorem Ev.dropEntry_part (e : Ev) (p : PortId) : Ev.Part p e (e.dropEntry p) := by
  unfold Ev.dropEntry
  split
  · exact .trans (.updPool _ _ (by exact rfl)) (.push _ (by exact rfl))
  · exact .refl ..

theorem Ev.releaseAllocation_part (e : Ev) (p : PortId) : Ev.Part p e (e.releaseAllocation p) :=
  .trans (.trans (.trans (.updPort _ _) (.updPool _ _ (by exact rfl))) (Ev.dropEntry_part _ p)) (.push _ rfl)

theorem Ev.setPower_part (e : Ev) (p : PortId) (st : PowerState) (cause : PowerCause) :
    Ev.Part p e (e.setPower p st cause) :=
  .trans (.updPort _ _) (.markPower ..)

theorem Ev.cutSupply_part (e : Ev) (p : PortId) (dest : PowerState) (cause : PowerCause) :
    Ev.Part p e (e.cutSupply p dest cause) :=
  .trans (.trans (.updPort _ _) (Ev.setPower_part _ p dest cause)) (Ev.releaseAllocation_part _ p)

theorem Ev.endOffPhase_part (e : Ev) (p : PortId) : Ev.Part p e (e.endOffPhase p) := by
  unfold Ev.endOffPhase
  split
  case h_1 => exact .updPort _ _
  case h_2 => exact .updPort _ _
  case h_3 => exact .trans (Ev.dropEntry_part _ p) (.updPort _ _)
  case h_4 => exact .updPort _ _
  all_goals exact .refl ..

theorem Ev.cutNeighbours_part (e : Ev) (p : PortId) (target : LinkState) (d : Disposal) (notSent : Bool) :
    Ev.Part p e (e.cutNeighbours p target d notSent) :=
  .trans (.trans (.trans (.trans (.updPort _ _) (Ev.enterOff_part _ p target)) (Ev.lensAbsent_part _ p))
    (Ev.cutCapture_part _ p d notSent)) (Ev.relayAbort_part _ p)

theorem Ev.feedCut_part (e : Ev) (p : PortId) (dest : PowerState) (cause : PowerCause) (link : LinkState) (d : Disposal) :
    Ev.Part p e (e.feedCut p dest cause link d) :=
  (e.cutSupply_part p dest cause).trans (Ev.cutNeighbours_part _ p _ d _)

end Sys2Proof.Machine
end

section
/-! ENTER_CONFIG at one port (R50, R91, R124, R188): what is left of the port, and of its entries in the relay. -/

namespace Sys2Proof.Machine

set_option Elab.async false

/-- A link that is DOWN with nothing to send and nothing unanswered (R16). -/
structure Tether.Silent (t : Tether) : Prop where
  link : t.link = .down
  channel : t.channel = none
  queue : t.queue = []
  outstanding : t.outstanding = []

/-- A port without feed and without work (R188). -/
structure Port.Quieted (x : Port) : Prop where
  power : x.feed.power = .disabled
  hold : x.feed.hold = false
  retry : x.feed.retry = 0
  invalidCount : x.feed.invalidCount = 0
  triggers : x.capture.queue = []
  exposure : x.capture.exposure = none
  lens : x.lens.state = .absent
  slots : x.ingress.queue = []
  record : x.ingress.record = .empty

/-- The blocks of a port that a lost frame leaves alone. -/
def Port.besideIngress (x : Port) : Feed × Capture × Lens × Tether := (x.feed, x.capture, x.lens, x.tether)

theorem Ev.ingressLinkLost_besideIngress (e : Ev) (p : PortId) :
    ((e.ingressLinkLost p).port p).besideIngress = (e.port p).besideIngress := by
  unfold Ev.ingressLinkLost
  split
  · simp only [Ev.truncateFrame]
    split
    · split <;> simp [Port.besideIngress]
    · rfl
    · rfl
  · simp [Port.besideIngress]
  · rfl

/-! ### The flush (R124) -/

theorem Ev.flush_part (e : Ev) (p : PortId) : Ev.Part p e (e.flush p) := by
  have hempty : (e.port p).ingress.Advanced { (e.port p).ingress with
      queue := [], egressCount := (e.port p).ingress.egressCount + BitVec.ofNat 32 (e.port p).ingress.queue.length
      record := .empty, expected := 1
      counters := { (e.port p).ingress.counters with
        flushed := bumpBy (e.port p).ingress.queue.length (e.port p).ingress.counters.flushed } } :=
    ⟨⟨0, (BitVec.add_zero _).symm, Nat.zero_le _⟩, fun he => (BitVec.add_zero _).trans he⟩
  exact .trans (.trans (.trans (.updPortAt e _ ⟨rfl, rfl, rfl, rfl, rfl, hempty⟩ rfl) (.updPort _ _)) (.updOutput ..))
    (Ev.relayTest_part _ p)

/-- The blocks of the port that a relay reply leaves alone. -/
def Port.besideRelay (x : Port) : Port := { x with relay := {} }

theorem Ev.relayTest_port (e : Ev) (p : PortId) : ((e.relayTest p).port p).besideRelay = (e.port p).besideRelay := by
  unfold Ev.relayTest
  rw [Ev.relayReplies_eq]
  exact (congrArg Port.besideRelay
    (modifyAt_get e.ports p fun x => { x with relay := x.relay.countReplies _ })).trans rfl

theorem Ev.relayTest_relay (e : Ev) (p : PortId) :
    (e.relayTest p).relay = e.relay.filter fun r => !r.released p (e.port p).ingress.egressCount := by
  unfold Ev.relayTest
  rw [Ev.relayReplies_eq]
  rfl

/-- A port with its queue flushed. -/
def Port.flushed (x : Port) : Port :=
  { x with
    ingress := { x.ingress with
      queue := [], egressCount := x.ingress.egressCount + BitVec.ofNat 32 x.ingress.queue.length
      record := .empty, expected := 1
      counters := { x.ingress.counters with flushed := bumpBy x.ingress.queue.length x.ingress.counters.flushed } }
    tether := { x.tether with occupied := 0, unreturned := 0 } }

/-- The event whose relay a flush tests. -/
def Ev.emptied (e : Ev) (p : PortId) : Ev := (e.updPort p Port.flushed).updOutput fun o => o.noteFlush p

theorem Ev.flush_eq (e : Ev) (p : PortId) : e.flush p = (e.emptied p).relayTest p := by
  have hports : modifyAt (modifyAt e.ports p fun x => { x with ingress := { x.ingress with
        queue := [], egressCount := x.ingress.egressCount + BitVec.ofNat 32 (e.port p).ingress.queue.length
        record := .empty, expected := 1
        counters := { x.ingress.counters with
          flushed := bumpBy (e.port p).ingress.queue.length x.ingress.counters.flushed } } }) p
        (fun x => { x with tether := { x.tether with occupied := 0, unreturned := 0 } })
      = modifyAt e.ports p Port.flushed :=
    (modifyAt_twice ..).trans (modifyAt_congr e.ports p rfl)
  exact congrArg (fun v => (({ e with ports := v } : Ev).updOutput fun o => o.noteFlush p).relayTest p) hports

theorem Ev.flush_port (e : Ev) (p : PortId) : ((e.flush p).port p).besideRelay = (e.port p).flushed.besideRelay := by
  rw [e.flush_eq p, Ev.relayTest_port]
  exact congrArg Port.besideRelay (modifyAt_get ..)

theorem Ev.flush_relay (e : Ev) (p : PortId) :
    (e.flush p).relay = e.relay.filter fun r => !r.released p (e.port p).flushed.ingress.egressCount := by
  rw [e.flush_eq p, Ev.relayTest_relay]
  have hport : (e.emptied p).port p = (e.port p).flushed := modifyAt_get ..
  rw [hport]
  rfl

/-- An answer that no slot is left before is released (R138). -/
theorem Ev.flush_releases (e : Ev) (p : PortId) (henclosed : (e.port p).ingress.Enclosed)
    (hheld : ∀ r ∈ e.relay, r.port = p →
      ∃ w, r.stage.watermark? = some w ∧ ((e.port p).ingress.ingressCount - w).toNat < 2147483648) :
    ∀ r ∈ (e.flush p).relay, r.port ≠ p := by
  intro r hr hport
  rw [e.flush_relay p] at hr
  obtain ⟨hmem, hkept⟩ := List.mem_filter.mp hr
  obtain ⟨w, hmark, hnear⟩ := hheld r hmem hport
  have hegress : (e.port p).flushed.ingress.egressCount = (e.port p).ingress.ingressCount := henclosed
  rw [hegress] at hkept
  cases hstage : r.stage with
  | held code value w' cut =>
    rw [hstage] at hmark
    obtain rfl : w' = w := Option.some.inj hmark
    have hreached : reached (e.port p).ingress.ingressCount w' = true := decide_eq_true hnear
    simp [RelayEntry.released, hport, hstage, hreached] at hkept
  | queued => rw [hstage] at hmark; exact absurd hmark (by simp [RelayStage.watermark?])
  | sent => rw [hstage] at hmark; exact absurd hmark (by simp [RelayStage.watermark?])

end Sys2Proof.Machine
end

section
/-! ENTER_CONFIG over the ports (R188, step 4): each port in its turn becomes DISABLED and empty. -/

namespace Sys2Proof.Machine

set_option Elab.async false

/-! ### A port becomes DISABLED (R50, R91) -/

/-- From e to e' the work of port p has ended. -/
structure Ev.Unworked (p : PortId) (e e' : Ev) : Prop where
  part : Ev.Part p e e'
  power : (e'.port p).feed.power = .disabled
  triggers : (e'.port p).capture.queue = []
  exposure : (e'.port p).capture.exposure = none
  lens : (e'.port p).lens.state = .absent
  tether : ((e.port p).feed.power.feedOn = true ∧ (e.port p).tether.link ≠ .quiet) ∨ (e.port p).tether.Silent →
    (e'.port p).tether.Silent
  relay : ∀ a ∈ e'.relay, a.port = p → a.stage.unanswered = false

/-- The end of the work of a port whose feed is off. -/
def Ev.endUnfed (e : Ev) (p : PortId) : Ev :=
  ((((e.endOffPhase p).setPower p .disabled .config).lensAbsent p).cutCapture p .silent false).relayAbort p

theorem Ev.feedCut_unworked (e : Ev) (p : PortId) :
    Ev.Unworked p e (e.feedCut p .disabled .config .down .silent) := by
  have hcut := e.feedCut_spec p .disabled .config .down .silent
  constructor
  case part => exact e.feedCut_part ..
  case power => rw [hcut.feed]; rfl
  case triggers => exact hcut.triggers
  case lens => exact hcut.lens
  case exposure => rw [Ev.feedCut_eq, Ev.cutNeighbours, Ev.relayAbort_capture]; simp [Ev.cutCapture]
  case relay =>
    rw [Ev.feedCut_eq, Ev.cutNeighbours]
    exact Ev.relayAbort_answered _ p
  case tether =>
    intro h
    have hlink : (e.port p).tether.link ≠ .quiet := h.elim And.right fun hs => hs.link ▸ by decide
    obtain ⟨t, ht⟩ := Ev.enterOff_tether ((e.cutSupply p .disabled .config).updCable p Cable.endSession) p .down
    rw [Ev.feedCut_eq, if_neg hlink, Ev.cutNeighbours, Ev.relayAbort_tether, Ev.cutCapture_tether,
      Ev.lensAbsent_tether, ht]
    exact ⟨rfl, rfl, rfl, rfl⟩

theorem Ev.endOffPhase_tether (e : Ev) (p : PortId) : ((e.endOffPhase p).port p).tether = (e.port p).tether := by
  by_cases hboot : (e.port p).feed.power = .bootWait
  · obtain ⟨stamp, work, -, hdrop⟩ := e.dropEntry_eq p
    simp only [Ev.endOffPhase, hboot, Ev.endBootRequest, hdrop]
    simp [Ev.updFigures, Ev.port_updPort]
    rfl
  · rw [e.endOffPhase_eq p hboot, Ev.updFeed_port]

theorem Ev.relayAbort_feed (e : Ev) (p : PortId) : ((e.relayAbort p).port p).feed = (e.port p).feed :=
  ((e.relayAbort_teardown p).map Port.feed).kept

theorem Ev.cutCapture_feed (e : Ev) (p : PortId) (d : Disposal) (notSent : Bool) :
    ((e.cutCapture p d notSent).port p).feed = (e.port p).feed :=
  ((e.cutCapture_teardown p d notSent).map Port.feed).kept

theorem Ev.lensAbsent_feed (e : Ev) (p : PortId) : ((e.lensAbsent p).port p).feed = (e.port p).feed :=
  ((e.lensAbsent_teardown p).map Port.feed).kept

theorem Ev.endUnfed_unworked (e : Ev) (p : PortId) (hoff : (e.port p).feed.power.feedOn = false) :
    Ev.Unworked p e (e.endUnfed p) := by
  have hpart : Ev.Part p e (e.endUnfed p) :=
    by
    unfold Ev.endUnfed
    exact .trans (.trans (.trans (.trans (e.endOffPhase_part p) (Ev.setPower_part _ p .disabled .config))
      (Ev.lensAbsent_part _ p)) (Ev.cutCapture_part _ p .silent false)) (Ev.relayAbort_part _ p)
  constructor
  case part => exact hpart
  case power =>
    rw [Ev.endUnfed, Ev.relayAbort_feed, Ev.cutCapture_feed, Ev.lensAbsent_feed, Ev.setPower, Ev.markPower_port,
      Ev.updFeed_port]
    rfl
  case triggers => simp [Ev.endUnfed]
  case lens => simp [Ev.endUnfed]
  case exposure => rw [Ev.endUnfed, Ev.relayAbort_capture]; simp [Ev.cutCapture]
  case relay => exact Ev.relayAbort_answered _ p
  case tether =>
    intro h
    have hsilent : (e.port p).tether.Silent := h.resolve_left fun hfed => by simp [hoff] at hfed
    rw [Ev.endUnfed, Ev.relayAbort_tether, Ev.cutCapture_tether, Ev.lensAbsent_tether, Ev.setPower, Ev.markPower_port,
      Ev.updFeed_port]
    exact (e.endOffPhase_tether p).symm ▸ hsilent

/-! ### A port under ENTER_CONFIG (R188, step 4) -/

theorem RelayStage.unanswered_of_watermark? {a b : RelayStage} (hmark : a.watermark? = b.watermark?)
    (ha : a.unanswered = false) : b.unanswered = false := by
  cases b with
  | held => rfl
  | queued => cases a <;> simp_all [RelayStage.watermark?, RelayStage.unanswered]
  | sent => cases a <;> simp_all [RelayStage.watermark?, RelayStage.unanswered]

theorem RelayStage.watermark?_of_answered {a : RelayStage} (ha : a.unanswered = false) : ∃ w, a.watermark? = some w := by
  cases a with
  | held code value w cut => exact ⟨w, rfl⟩
  | queued => exact absurd ha (by decide)
  | sent => exact absurd ha (by decide)

theorem RelayStage.held_of_watermark? {a : RelayStage} {w : Word} (h : a.watermark? = some w) :
    ∃ code value cut, a = .held code value w cut := by
  cases a with
  | held code value w' cut => exact ⟨code, value, cut, by rw [Option.some.inj h]⟩
  | queued => exact absurd h (by simp [RelayStage.watermark?])
  | sent => exact absurd h (by simp [RelayStage.watermark?])

/-- No watermark of the port lies more than bound before its ingress count, the trailers still to come counted. -/
def Ev.Near (e : Ev) (p : PortId) (bound : Nat) : Prop :=
  ∀ r ∈ e.relay, r.port = p → ∀ w, r.stage.watermark? = some w →
    ((e.port p).ingress.ingressCount - w).toNat + (e.port p).ingress.record.trailers < bound

theorem Ingress.Advanced.near {i i' : Ingress} (h : i.Advanced i') (w : Word) :
    (i'.ingressCount - w).toNat + i'.record.trailers ≤ (i.ingressCount - w).toNat + i.record.trailers := by
  obtain ⟨m, hcount, hm⟩ := h.count
  have hmove : i'.ingressCount - w = i.ingressCount - w + BitVec.ofNat 32 m := by rw [hcount]; ring
  have hle : (i'.ingressCount - w).toNat ≤ (i.ingressCount - w).toNat + m := by
    rw [hmove, BitVec.toNat_add, BitVec.toNat_ofNat]
    exact (Nat.mod_le _ _).trans (Nat.add_le_add_left (Nat.mod_le _ _) _)
  omega

theorem Ev.Calm.near {e e' : Ev} (h : e.Calm e') {p : PortId} {bound : Nat}
    (hport : (e.port p).ingress.Advanced (e'.port p).ingress) (hnear : e.Near p bound) : e'.Near p bound := by
  intro r hr hp w hw
  obtain ⟨x, hx, hxport, hmark⟩ := h.relay r hr
  exact (hport.near w).trans_lt (hnear x hx (hxport.trans hp) w (hmark.trans hw))

theorem Ev.Calm.answered {e e' : Ev} (h : e.Calm e') {p : PortId}
    (hanswered : ∀ r ∈ e.relay, r.port = p → r.stage.unanswered = false) :
    ∀ r ∈ e'.relay, r.port = p → r.stage.unanswered = false := by
  intro r hr hp
  obtain ⟨x, hx, hxport, hmark⟩ := h.relay r hr
  exact RelayStage.unanswered_of_watermark? hmark (hanswered x hx (hxport.trans hp))

theorem Ev.Calm.gone {e e' : Ev} (h : e.Calm e') {p : PortId} (hgone : ∀ r ∈ e.relay, r.port ≠ p) :
    ∀ r ∈ e'.relay, r.port ≠ p := by
  intro r hr hp
  obtain ⟨x, hx, hxport, -⟩ := h.relay r hr
  exact hgone x hx (hxport.trans hp)

/-- From e to e' the port p has become DISABLED and empty, and its answers have been released. -/
structure Ev.Configured (p : PortId) (e e' : Ev) : Prop where
  part : Ev.Part p e e'
  quieted : (e'.port p).Quieted
  silent : ((e.port p).feed.power.feedOn = true ∧ (e.port p).tether.link ≠ .quiet) ∨ (e.port p).tether.Silent →
    (e'.port p).tether.Silent
  answered : ∀ r ∈ e'.relay, r.port = p → r.stage.unanswered = false
  released : (e.port p).ingress.Enclosed → e.Near p 2147483648 → ∀ r ∈ e'.relay, r.port ≠ p

theorem Ev.Unworked.configured {p : PortId} {e e₁ : Ev} (h : Ev.Unworked p e e₁) :
    Ev.Configured p e (((e₁.updFeed p Feed.enterConfig).ingressLinkLost p).flush p) := by
  obtain ⟨e₂, he₂⟩ : ∃ e₂ : Ev, e₂ = (e₁.updFeed p Feed.enterConfig).ingressLinkLost p := ⟨_, rfl⟩
  have hlost : Ev.Part p e₁ e₂ := he₂ ▸ .trans (.updPort _ _) (Ev.ingressLinkLost_part _ p)
  have hbeside : (e₂.port p).besideIngress = ((e₁.updFeed p Feed.enterConfig).port p).besideIngress :=
    he₂ ▸ Ev.ingressLinkLost_besideIngress _ p
  rw [Ev.updFeed_port] at hbeside
  simp only [Port.besideIngress, Prod.mk.injEq] at hbeside
  obtain ⟨hfeed, hcapture, hlens, htether⟩ := hbeside
  have hflush := e₂.flush_port p
  have hflushed {α : Type} (view : Port → α) (hview : ∀ x, view x.besideRelay = view x := by intro; rfl) :
      view ((e₂.flush p).port p) = view (e₂.port p).flushed := by
    rw [← hview ((e₂.flush p).port p), hflush, hview]
  have hpart : Ev.Part p e e₂ := h.part.trans hlost
  rw [← he₂]
  constructor
  case part => exact hpart.trans (e₂.flush_part p)
  case quieted =>
    have hfeed' : ((e₂.flush p).port p).feed = (e₁.port p).feed.enterConfig := (hflushed Port.feed).trans hfeed
    have hcapture' : ((e₂.flush p).port p).capture = (e₁.port p).capture := (hflushed Port.capture).trans hcapture
    have hlens' : ((e₂.flush p).port p).lens = (e₁.port p).lens := (hflushed Port.lens).trans hlens
    have hingress : ((e₂.flush p).port p).ingress = (e₂.port p).flushed.ingress := hflushed Port.ingress
    constructor
    case power => rw [hfeed']; exact h.power
    case hold => rw [hfeed']; rfl
    case retry => rw [hfeed']; rfl
    case invalidCount => rw [hfeed']; rfl
    case triggers => rw [hcapture']; exact h.triggers
    case exposure => rw [hcapture']; exact h.exposure
    case lens => rw [hlens']; exact h.lens
    case slots => rw [hingress]; rfl
    case record => rw [hingress]; rfl
  case silent =>
    intro hon
    obtain ⟨hlink, hchannel, hqueue, houtstanding⟩ := h.tether hon
    rw [hflushed Port.tether, Port.flushed, htether]
    exact ⟨hlink, hchannel, hqueue, houtstanding⟩
  case answered => exact (e₂.flush_part p).calm.answered (hlost.calm.answered h.relay)
  case released =>
    intro henclosed hnear
    refine e₂.flush_releases p (hpart.kept.ingress.enclosed henclosed) fun r hr hp => ?_
    obtain ⟨w, hw⟩ := RelayStage.watermark?_of_answered (hlost.calm.answered h.relay r hr hp)
    exact ⟨w, hw, (Nat.le_add_right _ _).trans_lt (hpart.calm.near hpart.kept.ingress hnear r hr hp w hw)⟩

theorem Ev.configPort_configured (e : Ev) (p : PortId) : Ev.Configured p e (e.configPort p) := by
  cases hon : (e.port p).feed.power.feedOn with
  | true =>
    have hconfig : e.configPort p = (((e.feedCut p .disabled .config .down .silent).updFeed p
        Feed.enterConfig).ingressLinkLost p).flush p :=
      congrArg (fun y : Ev => ((y.updFeed p Feed.enterConfig).ingressLinkLost p).flush p) (if_pos hon)
    exact hconfig ▸ (e.feedCut_unworked p).configured
  | false =>
    have hconfig : e.configPort p = (((e.endUnfed p).updFeed p Feed.enterConfig).ingressLinkLost p).flush p :=
      congrArg (fun y : Ev => ((y.updFeed p Feed.enterConfig).ingressLinkLost p).flush p)
        (if_neg (by rw [hon]; decide))
    exact hconfig ▸ (e.endUnfed_unworked p hon).configured

end Sys2Proof.Machine
end

section
/-! ENTER_CONFIG over all ports and all diagnoses (R174, R188, steps 2 and 4). -/

namespace Sys2Proof.Machine

set_option Elab.async false

/-! ### Every port in its turn -/

/-- From e to e' the ports l have become DISABLED and empty, and no other port has changed. -/
structure Ev.AllConfigured (l : List PortId) (e e' : Ev) : Prop where
  calm : e.Calm e'
  others : ∀ q, q ∉ l → e'.port q = e.port q
  kept : ∀ q, (e.port q).Keeps (e'.port q)
  diag : ∀ q, (e'.port q).cable.diag = (e.port q).cable.diag
  queue : e'.breaks.queue = e.breaks.queue
  livePlaces : e'.meter.livePlaces = e.meter.livePlaces
  offered : e'.meter.offered = e.meter.offered
  quieted : ∀ q ∈ l, (e'.port q).Quieted
  silent : ∀ q ∈ l, ((e.port q).feed.power.feedOn = true ∧ (e.port q).tether.link ≠ .quiet) ∨ (e.port q).tether.Silent →
    (e'.port q).tether.Silent
  answered : ∀ q ∈ l, ∀ r ∈ e'.relay, r.port = q → r.stage.unanswered = false
  released : ∀ q ∈ l, (e.port q).ingress.Enclosed → e.Near q 2147483648 → ∀ r ∈ e'.relay, r.port ≠ q

theorem Ev.AllConfigured.none (e : Ev) : e.AllConfigured [] e where
  calm := .refl e
  others _ _ := rfl
  kept _ := .refl _
  diag _ := rfl
  queue := rfl
  livePlaces := rfl
  offered := rfl
  quieted := by simp
  silent := by simp
  answered := by simp
  released := by simp

theorem Ev.AllConfigured.cons {p : PortId} {l : List PortId} {e e₁ e' : Ev} (h : Ev.Configured p e e₁)
    (hl : e₁.AllConfigured l e') (hp : p ∉ l) : e.AllConfigured (p :: l) e' := by
  have hsame {q : PortId} (hq : q ∈ l) : e₁.port q = e.port q := h.part.others q fun heq => hp (heq ▸ hq)
  constructor
  case calm => exact h.part.calm.trans hl.calm
  case others =>
    intro q hq
    obtain ⟨hqp, hql⟩ := not_or.mp (List.mem_cons.not.mp hq)
    exact (hl.others q hql).trans (h.part.others q hqp)
  case kept =>
    intro q
    by_cases hq : q = p
    · exact hq ▸ h.part.kept.trans (hl.kept p)
    · exact h.part.others q hq ▸ hl.kept q
  case diag =>
    intro q
    by_cases hq : q = p
    · exact hq ▸ (hl.diag p).trans h.part.diag
    · exact (hl.diag q).trans (congrArg (fun x => x.cable.diag) (h.part.others q hq))
  case queue => exact hl.queue.trans h.part.queue
  case livePlaces => exact hl.livePlaces.trans h.part.livePlaces
  case offered => exact hl.offered.trans h.part.offered
  case quieted =>
    intro q hq
    rcases List.mem_cons.mp hq with rfl | hql
    · exact (hl.others q hp).symm ▸ h.quieted
    · exact hl.quieted q hql
  case silent =>
    intro q hq hon
    rcases List.mem_cons.mp hq with rfl | hql
    · exact (hl.others q hp).symm ▸ h.silent hon
    · exact hl.silent q hql ((hsame hql).symm ▸ hon)
  case answered =>
    intro q hq
    rcases List.mem_cons.mp hq with rfl | hql
    · exact hl.calm.answered h.answered
    · exact hl.answered q hql
  case released =>
    intro q hq henclosed hnear
    rcases List.mem_cons.mp hq with rfl | hql
    · exact hl.calm.gone (h.released henclosed hnear)
    · exact hl.released q hql ((hsame hql).symm ▸ henclosed)
        (h.part.calm.near (by rw [hsame hql]; exact .refl _) hnear)

theorem Ev.configPorts_configured (l : List PortId) (hl : l.Nodup) (e : Ev) :
    e.AllConfigured l (l.foldl Ev.configPort e) := by
  induction l generalizing e with
  | nil => exact .none e
  | cons p l ih =>
    obtain ⟨hp, hrest⟩ := List.nodup_cons.mp hl
    exact .cons (e.configPort_configured p) (ih hrest _) hp

/-! ### A diagnosis aborted (R174) -/

/-- From e to e' the diagnosis of port p has been aborted, the next head served. -/
structure Ev.Aborted (p : PortId) (e e' : Ev) : Prop where
  calm : e.Calm e'
  kept : ∀ q, (e.port q).Keeps (e'.port q)
  feed : ∀ q, (e'.port q).feed = (e.port q).feed
  queue : e'.breaks.queue = e.breaks.queue.filter fun x => decide (x.port ≠ p)
  silent : (e'.port p).tether.Silent
  tether : ∀ q, q ≠ p → (e'.port q).tether = (e.port q).tether
  clear : (e'.port p).cable.diag = .clear
  diag : ∀ q, q ≠ p → (∀ x ∈ e'.breaks.queue, x.port ≠ q) → (e'.port q).cable.diag = (e.port q).cable.diag

/-- From e to e' the head of the diagnosis queue may have begun its wait or its offer (R171). -/
structure Ev.Headed (e e' : Ev) : Prop where
  calm : e.Calm e'
  kept : ∀ q, (e.port q).Keeps (e'.port q)
  feed : ∀ q, (e'.port q).feed = (e.port q).feed
  tether : ∀ q, (e'.port q).tether = (e.port q).tether
  queue : e'.breaks.queue = e.breaks.queue
  diag : ∀ q, (∀ x ∈ e.breaks.queue, x.port ≠ q) → (e'.port q).cable.diag = (e.port q).cable.diag

theorem Ev.Headed.refl (e : Ev) : e.Headed e := ⟨.refl e, fun _ => .refl _, fun _ => rfl, fun _ => rfl, rfl, fun _ _ => rfl⟩

/-- A column with another diagnosis state. -/
theorem Port.Keeps.diag (x : Port) (d : DiagState) : x.Keeps { x with cable := { x.cable with diag := d } } :=
  ⟨rfl, rfl, rfl, rfl, rfl, .refl _⟩

theorem Ev.setDiag_headed (e e' : Ev) {h : DiagEntry} (d : DiagState) (hmem : h ∈ e.breaks.queue)
    (hcalm : (e.setDiag h.port d).Calm e') (hports : e'.ports = (e.setDiag h.port d).ports)
    (hqueue : e'.breaks.queue = e.breaks.queue) : e.Headed e' := by
  have hport (q : PortId) : e'.port q
      = if q = h.port then { e.port q with cable := { (e.port q).cable with diag := d } } else e.port q :=
    (congrArg (fun v => v.get q) hports).trans (e.port_updPort h.port q _)
  constructor
  case calm => exact Ev.Calm.trans (e' := e.setDiag h.port d) { Ev.Calm.refl e with } hcalm
  case queue => exact hqueue
  case diag =>
    intro q hq
    rw [hport q, if_neg fun heq => hq h hmem heq.symm]
  case kept =>
    intro q
    rw [hport q]
    split
    · exact .diag _ d
    · exact .refl _
  case feed => intro q; rw [hport q]; split <;> rfl
  case tether => intro q; rw [hport q]; split <;> rfl

theorem Ev.offerFull_headed (e : Ev) {h : DiagEntry} (hmem : h ∈ e.breaks.queue) : e.Headed (e.offerFull h.port) :=
  e.setDiag_headed _ .queued hmem
    { Ev.Calm.refl (e.setDiag h.port .queued) with
      todo := fun t ht => (List.mem_append.mp ht).imp_right fun h => by rw [List.mem_singleton.mp h]; rfl } rfl rfl

theorem Ev.becomeHead_headed (e : Ev) : e.Headed e.becomeHead := by
  unfold Ev.becomeHead
  split
  · exact .refl e
  · next h rest hqueue =>
    have hmem : h ∈ e.breaks.queue := hqueue ▸ List.mem_cons_self
    split
    · exact e.offerFull_headed hmem
    · split
      · exact e.setDiag_headed _ .discharging hmem { Ev.Calm.refl (e.setDiag h.port .discharging) with } rfl rfl
      · exact e.offerFull_headed hmem

theorem Ev.cutFull_part (e : Ev) (p : PortId) : Ev.Part p e (e.cutFull p) := by
  unfold Ev.cutFull
  split
  · split
    · exact .trans (.trans (.updMeter _ _ rfl rfl) (.updMeter _ _ rfl rfl)) (.push _ rfl)
    · exact .refl ..
  · exact .refl ..

theorem Ev.cutFull_port (e : Ev) (p q : PortId) : (e.cutFull p).port q = e.port q := by
  unfold Ev.cutFull
  split
  · split <;> rfl
  · rfl

/-- The diagnosis leaves the queue, the meter and the cable record, and its link enters DOWN (R16, R174). -/
theorem Ev.leaveDiagnosis_split (e : Ev) (p : PortId) : ∃ e₁ : Ev, e.leaveDiagnosis p = e₁.enterOff p .down ∧ e.Calm e₁
    ∧ e₁.breaks.queue = (e.breaks.queue.filter fun x => decide (x.port ≠ p))
    ∧ ∀ q, e₁.port q = if q = p then { e.port q with cable := { (e.port q).cable with diag := .clear } } else e.port q :=
  ⟨_, rfl, { Ev.Calm.refl e with }, rfl, fun q => e.port_updPort p q _⟩

theorem Ev.leaveDiagnosis_aborted (e e' : Ev) (p : PortId) (hrest : Ev.Part p (e.leaveDiagnosis p) e')
    (htether : (e'.port p).tether = ((e.leaveDiagnosis p).port p).tether)
    (hfeed : (e'.port p).feed = ((e.leaveDiagnosis p).port p).feed) : Ev.Aborted p e e' := by
  obtain ⟨e₁, hleave, hcalm, hqueue, hport⟩ := e.leaveDiagnosis_split p
  rw [hleave] at hrest htether hfeed
  have hpart : Ev.Part p e₁ e' := (e₁.enterOff_part p .down).trans hrest
  obtain ⟨t, ht⟩ := e₁.enterOff_tether p .down
  have hother {q : PortId} (hq : q ≠ p) : e'.port q = e.port q := by rw [hpart.others q hq, hport q, if_neg hq]
  have hcolumn : e₁.port p = { e.port p with cable := { (e.port p).cable with diag := .clear } } :=
    (hport p).trans (if_pos rfl)
  constructor
  case calm => exact hcalm.trans hpart.calm
  case kept =>
    intro q
    by_cases hq : q = p
    · rw [hq]
      exact Port.Keeps.trans (hcolumn.symm ▸ .diag _ _) hpart.kept
    · rw [hother hq]
      exact .refl _
  case feed =>
    intro q
    by_cases hq : q = p
    · have hoff : ((e₁.enterOff p .down).port p).feed = (e₁.port p).feed :=
        ((e₁.enterOff_teardown p .down).map Prod.fst).kept
      rw [hq, hfeed, hoff, hcolumn]
    · rw [hother hq]
  case queue => exact hpart.queue.trans hqueue
  case silent => rw [htether, ht]; exact ⟨rfl, rfl, rfl, rfl⟩
  case tether => exact fun q hq => congrArg Port.tether (hother hq)
  case clear => rw [hpart.diag, hcolumn]
  case diag => exact fun q hq _ => congrArg (fun x => x.cable.diag) (hother hq)

theorem Ev.Aborted.headed {p : PortId} {e e' e'' : Ev} (h : Ev.Aborted p e e') (h' : e'.Headed e'') :
    Ev.Aborted p e e'' := by
  have hgone : ∀ x ∈ e'.breaks.queue, x.port ≠ p := by
    intro x hx
    rw [h.queue] at hx
    exact of_decide_eq_true (List.mem_filter.mp hx).2
  constructor
  case calm => exact h.calm.trans h'.calm
  case kept => exact fun q => (h.kept q).trans (h'.kept q)
  case feed => exact fun q => (h'.feed q).trans (h.feed q)
  case queue => exact h'.queue.trans h.queue
  case silent => rw [h'.tether]; exact h.silent
  case tether => exact fun q hq => (h'.tether q).trans (h.tether q hq)
  case clear => exact (h'.diag p hgone).trans h.clear
  case diag =>
    intro q hq hout
    rw [h'.queue] at hout
    exact (h'.diag q hout).trans (h.diag q hq hout)

theorem Ev.abortDiagnosis_aborted (e : Ev) {x : DiagEntry} (hx : x ∈ e.breaks.queue) :
    Ev.Aborted x.port e (e.abortDiagnosis x.port) := by
  obtain ⟨y, hy⟩ : ∃ y, (e.breaks.queue.find? fun y => decide (y.port = x.port)) = some y :=
    Option.isSome_iff_exists.mp (List.find?_isSome.mpr ⟨x, hx, decide_eq_true rfl⟩)
  obtain ⟨e₁, he₁⟩ : ∃ e₁ : Ev, e₁ = e.cutFull x.port := ⟨_, rfl⟩
  obtain ⟨e₂, he₂⟩ : ∃ e₂ : Ev, e₂ = ((e₁.leaveDiagnosis x.port).countCable x.port fun c => { c with
      aborted := bump c.aborted }).offer (.diagnosisEnd x.port (.aborted y.purpose)) := ⟨_, rfl⟩
  have hend : e.abortDiagnosis x.port = if e.breaks.headIs x.port then e₂.becomeHead else e₂ := by
    rw [he₂, he₁]
    simp only [Ev.abortDiagnosis, hy]
  have hcut : Ev.Part x.port e e₁ := he₁ ▸ e.cutFull_part x.port
  have hleft : Ev.Aborted x.port e₁ e₂ := by
    refine e₁.leaveDiagnosis_aborted e₂ x.port (he₂ ▸ .trans (.updPort _ _) (.offer ..)) ?_ ?_
    · rw [he₂, Ev.offer_port, Ev.countCable_port]
    · rw [he₂, Ev.offer_port, Ev.countCable_port]
  have hports (q : PortId) : e₁.port q = e.port q := he₁ ▸ e.cutFull_port x.port q
  have hab : Ev.Aborted x.port e e₂ := by
    constructor
    case calm => exact hcut.calm.trans hleft.calm
    case kept => exact fun q => hports q ▸ hleft.kept q
    case feed => exact fun q => hports q ▸ hleft.feed q
    case queue => exact hcut.queue ▸ hleft.queue
    case silent => exact hleft.silent
    case tether => exact fun q => hports q ▸ hleft.tether q
    case clear => exact hleft.clear
    case diag => exact fun q => hports q ▸ hleft.diag q
  rw [hend]
  split
  · exact hab.headed e₂.becomeHead_headed
  · exact hab

/-! ### Every diagnosis aborted (R174, R188) -/

/-- From e to e' every diagnosis has been aborted. -/
structure Ev.AllAborted (e e' : Ev) : Prop where
  calm : e.Calm e'
  kept : ∀ q, (e.port q).Keeps (e'.port q)
  feed : ∀ q, (e'.port q).feed = (e.port q).feed
  queue : e'.breaks.queue = []
  silent : ∀ x ∈ e.breaks.queue, (e'.port x.port).tether.Silent
  clear : ∀ x ∈ e.breaks.queue, (e'.port x.port).cable.diag = .clear
  others : ∀ q, (∀ x ∈ e.breaks.queue, x.port ≠ q) →
    (e'.port q).tether = (e.port q).tether ∧ (e'.port q).cable.diag = (e.port q).cable.diag

/-- The ports that a diagnosis holds. -/
def Breaks.ports (b : Breaks) : Finset PortId := (b.queue.map DiagEntry.port).toFinset

theorem Ev.AllAborted.none (e : Ev) (h : e.breaks.queue = []) : e.AllAborted e :=
  ⟨.refl e, fun _ => .refl _, fun _ => rfl, h, by simp [h], by simp [h], fun _ _ => ⟨rfl, rfl⟩⟩

theorem Ev.AllAborted.cons {x : DiagEntry} {e e₁ e' : Ev} (hx : x ∈ e.breaks.queue) (h : Ev.Aborted x.port e e₁)
    (hrest : e₁.AllAborted e') : e.AllAborted e' := by
  have hmem (y : DiagEntry) : y ∈ e₁.breaks.queue ↔ y ∈ e.breaks.queue ∧ y.port ≠ x.port := by
    rw [h.queue]
    simp
  have hleft : ∀ y ∈ e₁.breaks.queue, y.port ≠ x.port := fun y hy => ((hmem y).mp hy).2
  obtain ⟨htether, hdiag⟩ := hrest.others x.port hleft
  constructor
  case calm => exact h.calm.trans hrest.calm
  case kept => exact fun q => (h.kept q).trans (hrest.kept q)
  case feed => exact fun q => (hrest.feed q).trans (h.feed q)
  case queue => exact hrest.queue
  case silent =>
    intro y hy
    by_cases hsame : y.port = x.port
    · rw [hsame, htether]
      exact h.silent
    · exact hrest.silent y ((hmem y).mpr ⟨hy, hsame⟩)
  case clear =>
    intro y hy
    by_cases hsame : y.port = x.port
    · rw [hsame, hdiag]
      exact h.clear
    · exact hrest.clear y ((hmem y).mpr ⟨hy, hsame⟩)
  case others =>
    intro q hq
    have hqx : q ≠ x.port := (hq x hx).symm
    have hout : ∀ y ∈ e₁.breaks.queue, y.port ≠ q := fun y hy => hq y ((hmem y).mp hy).1
    obtain ⟨htether', hdiag'⟩ := hrest.others q hout
    exact ⟨htether'.trans (h.tether q hqx), hdiag'.trans (h.diag q hqx hout)⟩

theorem Ev.Aborted.ports_lt {x : DiagEntry} {e e' : Ev} (hx : x ∈ e.breaks.queue) (h : Ev.Aborted x.port e e') :
    e'.breaks.ports.card < e.breaks.ports.card := by
  refine Finset.card_lt_card (Finset.ssubset_iff_of_subset (fun q hq => ?_) |>.mpr ⟨x.port, ?_, ?_⟩)
  · rw [Breaks.ports, List.mem_toFinset, List.mem_map] at hq ⊢
    obtain ⟨y, hy, rfl⟩ := hq
    rw [h.queue] at hy
    exact ⟨y, List.mem_of_mem_filter hy, rfl⟩
  · rw [Breaks.ports, List.mem_toFinset]
    exact List.mem_map_of_mem hx
  · rw [Breaks.ports, List.mem_toFinset, List.mem_map, h.queue]
    rintro ⟨y, hy, hport⟩
    exact of_decide_eq_true (List.mem_filter.mp hy).2 hport

theorem Ev.abortAll_aborted (k : Nat) (e : Ev) (hk : e.breaks.ports.card ≤ k) : e.AllAborted (Ev.abortAll k e) := by
  induction k generalizing e with
  | zero =>
    refine .none e ?_
    rw [Nat.le_zero, Finset.card_eq_zero, Breaks.ports, List.toFinset_eq_empty_iff, List.map_eq_nil_iff] at hk
    exact hk
  | succ k ih =>
    unfold Ev.abortAll
    split
    · next hqueue => exact .none e hqueue
    · next x rest hqueue =>
      have hx : x ∈ e.breaks.queue := hqueue ▸ List.mem_cons_self
      have hab := e.abortDiagnosis_aborted hx
      exact .cons hx hab (ih _ (by have := hab.ports_lt hx; omega))

theorem Breaks.ports_le (b : Breaks) : b.ports.card ≤ 8 := (Finset.card_le_univ _).trans_eq (Fintype.card_fin 8)

end Sys2Proof.Machine
end

section
/-! ENTER_CONFIG (R187, R188). -/

namespace Sys2Proof.Machine

set_option Elab.async false

/-! ### What is left for the arbiters -/

/-- With an idle admission queue and no shot or measurement waiting, the arbiters change nothing but the output port and
the meter. -/
theorem Ev.settleBy_arbiters (k : Nat) (e : Ev) (hqueue : e.pool.queue = [])
    (hlive : e.meter.livePlaces = Vector.replicate 8 false) (hoffered : e.meter.offered = none)
    (htodo : ∀ t ∈ e.todo, t.arbitrates = true) :
    ∃ (o : Output) (m : Meter) (l : List Task), Ev.settleBy k e = { e with output := o, meter := m, todo := l } := by
  induction k generalizing e with
  | zero => exact ⟨e.output, e.meter, e.todo, rfl⟩
  | succ k ih =>
    cases hlist : e.todo with
    | nil => exact ⟨e.output, e.meter, e.todo, by simp only [Ev.settleBy, hlist]; rw [← hlist]⟩
    | cons t rest =>
      rw [hlist] at htodo
      obtain ⟨o', m', hlive', hoffered', hperform⟩ : ∃ (o' : Output) (m' : Meter),
          m'.livePlaces = Vector.replicate 8 false ∧ m'.offered = none
            ∧ ({ e with todo := rest } : Ev).perform t = { e with todo := rest, output := o', meter := m' } := by
        have hpart := htodo t List.mem_cons_self
        cases t with
        | serve => exact ⟨e.output, e.meter, hlive, hoffered, Ev.serve_nothing _ (by simp [hqueue])⟩
        | output =>
          obtain ⟨o', hpick⟩ := ({ e with todo := rest } : Ev).outputServe_eq
          exact ⟨o', e.meter, hlive, hoffered, hpick⟩
        | meter =>
          cases hholder : e.meter.holder with
          | some x => exact ⟨e.output, e.meter, hlive, hoffered, Ev.meterServe_busy _ (by simp [hholder])⟩
          | none =>
            cases hcal : e.meter.pendingCal with
            | false => exact ⟨e.output, e.meter, hlive, hoffered, Ev.meterServe_unasked _ hcal hlive hoffered⟩
            | true =>
              exact ⟨e.output, { e.meter with pendingCal := false, holder := some (.calibration, e.time + Config.shotTime) },
                hlive, hoffered, Ev.meterServe_calibration _ hholder hcal⟩
        | examine p => exact absurd hpart (by simp [Task.arbitrates])
        | handIn p => exact absurd hpart (by simp [Task.arbitrates])
        | channel p => exact absurd hpart (by simp [Task.arbitrates])
      obtain ⟨o, m, l, h⟩ := ih { e with todo := rest, output := o', meter := m' } hqueue hlive' hoffered'
        fun u hu => htodo u (List.mem_cons_of_mem t hu)
      simp only [Ev.settleBy, hlist]
      rw [hperform]
      exact ⟨o, m, l, h⟩

/-! ### The step into CONFIG (R188) -/

/-- The hub as ENTER_CONFIG finds it, in CONFIG, its DERATE ended and its router stopped (R188, step 1). -/
def Ev.intoConfig (e : Ev) : Ev :=
  ((e.updLink fun l => { l with opState := .config }).updPool Pool.enterConfig).updRouter Router.stopTimers

/-- From e to e' the hub has entered CONFIG (R188). -/
structure Ev.Entered (e e' : Ev) : Prop where
  calm : e.intoConfig.Calm e'
  admission : e'.pool.queue = []
  diagnoses : e'.breaks.queue = []
  livePlaces : e'.meter.livePlaces = Vector.replicate 8 false
  offered : e'.meter.offered = none
  kept : ∀ p, (e.port p).Keeps (e'.port p)
  quieted : ∀ p, (e'.port p).Quieted
  clear : ∀ p, (e.port p).cable.diag = .clear ∨ (∃ x ∈ e.breaks.queue, x.port = p) → (e'.port p).cable.diag = .clear
  silent : ∀ p, ((e.port p).feed.power.feedOn = true ∧ (e.port p).tether.link ≠ .quiet)
      ∨ (∃ x ∈ e.breaks.queue, x.port = p) ∨ (e.port p).tether.Silent → (e'.port p).tether.Silent
  answered : ∀ r ∈ e'.relay, r.stage.unanswered = false
  released : (∀ p, (e.port p).ingress.Enclosed) → (∀ p, e.Near p 2147483648) → e'.relay = []

theorem Ev.enterConfig_entered (e : Ev) : e.Entered e.enterConfig := by
  obtain ⟨e₁, he₁⟩ : ∃ e₁ : Ev, e₁ = Ev.abortAll 8 e.intoConfig := ⟨_, rfl⟩
  obtain ⟨e₂, he₂⟩ : ∃ e₂ : Ev, e₂ = e₁.updMeter Meter.enterConfig := ⟨_, rfl⟩
  obtain ⟨e₃, he₃⟩ : ∃ e₃ : Ev, e₃ = allPorts.foldl Ev.configPort e₂ := ⟨_, rfl⟩
  have hconfig : e.enterConfig = e₃.updPool fun q => q.setQueue [] := by
    rw [he₃, he₂, he₁]
    rfl
  have hab : e.intoConfig.AllAborted e₁ := he₁ ▸ Ev.abortAll_aborted 8 _ (Breaks.ports_le _)
  have hall : e₂.AllConfigured allPorts e₃ := he₃ ▸ Ev.configPorts_configured allPorts allPorts_nodup e₂
  have hport (p : PortId) : e₂.port p = e₁.port p := he₂ ▸ rfl
  have hbreaks : e₂.breaks = e₁.breaks := he₂ ▸ rfl
  have hcalm₂ : e.intoConfig.Calm e₂ := he₂ ▸ hab.calm.trans { Ev.Calm.refl e₁ with }
  have hcalm : e.intoConfig.Calm e₃ := hcalm₂.trans hall.calm
  have hkept₂ (p : PortId) : (e.port p).Keeps (e₂.port p) := (hport p).symm ▸ hab.kept p
  rw [hconfig]
  constructor
  case calm => exact hcalm.trans { Ev.Calm.refl e₃ with pool := by exact rfl }
  case admission => rfl
  case diagnoses => exact hall.queue.trans ((congrArg Breaks.queue hbreaks).trans hab.queue)
  case livePlaces => exact hall.livePlaces.trans (he₂ ▸ rfl)
  case offered => exact hall.offered.trans (he₂ ▸ rfl)
  case kept => exact fun p => (hkept₂ p).trans (hall.kept p)
  case quieted => exact fun p => hall.quieted p (allPorts_mem p)
  case clear =>
    intro p hp
    refine (hall.diag p).trans ((congrArg (fun x => x.cable.diag) (hport p)).trans ?_)
    by_cases hheld : ∃ x ∈ e.breaks.queue, x.port = p
    · obtain ⟨x, hx, rfl⟩ := hheld
      exact hab.clear x hx
    · exact (hab.others p fun x hx heq => hheld ⟨x, hx, heq⟩).2.trans (hp.resolve_right hheld)
  case silent =>
    intro p hp
    refine hall.silent p (allPorts_mem p) ?_
    rw [hport p]
    by_cases hheld : ∃ x ∈ e.breaks.queue, x.port = p
    · obtain ⟨x, hx, rfl⟩ := hheld
      exact .inr (hab.silent x hx)
    · obtain ⟨htether, -⟩ := hab.others p fun x hx heq => hheld ⟨x, hx, heq⟩
      rw [htether, hab.feed p]
      exact hp.imp_right fun h => h.resolve_left hheld
  case answered => exact fun r hr => hall.answered r.port (allPorts_mem _) r hr rfl
  case released =>
    intro henclosed hnear
    refine List.eq_nil_iff_forall_not_mem.mpr fun r hr => ?_
    have hkept := (hkept₂ r.port).ingress
    exact hall.released r.port (allPorts_mem _) (hkept.enclosed (henclosed _))
      (hcalm₂.near hkept (hnear _)) r hr rfl

/-- The reply of ENTER_CONFIG. -/
def configReply (h : ReqHeader) : Reply := { code := 0x04, tag := h.tag, port := h.port, status := .done, payload := [] }

/-- ENTER_CONFIG in RUN: the step into CONFIG, its reply, what the arbiters make of it, and its notices. -/
theorem State.enterConfig_run (s : State) (h : ReqHeader) (hs : s.listens) (hrun : s.link.opState = .run) :
    ∃ (e : Ev) (o : Output) (m : Meter) (l : List Notice), s.begin.countTaken.Entered e
      ∧ s.enterConfig h = ({ e.toState with
          output := o, meter := m
          link := { e.link with written := e.link.written ++ [configReply h] } } : State).noticed l := by
  obtain ⟨e, he⟩ : ∃ e : Ev, e = s.begin.countTaken.enterConfig := ⟨_, rfl⟩
  have hentered : s.begin.countTaken.Entered e := he ▸ s.begin.countTaken.enterConfig_entered
  obtain ⟨o, m, work, hsettle⟩ := Ev.settleBy_arbiters workBound (e.writeReply (configReply h)) hentered.admission
    hentered.livePlaces hentered.offered fun t ht => (hentered.calm.todo t ht).resolve_left (by exact List.not_mem_nil)
  have hanswer : (if s.begin.countTaken.link.opState = .run then answerDone s.begin.countTaken.enterConfig
      else answerDone s.begin.countTaken) = answerDone e := by
    rw [he]
    exact if_pos hrun
  exact ⟨e, o, m, (Ev.settle (e.writeReply (configReply h))).notices, hentered,
    s.hubRequest_noticed _ hs (a := answerDone e) hanswer rfl rfl (congrArg Ev.toState hsettle)⟩

theorem Router.stopTimers_pin (r : Router) (i : Fin 4) :
    r.stopTimers.pins.get i = { r.pins.get i with timer := none } := by
  simp [Router.stopTimers, Vector.get_eq_getElem]

/-- A hub that has entered CONFIG, from the state it left. -/
theorem State.enterConfig_near (s : State) (e : Ev) (hsame : e.ports = s.ports) (hrelay : e.relay = s.relay)
    (hheld : ∀ r ∈ s.relay, ∀ code value w cut, r.stage = .held code value w cut →
      ((s.port r.port).ingress.ingressCount - w).toNat < 2 ^ 30) (p : PortId) : e.Near p 2147483648 := by
  intro r hr hp w hw
  obtain ⟨code, value, cut, hstage⟩ := RelayStage.held_of_watermark? hw
  have hnear := hheld r (hrelay ▸ hr) code value w cut hstage
  have hport : e.port p = s.port r.port := hp ▸ congrArg (fun v => v.get r.port) hsame
  rw [hport]
  have htrailers : (s.port r.port).ingress.record.trailers ≤ 1 := by
    cases (s.port r.port).ingress.record <;> simp [FrameRecord.trailers]
  omega

/-- Settles O22: the teardown is followed part by part, what each keeps of the hub in Ev.Calm and of its port in
Ev.Part; the diagnoses are aborted by induction on the ports they hold, the ports taken down in their order. -/
theorem enterConfigQuietsTheHub : Obligations.EnterConfigQuietsTheHub := by
  unfold Obligations.EnterConfigQuietsTheHub
  refine fun h s hs => ⟨fun hconfig => ?_, fun hrun => ?_⟩
  · refine congrArg Host.Outcome.next (s.hubRequest_quiet s hs (e := s.begin.countTaken) ?_ rfl rfl rfl rfl)
    exact if_neg fun hrun : s.link.opState = .run => by simp [hconfig] at hrun
  · obtain ⟨e, o, m, l, hentered, hstep⟩ := s.enterConfig_run h hs hrun
    obtain ⟨hcalm, hadmission, hdiagnoses, -, -, hkept, hquieted, hclear, hsilent, hanswered, hreleased⟩ := hentered
    have hpool : s.begin.countTaken.intoConfig.pool.SameBut e.pool := hcalm.pool
    rw [Pool.SameBut] at hpool
    have hrouter : e.router = s.router.stopTimers := hcalm.router
    refine ⟨_, congrArg Host.Outcome.next hstep, (Link.joins_opState _ l).trans hcalm.opState, ?_⟩
    simp only [State.noticed_port, State.noticed_pool, State.noticed_relay, State.noticed_breaks]
    refine ⟨by rw [hpool]; rfl, by rw [hpool]; rfl, by rw [hpool]; rfl, by rw [hpool]; rfl, hadmission, by rw [hpool]; rfl,
      by rw [hpool]; rfl, congrArg Router.periodTimer hrouter, fun i => ?_, (congrArg Router.period hrouter :),
      (congrArg Router.map hrouter :), (congrArg Router.tagCounter hrouter :), hdiagnoses, hcalm.findings, hcalm.kinds, hanswered,
      fun henclosed hheld => ?_, ⟨e.link.written, Link.joins_written _ l⟩, fun p => ?_⟩
    · exact (congrArg (fun r : Router => r.pins.get i) hrouter).trans (s.router.stopTimers_pin i)
    · exact hreleased henclosed (s.enterConfig_near _ rfl rfl hheld)
    · obtain ⟨hpower, hhold, hretry, hinvalid, htriggers, hexposure, hlens, hslots, hrecord⟩ := hquieted p
      obtain ⟨hsettings, henabled, hprogram, hpresets, hbase, -⟩ := hkept p
      refine ⟨hpower, hhold, hretry, hinvalid, hsettings, henabled, htriggers, hexposure, hprogram, hlens, hpresets, hslots,
        hrecord, hbase, hclear p, fun hquiet => ?_⟩
      obtain ⟨hlink, hchannel, hqueue, houtstanding⟩ :=
        hsilent p (hquiet.imp_right fun h => h.imp_right fun ⟨h1, h2, h3, h4⟩ => ⟨h1, h2, h3, h4⟩)
      exact ⟨hlink, hchannel, hqueue, houtstanding⟩

end Sys2Proof.Machine
end
